-- ==== Sys2Proof/Word.lean ====
section
/-! DEFINITION. The words of the VS2412's links and the two small name spaces every other file uses:
the heads (spec 00_scope 0.9) and the fourteen ejecting stations (R116). -/

namespace Sys2Proof

/-- One byte of a command frame, a response frame or a head-link frame (spec 00_scope 0.10). -/
abbrev Byte := BitVec 8

/-- The two measurement heads, A and B (R43). -/
inductive Head where
  | a
  | b
deriving DecidableEq, Repr

/-- "The other head" (spec 03_measurement_heads, opening). -/
def Head.other : Head → Head
  | .a => .b
  | .b => .a

/-- The fourteen stations that own an air gate and a chute sensor: G0 to G11, CR and PG (R116). -/
inductive Chute where
  | gate (g : Fin 12)
  | checkReturn
  | purge
deriving DecidableEq, Repr

end Sys2Proof
end

