-- ==== Sys2Proof/Config.lean ====
section
/-! DEFINITION. What the spec fixes in the part: the geometry of the dial, the fixed times, the ranges to
which settings are limited and the widths at which counts saturate.  The spec leaves no value of an
effect open; the one free value here is an input that a row of the table does not carry (log entry 12). -/

namespace Sys2Proof.Config

/-- Pockets on the dial (R2, R18). -/
def pockets : Nat := 24

/-- Station offsets (R2; the table of spec 00_scope 0.6). -/
def offsetLoad : Nat := 0
def offsetEmptyCheck : Nat := 22

/-- HA stands at offset 3 and HB at offset 5 (R2). -/
def offsetHead : Head → Nat
  | .a => 3
  | .b => 5

/-- Gate g stands at offset 8 + g, CR at 20 and PG at 21 (R2). -/
def offsetChute : Chute → Nat
  | .gate g => 8 + g.val
  | .checkReturn => 20
  | .purge => 21

/-- The FEED and CHECK_FEED pulse, in ms (R28). -/
def feedPulseMs : Nat := 3

/-- Response timeout chosen by a timeout select, in ms (the table under R43). -/
def responseTimeoutMs (sel : Fin 4) : Nat :=
  match sel with
  | 0 => 4
  | 1 => 8
  | 2 => 16
  | 3 => 32

/-- Integration time asked for by an aperture code, in ms (spec 03_measurement_heads 3.2). -/
def integrationMs (aperture : Fin 4) : Nat :=
  match aperture with
  | 0 => 1
  | 1 => 2
  | 2 => 5
  | 3 => 10

/-- The response timeout must exceed the integration time by this much, in ms (R51, R157). -/
def timeoutMarginMs : Nat := 2

/-- Full scale of the raw code, 2^23 as the code of a part equal to the reference (R67, R69). -/
def codeFullScale : Int := 16777215
def codeReference : Int := 8388608

/-- Limits of a stored deviation, in ppm (R74, R75). -/
def deviationCeiling : Int := 9999999
def deviationFloor : Int := -1000000

/-- Consecutive misses at which the feeder is reported starved (R30). -/
def feedMissLimit : Nat := 8
def checkFeedMissLimit : Nat := 3

/-- Consecutive NO_REPLY readings that take a head OUT (R56). -/
def noReplyLimit : Nat := 3

/-- Consecutive misses that block a bin (R125) or report the purge chute (R127). -/
def missLimit : Nat := 3

/-- Largest value of a 16-bit count and of a 32-bit lot counter (R66, R114, R116, R136, R163). -/
def maxCount16 : Nat := 65535
def maxCount32 : Nat := 4294967295

/-- Largest serials: the loads that close the lot (R161). -/
def maxPartSerial : Nat := 16777215
def maxCheckSerial : Nat := 65535

/-- Largest payload length of a command frame (R176). -/
def maxCommandPayload : Nat := 40

/-- Type bytes and the IDENT tag of the head link (spec 11, head link frames). -/
def typeMeasure : Byte := 0x31#8
def typeIdent : Byte := 0x32#8
def typeResult : Byte := 0xB1#8
def typeIdentAnswer : Byte := 0xB2#8
def identTag : Byte := 0xFF#8

/-- The level of POCKET_SENSE at the rise of CS_N of each write that the part takes, by the number of the
write: a free value, of which nothing is known (R33, R176; log entry 12). -/
opaque pocketSenseAtWrite : Nat → Bool

end Sys2Proof.Config
end

