-- ==== Sys2Proof/Syntax.lean ====
section
/-! DEFINITION. The commands and events of the part: one constructor per row of spec/opcode_table.json, in
the table's order.  A row's operands are what the event carries: the head, the chute or the bin it
comes from, the bytes on a link, the fields of a command frame at their frame widths (spec 11,
command codes), and the level of an input line that the rule samples at the event. -/

namespace Sys2Proof

/-- One step of the part (spec/opcode_table.json). -/
inductive Instr where
  /-- POWER_ON_RESET (R1): RESET_N is released, with the levels of ESTOP and of CAN0 to CAN11 (bit g is CANg). -/
  | powerOnReset (estop : Bool) (cans : BitVec 12)
  /-- RESET_N_ASSERTED (R180). -/
  | resetNAsserted
  /-- INDEX_DONE (R6), with the level of POCKET_SENSE at the arrival it may deliver (R33). -/
  | indexDone (pocketSense : Bool)
  /-- MIN_DWELL_EXPIRY (R4). -/
  | minDwellExpiry
  /-- MOVE_TIMER_EXPIRY (R7). -/
  | moveTimerExpiry
  /-- ESTOP_ASSERTED (R9). -/
  | estopAsserted
  /-- ESTOP_RELEASED (R10). -/
  | estopReleased
  /-- START_LINE_EDGE (R12), with the level of POCKET_SENSE at the arrival (R33). -/
  | startLineEdge (pocketSense : Bool)
  /-- FEED_PULSE_END (R28). -/
  | feedPulseEnd
  /-- LOAD_SENSE (R29). -/
  | loadSense
  /-- FEED_WINDOW_EXPIRY (R30). -/
  | feedWindowExpiry
  /-- REQUEST_SENT (R46). -/
  | requestSent (h : Head)
  /-- QUIET_TIMER_EXPIRY (R46). -/
  | quietTimerExpiry (h : Head)
  /-- RESULT (R55): tag echo, raw code and status byte of the frame. -/
  | result (h : Head) (tag : Byte) (code : BitVec 24) (status : Byte)
  /-- IDENT_ANSWER (R51): tag echo and maximum range of the frame. -/
  | identAnswer (h : Head) (tag : Byte) (maxRange : Byte)
  /-- RESPONSE_TIMEOUT (R56). -/
  | responseTimeout (h : Head)
  /-- LINK_PAUSE (R45). -/
  | linkPause (h : Head)
  /-- FRAMING_ERROR (R45). -/
  | framingError (h : Head)
  /-- UNKNOWN_TYPE (R45): the byte that arrived. -/
  | unknownType (h : Head) (byte : Byte)
  /-- DISCARD_QUIET (R45). -/
  | discardQuiet (h : Head)
  /-- PULSE_TIMER_EXPIRY (R120). -/
  | pulseTimerExpiry (c : Chute)
  /-- CHUTE_PULSE (R121). -/
  | chutePulse (c : Chute)
  /-- WINDOW_TIMER_EXPIRY (R121). -/
  | windowTimerExpiry (c : Chute)
  /-- CAN_REMOVED (R132). -/
  | canRemoved (g : Fin 12)
  /-- CAN_INSERTED (R133). -/
  | canInserted (g : Fin 12)
  /-- WRITE_TRANSACTION (R176): CS_N rises; the whole bytes shifted in. -/
  | writeTransaction (sdi : List Byte)
  /-- POLL (R175): CS_N rises; the whole bytes shifted in, none or one. -/
  | poll (sdi : List Byte)
  /-- DISCARD (R177): CS_N rises; the whole bytes shifted in. -/
  | discard (sdi : List Byte)
  /-- READ_TRANSACTION (R178): CS_N rises; the whole bytes shifted in. -/
  | readTransaction (sdi : List Byte)
  /-- SET_DIAL (R15). -/
  | setDial (minDwell moveTimeout : BitVec 16) (startEnable : Byte)
  /-- SET_FEED (R32). -/
  | setFeed (window : Byte)
  /-- START (R12), with the level of POCKET_SENSE at the arrival (R33). -/
  | start (pocketSense : Bool)
  /-- STOP (R13). -/
  | stop
  /-- HOLD (R14). -/
  | hold
  /-- RELEASE (R14). -/
  | release
  /-- READ_DIAL (R16). -/
  | readDial
  /-- LOT_OPEN (R158). -/
  | lotOpen
  /-- LOT_CLOSE (R159). -/
  | lotClose
  /-- LOT_ABORT (R160). -/
  | lotAbort
  /-- READ_LOT (R165). -/
  | readLot
  /-- SET_NOMINAL (R151). -/
  | setNominal (mantissa : BitVec 16) (exponent : Byte)
  /-- SET_MEASURE (R151). -/
  | setMeasure (mode aperture : Byte) (agreeLimit : BitVec 16)
  /-- SET_RETEST (R151). -/
  | setRetest (doubtMask retestLimit slot1 slot2 lapLimit : Byte)
  /-- SET_CLASS (R152). -/
  | setClass (index : Byte) (lo hi : BitVec 32) (guardBand : BitVec 16)
      (primary overflow catchAll : Byte)
  /-- CLEAR_CLASSES (R152). -/
  | clearClasses
  /-- SET_CHECK (R151). -/
  | setCheck (interval : BitVec 16) (certified : BitVec 32) (driftLimit : BitVec 16)
  /-- COPY_ACTIVE (R153). -/
  | copyActive
  /-- READ_RECIPE (R153). -/
  | readRecipe (bank : Byte)
  /-- SET_HEAD (R60). -/
  | setHead (head timeoutSelect : Byte)
  /-- SET_HEAD_CAL (R61). -/
  | setHeadCal (head range : Byte) (offset gain : BitVec 16)
  /-- HEAD_ENABLE (R50). -/
  | headEnable (head : Byte)
  /-- HEAD_DISABLE (R59). -/
  | headDisable (head : Byte)
  /-- READ_HEAD (R65). -/
  | readHead (head : Byte)
  /-- READ_HEAD_STATS (R66). -/
  | readHeadStats (head : Byte)
  /-- FORCE_DOUBT (R64). -/
  | forceDoubt (head : Byte)
  /-- SET_GATE (R117). -/
  | setGate (pulseWidth confirmWindow : Byte)
  /-- SET_BIN (R130). -/
  | setBin (bin : Byte) (capacity threshold : BitVec 16)
  /-- STALL (R131). -/
  | stall (bin : Byte)
  /-- UNSTALL (R131). -/
  | unstall (bin : Byte)
  /-- READ_BIN (R134). -/
  | readBin (index : Byte)
  /-- READ_POCKET (R37). -/
  | readPocket (pocket : Byte)
  /-- VOID_POCKET (R38). -/
  | voidPocket (pocket : Byte)
  /-- REROUTE_POCKET (R40). -/
  | reroutePocket (pocket cls : Byte)
  /-- FORCE_CLASS (R102). -/
  | forceClass (cls : Byte)
  /-- REQUEST_CHECK (R138). -/
  | requestCheck
  /-- READ_FAULTS (R172). -/
  | readFaults
  /-- ACK_FAULTS (R168): the set of flags, flag 0 least significant. -/
  | ackFaults (flags : BitVec 32)
  /-- READ_CAPTURE (R170). -/
  | readCapture (which : Byte)
  /-- ACK_CAPTURE (R170). -/
  | ackCapture (which : Byte)
  /-- SET_ATTN_MASK (R171). -/
  | setAttnMask (mask : BitVec 32)
  /-- RESET_SORT (R173). -/
  | resetSort
  /-- TRANSACTION_BEGIN (R175): CS_N falls. -/
  | transactionBegin
  /-- BYTE_RECEIVED (R45): a byte on a head link's receive pair. -/
  | byteReceived (h : Head) (byte : Byte)
deriving DecidableEq, Repr

end Sys2Proof
end

