-- ==== Sys2Proof/WellFormed.lean ====
section
/-! DEFINITION. Which terms of `Instr` name an event of the part as its row of the opcode table names it.
Command operands are whole fields of a frame, every value of which the host may send, so a command
row is always well formed; out-of-range values are the business of its rule (R150). -/

namespace Sys2Proof

/-- The row's own condition on its operands. -/
def Instr.wf : Instr → Bool
  -- R176: "in which two or more bytes were clocked"
  | .writeTransaction sdi => 2 ≤ sdi.length
  -- R175: "fewer than two bytes"
  | .poll sdi => sdi.length < 2
  -- R45: "a byte arrives that is not the type of a response"
  | .unknownType _ byte => byte != Config.typeResult && byte != Config.typeIdentAnswer
  | _ => true

/-- A well-formed term of `Instr`. -/
abbrev Instr.WellFormed (i : Instr) : Prop := i.wf = true

end Sys2Proof
end

