-- ==== Sys2Proof/Decode.lean ====
section
/-! DEFINITION. The two word forms of a command.  The rows of spec/opcode_table.json give no bits, so
`decodeTableWord` reads none.  What the spec does give is the command frame of the SPI link (R176 and
the command code table of spec 11): `frameOf` writes the frame of a command row and `decodeFrame`
reads one, total on any code and payload. -/

namespace Sys2Proof

/-- The opcode table gives its rows no bits: no word spells a command (log entry 2). -/
def decodeTableWord (_nbits _w : Nat) : Option Instr := none

/-- `k` bytes of `v`, most significant first (spec 00_scope 0.10). -/
def bytesBE (k v : Nat) : List Byte :=
  match k with
  | 0 => []
  | k + 1 => BitVec.ofNat 8 (v / 256 ^ k) :: bytesBE k v

/-- The bytes of a 16-bit and of a 32-bit field, most significant first. -/
def bytes16 (v : BitVec 16) : List Byte := [v.extractLsb' 8 8, v.extractLsb' 0 8]
def bytes32 (v : BitVec 32) : List Byte :=
  [v.extractLsb' 24 8, v.extractLsb' 16 8, v.extractLsb' 8 8, v.extractLsb' 0 8]

/-- The field two or four bytes carry, most significant first. -/
def word16 (b1 b0 : Byte) : BitVec 16 := b1 ++ b0
def word32 (b3 b2 b1 b0 : Byte) : BitVec 32 := b3 ++ b2 ++ b1 ++ b0

/-- A command frame less its length byte, which is the length of the payload (R176). -/
structure Frame where
  code : Byte
  payload : List Byte
deriving DecidableEq, Repr

/-- The frame as it is shifted in: code, payload length, payload (spec 11, frame headers). -/
def Frame.bytes (f : Frame) : List Byte :=
  f.code :: BitVec.ofNat 8 f.payload.length :: f.payload

/-- The command code table: the request payload length of a code, or none for a code not in it. -/
def requestLength (code : Byte) : Option Nat :=
  match code.toNat with
  | 0x10 => some 5
  | 0x11 => some 1
  | 0x12 => some 0
  | 0x13 => some 0
  | 0x14 => some 0
  | 0x15 => some 0
  | 0x16 => some 0
  | 0x20 => some 0
  | 0x21 => some 0
  | 0x22 => some 0
  | 0x23 => some 0
  | 0x30 => some 3
  | 0x31 => some 4
  | 0x32 => some 5
  | 0x33 => some 14
  | 0x34 => some 0
  | 0x35 => some 8
  | 0x36 => some 0
  | 0x37 => some 1
  | 0x40 => some 2
  | 0x41 => some 6
  | 0x42 => some 1
  | 0x43 => some 1
  | 0x44 => some 1
  | 0x45 => some 1
  | 0x46 => some 1
  | 0x50 => some 2
  | 0x51 => some 5
  | 0x52 => some 1
  | 0x53 => some 1
  | 0x54 => some 1
  | 0x60 => some 1
  | 0x61 => some 1
  | 0x62 => some 2
  | 0x63 => some 1
  | 0x64 => some 0
  | 0x70 => some 0
  | 0x71 => some 4
  | 0x72 => some 1
  | 0x73 => some 1
  | 0x74 => some 4
  | 0x7F => some 0
  | _ => none

/-- The command frame of a row that is a command; none for a row that is an event of the part. -/
def frameOf : Instr → Option Frame
  | .setDial d m e => some ⟨0x10#8, bytes16 d ++ bytes16 m ++ [e]⟩
  | .setFeed w => some ⟨0x11#8, [w]⟩
  | .start _ => some ⟨0x12#8, []⟩
  | .stop => some ⟨0x13#8, []⟩
  | .hold => some ⟨0x14#8, []⟩
  | .release => some ⟨0x15#8, []⟩
  | .readDial => some ⟨0x16#8, []⟩
  | .lotOpen => some ⟨0x20#8, []⟩
  | .lotClose => some ⟨0x21#8, []⟩
  | .lotAbort => some ⟨0x22#8, []⟩
  | .readLot => some ⟨0x23#8, []⟩
  | .setNominal m e => some ⟨0x30#8, bytes16 m ++ [e]⟩
  | .setMeasure m a l => some ⟨0x31#8, [m, a] ++ bytes16 l⟩
  | .setRetest d r s1 s2 l => some ⟨0x32#8, [d, r, s1, s2, l]⟩
  | .setClass i lo hi g p o c => some ⟨0x33#8, [i] ++ bytes32 lo ++ bytes32 hi ++ bytes16 g ++ [p, o, c]⟩
  | .clearClasses => some ⟨0x34#8, []⟩
  | .setCheck k c d => some ⟨0x35#8, bytes16 k ++ bytes32 c ++ bytes16 d⟩
  | .copyActive => some ⟨0x36#8, []⟩
  | .readRecipe b => some ⟨0x37#8, [b]⟩
  | .setHead h t => some ⟨0x40#8, [h, t]⟩
  | .setHeadCal h r o g => some ⟨0x41#8, [h, r] ++ bytes16 o ++ bytes16 g⟩
  | .headEnable h => some ⟨0x42#8, [h]⟩
  | .headDisable h => some ⟨0x43#8, [h]⟩
  | .readHead h => some ⟨0x44#8, [h]⟩
  | .readHeadStats h => some ⟨0x45#8, [h]⟩
  | .forceDoubt h => some ⟨0x46#8, [h]⟩
  | .setGate p w => some ⟨0x50#8, [p, w]⟩
  | .setBin g c t => some ⟨0x51#8, [g] ++ bytes16 c ++ bytes16 t⟩
  | .stall g => some ⟨0x52#8, [g]⟩
  | .unstall g => some ⟨0x53#8, [g]⟩
  | .readBin i => some ⟨0x54#8, [i]⟩
  | .readPocket p => some ⟨0x60#8, [p]⟩
  | .voidPocket p => some ⟨0x61#8, [p]⟩
  | .reroutePocket p c => some ⟨0x62#8, [p, c]⟩
  | .forceClass c => some ⟨0x63#8, [c]⟩
  | .requestCheck => some ⟨0x64#8, []⟩
  | .readFaults => some ⟨0x70#8, []⟩
  | .ackFaults f => some ⟨0x71#8, bytes32 f⟩
  | .readCapture w => some ⟨0x72#8, [w]⟩
  | .ackCapture w => some ⟨0x73#8, [w]⟩
  | .setAttnMask m => some ⟨0x74#8, bytes32 m⟩
  | .resetSort => some ⟨0x7F#8, []⟩
  | _ => none

/-- The command row a frame stands for, with the level of POCKET_SENSE that START's arrival samples
(a frame does not carry it).  None for a code that is not in the table or a wrong payload length. -/
def decodeFrame (pocketSense : Bool) (f : Frame) : Option Instr :=
  match f.code.toNat, f.payload with
  | 0x10, [d1, d0, m1, m0, e] => some (.setDial (word16 d1 d0) (word16 m1 m0) e)
  | 0x11, [w] => some (.setFeed w)
  | 0x12, [] => some (.start pocketSense)
  | 0x13, [] => some .stop
  | 0x14, [] => some .hold
  | 0x15, [] => some .release
  | 0x16, [] => some .readDial
  | 0x20, [] => some .lotOpen
  | 0x21, [] => some .lotClose
  | 0x22, [] => some .lotAbort
  | 0x23, [] => some .readLot
  | 0x30, [m1, m0, e] => some (.setNominal (word16 m1 m0) e)
  | 0x31, [m, a, l1, l0] => some (.setMeasure m a (word16 l1 l0))
  | 0x32, [d, r, s1, s2, l] => some (.setRetest d r s1 s2 l)
  | 0x33, [i, l3, l2, l1, l0, h3, h2, h1, h0, g1, g0, p, o, c] =>
      some (.setClass i (word32 l3 l2 l1 l0) (word32 h3 h2 h1 h0) (word16 g1 g0) p o c)
  | 0x34, [] => some .clearClasses
  | 0x35, [k1, k0, c3, c2, c1, c0, d1, d0] =>
      some (.setCheck (word16 k1 k0) (word32 c3 c2 c1 c0) (word16 d1 d0))
  | 0x36, [] => some .copyActive
  | 0x37, [b] => some (.readRecipe b)
  | 0x40, [h, t] => some (.setHead h t)
  | 0x41, [h, r, o1, o0, g1, g0] => some (.setHeadCal h r (word16 o1 o0) (word16 g1 g0))
  | 0x42, [h] => some (.headEnable h)
  | 0x43, [h] => some (.headDisable h)
  | 0x44, [h] => some (.readHead h)
  | 0x45, [h] => some (.readHeadStats h)
  | 0x46, [h] => some (.forceDoubt h)
  | 0x50, [p, w] => some (.setGate p w)
  | 0x51, [g, c1, c0, t1, t0] => some (.setBin g (word16 c1 c0) (word16 t1 t0))
  | 0x52, [g] => some (.stall g)
  | 0x53, [g] => some (.unstall g)
  | 0x54, [i] => some (.readBin i)
  | 0x60, [p] => some (.readPocket p)
  | 0x61, [p] => some (.voidPocket p)
  | 0x62, [p, c] => some (.reroutePocket p c)
  | 0x63, [c] => some (.forceClass c)
  | 0x64, [] => some .requestCheck
  | 0x70, [] => some .readFaults
  | 0x71, [f3, f2, f1, f0] => some (.ackFaults (word32 f3 f2 f1 f0))
  | 0x72, [w] => some (.readCapture w)
  | 0x73, [w] => some (.ackCapture w)
  | 0x74, [m3, m2, m1, m0] => some (.setAttnMask (word32 m3 m2 m1 m0))
  | 0x7F, [] => some .resetSort
  | _, _ => none

end Sys2Proof
end

