-- ==== Sys2Proof/Machine/State.lean ====
section
/-! DEFINITION. The state of the part as plain data, block by block in the order of the manual's chapters,
the reasons a step can stop, and the state right after the power-on reset. -/

namespace Sys2Proof.Machine

/-- A value kept once for each head (R43, R136). -/
structure PerHead (α : Type) where
  a : α
  b : α
deriving DecidableEq, Repr

/-- A timer that is stopped or running; `ms` is the length it was started with (spec 00_scope 0.13). -/
inductive Timer where
  | stopped
  | running (ms : Nat)
deriving DecidableEq, Repr

/-! ### Index controller (R1) -/

/-- The dial states (R1). -/
inductive DialState where
  | idle
  | dwell
  | held
  | moving
  | jammed
  | estopped
deriving DecidableEq, Repr

/-- The minimum-dwell timer, which keeps apart "elapsed" from "stopped" (R1, R4). -/
inductive DwellTimer where
  | stopped
  | running (ms : Nat)
  | elapsed
deriving DecidableEq, Repr

/-- The stations that can join the busy set (R3). -/
inductive Station where
  | load
  | head (h : Head)
  | eject (c : Chute)
deriving DecidableEq, Repr

/-- The busy set: one entry per station in the order LOAD, HA, HB, G0 to G11, CR, PG (R3, R16). -/
abbrev BusySet := Vector Bool 17

/-- The state of the index controller (R1). -/
structure Dial where
  state : DialState
  /-- D, the number of the pocket under LOAD. -/
  position : Fin 24
  busy : BusySet
  dwellTimer : DwellTimer
  moveTimer : Timer
  hostHold : Bool
  stopPending : Bool
  /-- Minimum dwell, 20 to 500 ms. -/
  minDwell : Nat
  /-- Move timeout, 50 to 2000 ms. -/
  moveTimeout : Nat
  startEnable : Bool
deriving DecidableEq, Repr

/-! ### Pocket records (R18 to R23) -/

/-- Kind of a live record (R19). -/
inductive Kind where
  | part
  | check
deriving DecidableEq, Repr

/-- The purge mark of a MEASURING record (R22). -/
inductive PurgeMark where
  | voided
  | abort
deriving DecidableEq, Repr

/-- The eight purge reasons, in the order of their codes (R19). -/
inductive PurgeReason where
  | noResult
  | noClass
  | lapLimit
  | voided
  | recall
  | ejectMiss
  | abort
  | reset
deriving DecidableEq, Repr

/-- What a head that answered reported, and the deviation formed from it (R20, R74). -/
structure Sample where
  code : BitVec 24
  /-- The seven status flags at their positions of the status byte. -/
  status : Byte
  /-- ppm, −1,000,000 to +9,999,999 (R75). -/
  deviation : Int
  saturated : Bool
deriving DecidableEq, Repr

/-- One kept reading (R20); `sample` is absent for NO_REPLY. -/
structure Reading where
  head : Head
  sample : Option Sample
  epoch : BitVec 16
  doubtful : Bool
  forced : Bool
deriving DecidableEq, Repr

/-- The record flags (R21). -/
structure RecordFlags where
  forced : Bool
  recalled : Bool
  recallPending : Bool
  degraded : Bool
  saturated : Bool
deriving DecidableEq, Repr

/-- The deciding head with its epoch, or both heads each with its own (R19). -/
inductive Deciders where
  | one (h : Head) (epoch : BitVec 16)
  | both (epochA epochB : BitVec 16)
deriving DecidableEq, Repr

/-- The result deviation, which is held with the deciding heads (R19). -/
structure Grading where
  deviation : Int
  deciders : Deciders
deriving DecidableEq, Repr

/-- Where a record is being ejected; at PG it keeps its purge reason (R19, R23). -/
inductive Ejecting where
  | gate (g : Fin 12)
  | checkReturn
  | purge (reason : PurgeReason)
deriving DecidableEq, Repr

/-- The six live states with the fields present in one state only (R18, R19). -/
inductive Phase where
  | pending (next : Head) (openPair : Bool)
  | measuring (head : Head) (openPair : Bool) (mark : Option PurgeMark)
  | classified
  | ejecting (at_ : Ejecting)
  | purgePending (reason : PurgeReason)
  | checkDone
deriving DecidableEq, Repr

/-- A record in a live state (R19). -/
structure LiveRecord where
  kind : Kind
  lot : Nat
  serial : Nat
  lap : Nat
  attempts : Nat
  readings : List Reading
  flags : RecordFlags
  phase : Phase
  grading : Option Grading
  cls : Option (Fin 12)
deriving DecidableEq, Repr

/-- A pocket record; EMPTY and UNKNOWN hold no field (R18, R19). -/
inductive PocketRecord where
  | empty
  | unknown
  | live (r : LiveRecord)
deriving DecidableEq, Repr

/-! ### Feed unit (R26) -/

/-- A feed in flight (R26). -/
structure Feed where
  target : Fin 24
  kind : Kind
  lot : Nat
  aborted : Bool
  reset : Bool
deriving DecidableEq, Repr

/-- The feed unit (R26) with its two outputs; an output is asserted while its 3 ms pulse runs (R28). -/
structure FeedUnit where
  /-- Feed window, 5 to 100 ms. -/
  window : Nat
  inFlight : Option Feed
  windowTimer : Timer
  misses : Nat
  checkMisses : Nat
  feedOut : Bool
  checkFeedOut : Bool
deriving DecidableEq, Repr

/-! ### Head interfaces (R43) -/

/-- Why a head is OUT (R43, R44). -/
inductive OutReason where
  | host
  | lost
  | drift
  | incapable
  | reset
deriving DecidableEq, Repr

/-- Head states; the out reason is present while OUT (R43). -/
inductive HeadState where
  | out (reason : OutReason)
  | probing
  | ready
  | measuring
deriving DecidableEq, Repr

/-- One range's calibration entry (R43). -/
structure Calibration where
  /-- −2000 to +2000 counts. -/
  offset : Int
  /-- −5000 to +5000 ppm. -/
  gain : Int
deriving DecidableEq, Repr

/-- What a request asks for; the range and aperture of a MEASURE are fixed when it is made (R53). -/
inductive RequestKind where
  | measure (pocket : Fin 24) (range : Fin 7) (aperture : Fin 4)
  | ident
deriving DecidableEq, Repr

/-- The request in flight (R43). -/
structure Request where
  kind : RequestKind
  sent : Bool
deriving DecidableEq, Repr

/-- The link receiver, with the bytes of the frame in progress (R45). -/
inductive Receiver where
  | idle
  | inFrame (bytes : List Byte)
  | discarding
deriving DecidableEq, Repr

/-- The five head counters (R66). -/
structure HeadCounters where
  measurements : Nat
  doubtful : Nat
  noReplies : Nat
  late : Nat
  linkErrors : Nat
deriving DecidableEq, Repr

/-- A head record (R43). -/
structure HeadUnit where
  state : HeadState
  maxRange : Option (Fin 7)
  timeoutSelect : Fin 4
  calibration : Vector Calibration 7
  epoch : BitVec 16
  noReplies : Nat
  forceDoubt : Bool
  request : Option Request
  responseTimer : Timer
  /-- Running for what remains of the response timeout `ms` of the abandoned request (R46). -/
  quietTimer : Timer
  counters : HeadCounters
  receiver : Receiver
deriving DecidableEq, Repr

/-! ### Check unit (R136) -/

/-- The check unit (R136). -/
structure CheckUnit where
  counter : Nat
  due : Bool
  exposure : PerHead Nat
  lastDrift : PerHead Int
deriving DecidableEq, Repr

/-! ### Gate and bin unit (R114, R116) -/

/-- A bin record (R114). -/
structure Bin where
  capacity : Nat
  threshold : Nat
  fill : Nat
  /-- Canister present: the level of CANg. -/
  present : Bool
  stalled : Bool
  blocked : Bool
  misses : Nat
  swaps : BitVec 16
  removedLatch : Bool
  insertedLatch : Bool
  spills : Nat
deriving DecidableEq, Repr

/-- Pulse width and confirm window, in ms (R116). -/
structure GateSettings where
  pulseWidth : Nat
  confirmWindow : Nat
deriving DecidableEq, Repr

/-- Ejector states with the items present in FIRED (R116). -/
inductive EjectorState where
  | idle
  | fired (pocket : Fin 24) (sweep : Bool)
  | settling
deriving DecidableEq, Repr

/-- An ejector record (R116); `driven` is its output line. -/
structure Ejector where
  state : EjectorState
  driven : Bool
  pulseTimer : Timer
  windowTimer : Timer
  inUse : Option GateSettings
  noise : Nat
deriving DecidableEq, Repr

/-- The gate and bin unit: G0 to G11, CR and PG are the ejectors 0 to 13 (R114, R116). -/
structure GateUnit where
  bins : Vector Bin 12
  ejectors : Vector Ejector 14
  purgeMisses : Nat
  settings : GateSettings
deriving DecidableEq, Repr

/-! ### Recipe and lot unit (R149, R154, R163) -/

/-- Measure modes (R149). -/
inductive MeasureMode where
  | singleA
  | singleB
  | confirm
deriving DecidableEq, Repr

/-- Retest policies (R149). -/
inductive Policy where
  | same
  | alternate
deriving DecidableEq, Repr

/-- A defined entry of a class list (R97). -/
structure ClassDef where
  lo : Int
  hi : Int
  guardBand : Nat
  primary : Fin 12
  overflow : Option (Fin 12)
  catchAll : Bool
deriving DecidableEq, Repr

/-- A recipe bank (R149). -/
structure Recipe where
  mantissa : Nat
  exponent : Int
  mode : MeasureMode
  aperture : Fin 4
  agreeLimit : Nat
  /-- The maskable flags at their positions of the head status byte. -/
  doubtMask : Byte
  retestLimit : Nat
  slot1 : Policy
  slot2 : Policy
  lapLimit : Nat
  classes : Vector (Option ClassDef) 12
  checkInterval : Nat
  certified : Int
  driftLimit : Nat
deriving DecidableEq, Repr

/-- The two recipe banks (R149). -/
structure Banks where
  pending : Recipe
  active : Recipe
deriving DecidableEq, Repr

/-- Lot states (R154). -/
inductive LotState where
  | noLot
  | open_
  | draining
deriving DecidableEq, Repr

/-- The lot counters (R163); `purged` is indexed by the code of the purge reason. -/
structure LotCounters where
  loaded : Nat
  checkLoads : Nat
  checkReturns : Nat
  binned : Vector Nat 12
  spilled : Nat
  purged : Vector Nat 8
  lost : Nat
  abandoned : Nat
  recalled : Nat
  retests : Nat
  passedUnsorted : Nat
  swept : Nat
deriving DecidableEq, Repr

/-- The lot (R154). -/
structure Lot where
  state : LotState
  number : Nat
  counters : LotCounters
deriving DecidableEq, Repr

/-! ### Fault unit (R166, R169, R171) -/

/-- Flags 0 to 18, one bit per flag number (R166, R172). -/
abbrev FlagSet := BitVec 19

/-- Kinds of the pocket capture (R169). -/
inductive PocketFault where
  | strayPart
  | spill
  | lostPart
  | ejectMiss
deriving DecidableEq, Repr

/-- A filled pocket capture (R169). -/
structure PocketCapture where
  kind : PocketFault
  pocket : Fin 24
  lot : Nat
  serial : Nat
  /-- The station, given as its offset. -/
  station : Nat
  cls : Option (Fin 12)
deriving DecidableEq, Repr

/-- Kinds of the head capture (R169). -/
inductive HeadFault where
  | drift
  | lost
  | substituted
deriving DecidableEq, Repr

/-- A filled head capture (R169). -/
structure HeadCapture where
  kind : HeadFault
  head : Head
  epoch : BitVec 16
  exposure : Nat
  drift : Option Int
deriving DecidableEq, Repr

/-- The fault unit.  `events` holds the sixteen event flags; the three condition flags are not stored,
they are what their conditions are (R166; see `Machine/Flags.lean`). -/
structure FaultUnit where
  events : FlagSet
  gateBlockedBins : BitVec 12
  nearFullBins : BitVec 12
  fullBins : BitVec 12
  unsortedClasses : BitVec 12
  pocketCapture : Option PocketCapture
  headCapture : Option HeadCapture
  /-- The attention mask at the positions 6 to 18 (R171). -/
  attnMask : FlagSet
deriving DecidableEq, Repr

/-! ### Command link unit (R174, R175, R179) -/

/-- Response statuses (R179). -/
inductive Status where
  | ok
  | clamped
  | refusedState
  | badIndex
  | badLength
  | unknownCommand
  | inFlight
  | notLive
  | notDrained
  | invalidRecipe
deriving DecidableEq, Repr

/-- A response: what the response slot holds (R174, R179). -/
structure Response where
  status : Status
  payload : List Byte
deriving DecidableEq, Repr

/-- The link state with the slot each state fills: the command slot in BUSY, the response slot in
RESPONSE, both empty in READY (the table of R174).  In BUSY the answer that the owning block gave when it
was handed the command is kept until it is returned: the model's own item, which no response shows before
(R176; log entry 7). -/
inductive LinkState where
  | ready
  | busy (command : Frame) (answer : Response)
  | response (r : Response)
deriving DecidableEq, Repr

/-- The link state as a transaction takes it at the fall of CS_N (R175). -/
inductive LinkPhase where
  | ready
  | busy
  | response
deriving DecidableEq, Repr

/-- CS_N high; CS_N low in a transaction the part does not take (R174); CS_N low in a transaction taken
in a link state (R175). -/
inductive Transaction where
  | idle
  | notTaken
  | taken (phase : LinkPhase)
deriving DecidableEq, Repr

/-- The command link unit (R174), and the bytes shifted out on SDO in the latest transaction (R175): none
in one that the part does not take, and none while RESET_N is asserted (R174). -/
structure Link where
  state : LinkState
  transaction : Transaction
  shiftedOut : List Byte
  /-- The writes taken so far: the model's own count, which only picks the free level of POCKET_SENSE that a
  written START samples (log entry 12). -/
  writes : Nat
deriving DecidableEq, Repr

/-- The input lines the part follows as levels and that no block's item holds (R180). -/
structure Lines where
  /-- RESET_N is asserted. -/
  inReset : Bool
  /-- ESTOP is asserted. -/
  estop : Bool
deriving DecidableEq, Repr

/-- The state of the part. -/
structure State where
  dial : Dial
  pockets : Vector PocketRecord 24
  feed : FeedUnit
  heads : PerHead HeadUnit
  /-- The force-class one-shot: clear, or armed with a class index (R102). -/
  forceClass : Option (Fin 12)
  check : CheckUnit
  gates : GateUnit
  banks : Banks
  lot : Lot
  faults : FaultUnit
  link : Link
  lines : Lines
  /-- The commands and events that wait, first in, first out.  The model's own field. -/
  pending : List Instr
deriving DecidableEq, Repr

/-- A reason to stop with a fault.  There is none: every event and command of the part has an effect
its rules give. -/
inductive Fault where
deriving DecidableEq, Repr

/-- A reason to refuse a command. -/
inductive Refusal where
  /-- Raised by `exec` for a row that has no meaning yet (safe); no row is left so. -/
  | notModelled (mnemonic : String)
deriving DecidableEq, Repr

/-! ### The power-on reset -/

/-- Power-on values of a head record (R43). -/
def HeadUnit.reset : HeadUnit where
  state := .out .reset
  maxRange := none
  timeoutSelect := 1
  calibration := Vector.replicate 7 ⟨0, 0⟩
  epoch := 0#16
  noReplies := 0
  forceDoubt := false
  request := none
  responseTimer := .stopped
  quietTimer := .stopped
  counters := ⟨0, 0, 0, 0, 0⟩
  receiver := .idle

/-- Power-on values of a bin record; canister present is the level of CANg (R114). -/
def Bin.reset (present : Bool) : Bin where
  capacity := 1000
  threshold := 900
  fill := 0
  present := present
  stalled := false
  blocked := false
  misses := 0
  swaps := 0#16
  removedLatch := false
  insertedLatch := false
  spills := 0

/-- Power-on values of an ejector record (R116). -/
def Ejector.reset : Ejector where
  state := .idle
  driven := false
  pulseTimer := .stopped
  windowTimer := .stopped
  inUse := none
  noise := 0

/-- Power-on contents of a recipe bank (R149); the doubt mask is SHORT, UNSETTLED and GUARD (0x16). -/
def Recipe.reset : Recipe where
  mantissa := 1000
  exponent := 0
  mode := .singleA
  aperture := 1
  agreeLimit := 20
  doubtMask := 0x16#8
  retestLimit := 1
  slot1 := .alternate
  slot2 := .same
  lapLimit := 2
  classes := Vector.replicate 12 none
  checkInterval := 0
  certified := 0
  driftLimit := 50

/-- Lot counters all 0 (R154, R158). -/
def LotCounters.zero : LotCounters where
  loaded := 0
  checkLoads := 0
  checkReturns := 0
  binned := Vector.replicate 12 0
  spilled := 0
  purged := Vector.replicate 8 0
  lost := 0
  abandoned := 0
  recalled := 0
  retests := 0
  passedUnsorted := 0
  swept := 0

/-- The part right after the power-on reset, each item at the value its block's rule gives (R1, R26, R35,
R43, R102, R114, R116, R136, R149, R154, R166, R169, R171, R174).  DESIGN CHOICE (log entry 3): the
lines are taken as ESTOP released, every CAN asserted and CS_N high, so that no transaction is in progress. -/
def State.reset : State where
  dial :=
    { state := .idle, position := 0, busy := Vector.replicate 17 false, dwellTimer := .stopped,
      moveTimer := .stopped, hostHold := false, stopPending := false, minDwell := 60,
      moveTimeout := 300, startEnable := false }
  pockets := Vector.replicate 24 .unknown
  feed :=
    { window := 40, inFlight := none, windowTimer := .stopped, misses := 0, checkMisses := 0,
      feedOut := false, checkFeedOut := false }
  heads := ⟨HeadUnit.reset, HeadUnit.reset⟩
  forceClass := none
  check := { counter := 0, due := false, exposure := ⟨0, 0⟩, lastDrift := ⟨0, 0⟩ }
  gates :=
    { bins := Vector.replicate 12 (Bin.reset true), ejectors := Vector.replicate 14 Ejector.reset,
      purgeMisses := 0, settings := ⟨4, 15⟩ }
  banks := ⟨Recipe.reset, Recipe.reset⟩
  lot := { state := .noLot, number := 0, counters := LotCounters.zero }
  faults :=
    { events := 0#19, gateBlockedBins := 0#12, nearFullBins := 0#12, fullBins := 0#12,
      unsortedClasses := 0#12, pocketCapture := none, headCapture := none, attnMask := 0x7FFC0#19 }
  link := { state := .ready, transaction := .idle, shiftedOut := [], writes := 0 }
  lines := { inReset := false, estop := false }
  pending := []

end Sys2Proof.Machine
end

