-- ==== Sys2Proof/Machine/Ops.lean ====
section
/-! DEFINITION. The named operations over the blocks' state: reads, one-field updates, the busy set, the
pocket table, the heads, the bins and ejectors, and the lot counters.  Each block's rules are written
over these and over nothing lower. -/

namespace Sys2Proof.Machine

/-! ### Counting -/

/-- A count that saturates at `max` after an increase by `k` (spec 00_scope 0.10). -/
def satAdd (max n k : Nat) : Nat := min max (n + k)

/-- A count that saturates at `max` after an increase by one (spec 00_scope 0.10). -/
def bump (max n : Nat) : Nat := satAdd max n 1

/-! ### Values kept per head -/

def PerHead.get {α : Type} (v : PerHead α) : Head → α
  | .a => v.a
  | .b => v.b

def PerHead.set {α : Type} (v : PerHead α) (h : Head) (x : α) : PerHead α :=
  match h with
  | .a => { v with a := x }
  | .b => { v with b := x }

/-! ### One block changed, the others kept -/

def State.onDial (s : State) (f : Dial → Dial) : State := { s with dial := f s.dial }
def State.onFeed (s : State) (f : FeedUnit → FeedUnit) : State := { s with feed := f s.feed }
def State.onCheck (s : State) (f : CheckUnit → CheckUnit) : State := { s with check := f s.check }
def State.onGates (s : State) (f : GateUnit → GateUnit) : State := { s with gates := f s.gates }
def State.onLot (s : State) (f : Lot → Lot) : State := { s with lot := f s.lot }
def State.onFaults (s : State) (f : FaultUnit → FaultUnit) : State := { s with faults := f s.faults }
def State.onLink (s : State) (f : Link → Link) : State := { s with link := f s.link }

/-- A change of the PENDING bank alone (R150). -/
def State.onPendingBank (s : State) (f : Recipe → Recipe) : State :=
  { s with banks := { s.banks with pending := f s.banks.pending } }

/-- A change of the lot counters alone (R163). -/
def State.onCounters (s : State) (f : LotCounters → LotCounters) : State :=
  s.onLot fun l => { l with counters := f l.counters }

/-! ### The busy set (R3) -/

/-- Place of an ejector: G0 to G11, CR, PG (R116). -/
def chuteIndex : Chute → Fin 14
  | .gate g => ⟨g.val, by omega⟩
  | .checkReturn => 12
  | .purge => 13

/-- Place of a station in the busy set: LOAD, HA, HB, G0 to G11, CR, PG (R16). -/
def Station.index : Station → Fin 17
  | .load => 0
  | .head .a => 1
  | .head .b => 2
  | .eject c => ⟨3 + (chuteIndex c).val, by omega⟩

/-- The station is a member of the busy set. -/
def State.isBusy (s : State) (st : Station) : Bool := s.dial.busy[st.index.val]

/-- The station joins the busy set (R3). -/
def State.joinBusy (s : State) (st : Station) : State :=
  s.onDial fun d => { d with busy := d.busy.set st.index.val true }

/-- The station leaves the busy set (R3). -/
def State.leaveBusy (s : State) (st : Station) : State :=
  s.onDial fun d => { d with busy := d.busy.set st.index.val false }

/-- The busy set is empty. -/
def State.busyEmpty (s : State) : Bool := s.dial.busy == Vector.replicate 17 false

/-! ### The pocket table (R18) -/

/-- The pocket standing at the station at an offset: (D + 24 − k) mod 24 (R2). -/
def State.pocketAt (s : State) (offset : Nat) : Fin 24 :=
  ⟨(s.dial.position.val + 24 - offset) % 24, Nat.mod_lt _ (by decide)⟩

/-- The offset at which a pocket stands: (D + 24 − p) mod 24 (R37). -/
def State.offsetOf (s : State) (p : Fin 24) : Nat := (s.dial.position.val + 24 - p.val) % 24

/-- The record of a pocket. -/
def State.pocket (s : State) (p : Fin 24) : PocketRecord := s.pockets[p.val]

/-- The record of one pocket replaced. -/
def State.setPocket (s : State) (p : Fin 24) (r : PocketRecord) : State :=
  { s with pockets := s.pockets.set p.val r }

/-- A live record written to a pocket. -/
def State.setLive (s : State) (p : Fin 24) (r : LiveRecord) : State := s.setPocket p (.live r)

/-- Every live record changed by one rule; EMPTY and UNKNOWN records kept. -/
def State.mapLive (s : State) (f : LiveRecord → PocketRecord) : State :=
  { s with
    pockets := Vector.ofFn fun i : Fin 24 =>
      match s.pockets[i.val] with
      | .live r => f r
      | other => other }

/-- How many live records satisfy a test. -/
def State.countLive (s : State) (test : LiveRecord → Bool) : Nat :=
  s.pockets.toList.countP fun
    | .live r => test r
    | _ => false

/-- Every pocket record satisfies a test. -/
def State.allPockets (s : State) (test : PocketRecord → Bool) : Bool := s.pockets.toList.all test

/-- A record is live when its state is neither EMPTY nor UNKNOWN (R18). -/
def PocketRecord.isLive : PocketRecord → Bool
  | .live _ => true
  | _ => false

/-- A record is UNKNOWN (R18). -/
def PocketRecord.isUnknown : PocketRecord → Bool
  | .unknown => true
  | _ => false

/-! ### The heads (R43) -/

def State.head (s : State) (h : Head) : HeadUnit := s.heads.get h

def State.onHead (s : State) (h : Head) (f : HeadUnit → HeadUnit) : State :=
  { s with heads := s.heads.set h (f (s.heads.get h)) }

/-- A head is in service when its state is READY or MEASURING (R44). -/
def HeadState.inService : HeadState → Bool
  | .ready => true
  | .measuring => true
  | _ => false

def State.inService (s : State) (h : Head) : Bool := (s.head h).state.inService

/-- A counter of a head increased by one, saturating at 65535 (R66). -/
def count16 (n : Nat) : Nat := bump Config.maxCount16 n

/-! ### Bins and ejectors (R114, R116) -/

def State.bin (s : State) (g : Fin 12) : Bin := s.gates.bins[g.val]

def State.onBin (s : State) (g : Fin 12) (f : Bin → Bin) : State :=
  s.onGates fun u => { u with bins := u.bins.set g.val (f u.bins[g.val]) }

def State.ejector (s : State) (c : Chute) : Ejector := s.gates.ejectors[(chuteIndex c).val]

def State.onEjector (s : State) (c : Chute) (f : Ejector → Ejector) : State :=
  s.onGates fun u => { u with ejectors := u.ejectors.set (chuteIndex c).val (f u.ejectors[(chuteIndex c).val]) }

/-- A bin is OPEN: canister present, not stalled, not blocked, fill below capacity (R115). -/
def Bin.isOpen (b : Bin) : Bool :=
  b.present && !b.stalled && !b.blocked && decide (b.fill < b.capacity)

/-- Near full: a threshold other than 0 that the fill has reached (R129). -/
def Bin.isNearFull (b : Bin) : Bool := b.threshold != 0 && decide (b.threshold ≤ b.fill)

/-- Full: fill at or above capacity (R129). -/
def Bin.isFull (b : Bin) : Bool := decide (b.capacity ≤ b.fill)

/-! ### The lot and its counters (R154, R163) -/

/-- A lot number is that of the current lot: OPEN or DRAINING, and equal (R154). -/
def State.isCurrentLot (s : State) (lot : Nat) : Bool :=
  s.lot.state != .noLot && s.lot.number == lot

/-- A PART record of the current lot (R154). -/
def State.isCurrentPart (s : State) (r : LiveRecord) : Bool :=
  r.kind == .part && s.isCurrentLot r.lot

/-- A report about a record moves the counters only for a PART record of the current lot (R154; log entry 16). -/
def State.reportPart (s : State) (r : LiveRecord) (f : LotCounters → LotCounters) : State :=
  if s.isCurrentPart r then s.onCounters f else s

/-- A lot counter of 32 bits increased by one (R163). -/
def count32 (n : Nat) : Nat := bump Config.maxCount32 n

/-- Place of a purge reason among the purged counts (R165). -/
def PurgeReason.code : PurgeReason → Fin 8
  | .noResult => 0
  | .noClass => 1
  | .lapLimit => 2
  | .voided => 3
  | .recall => 4
  | .ejectMiss => 5
  | .abort => 6
  | .reset => 7

def LotCounters.countBinned (g : Fin 12) (c : LotCounters) : LotCounters :=
  { c with binned := c.binned.set g.val (count32 c.binned[g.val]) }

def LotCounters.countPurged (reason : PurgeReason) (c : LotCounters) : LotCounters :=
  { c with purged := c.purged.set reason.code.val (count32 c.purged[reason.code.val]) }

/-- The end of a drain: in DRAINING, with every record EMPTY or UNKNOWN and no feed in flight, the lot
state becomes NO_LOT (R162). -/
def State.drainTest (s : State) : State :=
  if s.lot.state == .draining && s.feed.inFlight.isNone && s.allPockets (fun r => !r.isLive) then
    s.onLot fun l => { l with state := .noLot }
  else s

/-! ### Recipes (R67, R97) -/

/-- The measuring range of a recipe: E + 3 (R67). -/
def Recipe.range (r : Recipe) : Fin 7 := ⟨min (r.exponent + 3).toNat 6, by omega⟩

/-- The entry of a class list at an index (R97). -/
def Recipe.cls (r : Recipe) (c : Fin 12) : Option ClassDef := r.classes[c.val]

/-- The response timeout of a head is too short for an aperture: less than the integration time plus 2 ms
(R51, R157). -/
def HeadUnit.tooShortFor (u : HeadUnit) (aperture : Fin 4) : Bool :=
  decide (Config.responseTimeoutMs u.timeoutSelect < Config.integrationMs aperture + Config.timeoutMarginMs)

/-- A head's maximum range is at or above a range (R157, R158). -/
def HeadUnit.reaches (u : HeadUnit) (range : Fin 7) : Bool :=
  match u.maxRange with
  | some m => decide (range ≤ m)
  | none => false

/-! ### Events -/

/-- An event reaches the part unless RESET_N is asserted (R180; log entry 4). -/
def State.event (s : State) (f : State → State) : Host.Outcome State Fault Refusal :=
  .next (if s.lines.inReset then s else f s)

end Sys2Proof.Machine
end

