-- ==== Sys2Proof/Machine/Flags.lean ====
section
/-! DEFINITION. The fault unit: the nineteen flags and how each is computed, raising and capturing
(R166, R167, R169), and the output lines HOLD, ATTN, STEP, RDY and SDO as the rules give them (R171, R174,
R6). -/

namespace Sys2Proof.Machine

/-- The fault flags in the order of their numbers (the table of R166). -/
inductive Flag where
  | dialJam
  | spuriousIndex
  | strayPart
  | purgeBlocked
  | noHead
  | estop
  | spill
  | lostPart
  | ejectMiss
  | headDrift
  | headLost
  | headSubstituted
  | feederStarved
  | checkStarved
  | gateBlocked
  | binNearFull
  | binFull
  | passedUnsorted
  | recordsUnknown
deriving DecidableEq, Repr

/-- The number of a flag (R166). -/
def Flag.number : Flag → Nat
  | .dialJam => 0
  | .spuriousIndex => 1
  | .strayPart => 2
  | .purgeBlocked => 3
  | .noHead => 4
  | .estop => 5
  | .spill => 6
  | .lostPart => 7
  | .ejectMiss => 8
  | .headDrift => 9
  | .headLost => 10
  | .headSubstituted => 11
  | .feederStarved => 12
  | .checkStarved => 13
  | .gateBlocked => 14
  | .binNearFull => 15
  | .binFull => 16
  | .passedUnsorted => 17
  | .recordsUnknown => 18

/-- The set holding one flag. -/
def Flag.bit (f : Flag) : FlagSet := 1#19 <<< f.number

/-- The sixteen event flags: all but NO_HEAD, ESTOP and RECORDS_UNKNOWN (R166). -/
def eventFlags : FlagSet := ~~~(Flag.noHead.bit ||| Flag.estop.bit ||| Flag.recordsUnknown.bit)

/-- The severe flags 0 to 5 (R166). -/
def severeFlags : FlagSet := 0x3F#19

/-- The attention flags 6 to 18, which the attention mask enables (R171). -/
def attentionFlags : FlagSet := 0x7FFC0#19

/-! ### Condition flags -/

/-- NO_HEAD: the lot is OPEN and neither head is in service (R95). -/
def State.noHead (s : State) : Bool :=
  s.lot.state == .open_ && !s.inService .a && !s.inService .b

/-- RECORDS_UNKNOWN: at least one record is UNKNOWN (R18). -/
def State.recordsUnknown (s : State) : Bool := !s.allPockets (fun r => !r.isUnknown)

/-- The condition flags that stand (R166). -/
def State.conditionFlags (s : State) : FlagSet :=
  (if s.noHead then Flag.noHead.bit else 0#19) ||| (if s.lines.estop then Flag.estop.bit else 0#19) |||
    (if s.recordsUnknown then Flag.recordsUnknown.bit else 0#19)

/-- All nineteen flags, set bits for set flags (R172). -/
def State.flags (s : State) : FlagSet := (s.faults.events &&& eventFlags) ||| s.conditionFlags

/-- A flag is set. -/
def State.flagSet (s : State) (f : Flag) : Bool := s.flags.getLsbD f.number

/-- Some severe flag is set (R4, R5). -/
def State.anySevere (s : State) : Bool := s.flags &&& severeFlags != 0#19

/-! ### Output lines -/

/-- HOLD: any severe flag or the host hold; released while RESET_N is asserted (R171, R180). -/
def State.holdLine (s : State) : Bool := !s.lines.inReset && (s.anySevere || s.dial.hostHold)

/-- ATTN: any severe flag, or an attention flag that the mask enables (R171, R180). -/
def State.attnLine (s : State) : Bool :=
  !s.lines.inReset && (s.anySevere || s.flags &&& s.faults.attnMask &&& attentionFlags != 0#19)

/-- STEP: asserted while MOVING (R6, R180). -/
def State.stepLine (s : State) : Bool := !s.lines.inReset && s.dial.state == .moving

/-- RDY: asserted in RESPONSE (R174, R180). -/
def State.rdyLine (s : State) : Bool :=
  !s.lines.inReset &&
    match s.link.state with
    | .response _ => true
    | _ => false

/-- SDO is driven in a transaction the part has taken; at other times, and while RESET_N is asserted, it is in
high impedance (R174, R175; log entry 22 for CS_N high and a transaction not taken). -/
def State.sdoDriven (s : State) : Bool :=
  !s.lines.inReset &&
    match s.link.transaction with
    | .taken _ => true
    | _ => false

/-! ### Raising (R167) and capturing (R169) -/

/-- An event flag is set, whether it was clear or already set (R167). -/
def State.raise (s : State) (f : Flag) : State :=
  s.onFaults fun u => { u with events := u.events ||| f.bit }

/-- GATE_BLOCKED is raised with its bin number (R125). -/
def State.raiseGateBlocked (s : State) (g : Fin 12) : State :=
  (s.raise .gateBlocked).onFaults fun u =>
    { u with gateBlockedBins := u.gateBlockedBins ||| (1#12 <<< g.val) }

/-- BIN_NEAR_FULL is raised with its bin number (R129). -/
def State.raiseNearFull (s : State) (g : Fin 12) : State :=
  (s.raise .binNearFull).onFaults fun u =>
    { u with nearFullBins := u.nearFullBins ||| (1#12 <<< g.val) }

/-- BIN_FULL is raised with its bin number (R129). -/
def State.raiseFull (s : State) (g : Fin 12) : State :=
  (s.raise .binFull).onFaults fun u => { u with fullBins := u.fullBins ||| (1#12 <<< g.val) }

/-- PASSED_UNSORTED is raised, with the record's class (R111). -/
def State.raiseUnsorted (s : State) (c : Option (Fin 12)) : State :=
  (s.raise .passedUnsorted).onFaults fun u =>
    match c with
    | some k => { u with unsortedClasses := u.unsortedClasses ||| (1#12 <<< k.val) }
    | none => u

/-- The flag that raises a pocket capture of this kind (R166). -/
def PocketFault.flag : PocketFault → Flag
  | .strayPart => .strayPart
  | .spill => .spill
  | .lostPart => .lostPart
  | .ejectMiss => .ejectMiss

/-- Rank of a pocket capture (R166). -/
def PocketFault.rank : PocketFault → Nat
  | .strayPart => 4
  | .spill => 3
  | .lostPart => 2
  | .ejectMiss => 1

/-- The flag that raises a head capture of this kind (R166). -/
def HeadFault.flag : HeadFault → Flag
  | .drift => .headDrift
  | .lost => .headLost
  | .substituted => .headSubstituted

/-- Rank of a head capture (R166). -/
def HeadFault.rank : HeadFault → Nat
  | .drift => 3
  | .lost => 2
  | .substituted => 1

/-- The pocket capture after an offer: filled when empty or of lower rank (R169). -/
def takePocketOffer (held : Option PocketCapture) (offer : PocketCapture) : Option PocketCapture :=
  match held with
  | none => some offer
  | some c => if c.kind.rank < offer.kind.rank then some offer else some c

/-- The head capture after an offer: filled when empty or of lower rank (R169). -/
def takeHeadOffer (held : Option HeadCapture) (offer : HeadCapture) : Option HeadCapture :=
  match held with
  | none => some offer
  | some c => if c.kind.rank < offer.kind.rank then some offer else some c

/-- A flag with a pocket capture is raised and its capture offered (R167, R169). -/
def State.raisePocket (s : State) (c : PocketCapture) : State :=
  (s.raise c.kind.flag).onFaults fun u => { u with pocketCapture := takePocketOffer u.pocketCapture c }

/-- A flag with a head capture is raised and its capture offered (R167, R169). -/
def State.raiseHead (s : State) (c : HeadCapture) : State :=
  (s.raise c.kind.flag).onFaults fun u => { u with headCapture := takeHeadOffer u.headCapture c }

/-- The head capture of a head as it stands, without drift (R51, R92). -/
def State.headCaptureOf (s : State) (kind : HeadFault) (h : Head) : HeadCapture :=
  { kind := kind, head := h, epoch := (s.head h).epoch, exposure := s.check.exposure.get h, drift := none }

end Sys2Proof.Machine
end

