-- ==== Sys2Proof/Machine/Link.lean ====
section
/-! DEFINITION. The command link unit: the slots, what a transaction shifts out, the tests of a written frame,
and the taking of a command row and its answer (R174 to R179).  The transaction rows stand in
Machine/Commands.lean, after the commands they hand to their blocks. -/

namespace Sys2Proof.Machine

/-- The link state as a transaction takes it (R175). -/
def LinkState.phase : LinkState → LinkPhase
  | .ready => .ready
  | .busy _ _ => .busy
  | .response _ => .response

/-- The link-state byte (spec 11, link-state byte). -/
def LinkPhase.byte : LinkPhase → Byte
  | .ready => 0xA0#8
  | .busy => 0xA1#8
  | .response => 0xA2#8

/-- The value of a status byte (R179). -/
def Status.byte : Status → Byte
  | .ok => 0x00#8
  | .clamped => 0x01#8
  | .refusedState => 0x10#8
  | .badIndex => 0x11#8
  | .badLength => 0x12#8
  | .unknownCommand => 0x13#8
  | .inFlight => 0x14#8
  | .notLive => 0x15#8
  | .notDrained => 0x16#8
  | .invalidRecipe => 0x17#8

/-- The response frame: status, payload length, payload (spec 11, frame headers; log entry 27 for a payload of more
than 255 bytes). -/
def Response.bytes (r : Response) : List Byte :=
  r.status.byte :: BitVec.ofNat 8 r.payload.length :: r.payload

/-- The command slot and the response slot (the table of R174). -/
def State.commandSlot (s : State) : Option Frame :=
  match s.link.state with
  | .busy f _ => some f
  | _ => none

def State.responseSlot (s : State) : Option Response :=
  match s.link.state with
  | .response r => some r
  | _ => none

/-- The answer is placed in the response slot and the command slot is emptied: RESPONSE (R174). -/
def State.answer (s : State) (status : Status) (payload : List Byte) : State :=
  s.onLink fun l => { l with state := .response ⟨status, payload⟩ }

/-! ### Transactions -/

/-- CS_N falls: the transaction takes the link state, and the part starts shifting out the link-state
byte.  While RESET_N is asserted the SPI lines are ignored and nothing is shifted out, and a transaction then
in progress is not taken after its release (R174, R175). -/
def State.beginTransaction (s : State) : State :=
  match s.link.transaction with
  | .idle =>
    if s.lines.inReset then s.onLink fun l => { l with transaction := .notTaken, shiftedOut := [] }
    else
      s.onLink fun l =>
        { l with transaction := .taken l.state.phase, shiftedOut := [l.state.phase.byte] }
  | _ => s

/-- The first `n` bytes of a list that goes on with 0x00 for ever. -/
def padTake (n : Nat) (bytes : List Byte) : List Byte := (bytes ++ List.replicate n 0#8).take n

/-- The bytes shifted out in a transaction in which `n` whole bytes are clocked (the table of R175). -/
def State.bytesOut (s : State) (phase : LinkPhase) (n : Nat) : List Byte :=
  match phase, s.link.state with
  | .response, .response r => padTake n (phase.byte :: r.bytes)
  | _, _ => padTake n [phase.byte]

/-- The tests of a written frame, in their order: a frame that passes all three is taken (R176). -/
def testFrame (sdi : List Byte) : Except Status Frame :=
  match sdi with
  | code :: len :: payload =>
    if len.toNat > Config.maxCommandPayload || payload.length != len.toNat then .error .badLength
    else
      match requestLength code with
      | none => .error .unknownCommand
      | some l => if len.toNat != l then .error .badLength else .ok ⟨code, payload⟩
  | _ => .error .badLength

/-- The end of a read: it is completed when the link-state byte, the two header bytes and the whole
payload have been clocked (R178). -/
def State.endRead (s : State) (n : Nat) : State :=
  match s.link.state with
  | .response r =>
    if 1 + 2 + r.payload.length ≤ n then s.onLink fun l => { l with state := .ready } else s
  | _ => s

/-! ### Taking a command -/

/-- The end of the write transaction that carried a frame, which is taken (R175, R176). -/
def State.writeWhole (s : State) (f : Frame) : State :=
  s.onLink fun l =>
    { l with
      transaction := .idle, shiftedOut := padTake f.bytes.length [LinkPhase.ready.byte]
      writes := l.writes + 1 }

/-- The state in which a command row's frame is handed to its block, or none when the part does not take it.
In READY the row stands for the write transaction that carries its frame.  A frame written in BUSY, in
RESPONSE, or in a transaction that is not a write is lost (R174, R175, R176, R177, R178; log entry 7). -/
def State.takeFrame (s : State) (f : Frame) : Option State :=
  match s.link.state, s.link.transaction with
  | .ready, .idle => some (s.writeWhole f)
  | .ready, .taken .ready => some (s.writeWhole f)
  | _, _ => none

/-- What the owning block returns for a command: the state after it, a status and a payload (R176). -/
structure Reply where
  state : State
  status : Status
  payload : List Byte
deriving DecidableEq, Repr

/-- The command took effect as specified, without and with a response payload (R179). -/
def State.done (s : State) : Reply := ⟨s, .ok, []⟩
def State.report (s : State) (payload : List Byte) : Reply := ⟨s, .ok, payload⟩

/-- The command took effect, with one or more fields clamped or with none (R179). -/
def State.doneClamped (s : State) (clamped : Bool) : Reply :=
  ⟨s, if clamped then .clamped else .ok, []⟩

/-- The command is refused: it has had no effect on the part's state (spec 00_scope 0.11). -/
def State.refuse (s : State) (status : Status) : Reply := ⟨s, status, []⟩

/-- The block has acted, and its answer is placed in the response slot (R174). -/
def Reply.answered (r : Reply) : State := r.state.answer r.status r.payload

/-- The block has acted at the handing, and BUSY keeps the command and the answer until that is returned
(R174, R176; log entry 7). -/
def Reply.busyWith (r : Reply) (f : Frame) : State :=
  r.state.onLink fun l => { l with state := .busy f ⟨r.status, r.payload⟩ }

/-- A command row.  In BUSY with its frame in the command slot, the block has acted already, when it was handed
the frame, and the row is the return of its answer.  In READY the row is the whole of it: the write, the
block's act and the answer.  A row that the part does not take is lost (R174, R176; log entry 7). -/
def State.command (s : State) (i : Instr) (reply : State → Reply) : Host.Outcome State Fault Refusal :=
  s.event fun s =>
    match frameOf i, s.link.state with
    | none, _ => s
    | some f, .busy held answer => if held = f then s.answer answer.status answer.payload else s
    | some f, _ =>
      match s.takeFrame f with
      | none => s
      | some u => (reply u).answered

/-- TRANSACTION_BEGIN (R175). -/
def execTransactionBegin (s : State) : Host.Outcome State Fault Refusal :=
  .next s.beginTransaction

end Sys2Proof.Machine
end

