-- ==== Sys2Proof/Machine/Operands.lean ====
section
/-! DEFINITION. The operand forms of the commands: the indexes a frame carries, with their range tests, the
clamping of numeric fields (R150, spec 00_scope 0.11), the codes of the named values, and the
fields of the response payloads. -/

namespace Sys2Proof.Machine

/-! ### Indexes -/

/-- A head index: 0 for A, 1 for B, none above (R48). -/
def headOf (i : Byte) : Option Head :=
  match i.toNat with
  | 0 => some .a
  | 1 => some .b
  | _ => none

/-- An index below `n`, or none (R130, R37, R152). -/
def indexBelow (n : Nat) (i : Byte) : Option (Fin n) := if h : i.toNat < n then some ⟨i.toNat, h⟩ else none

/-- An index of READ_BIN: bins 0 to 11, 12 for CR, 13 for PG (R134). -/
def chuteOf (i : Byte) : Option Chute :=
  if h : i.toNat < 12 then some (.gate ⟨i.toNat, h⟩)
  else if i.toNat = 12 then some .checkReturn
  else if i.toNat = 13 then some .purge
  else none

/-- An overflow gate: 0 to 11, or 0xFF for none; any other value is out of range (R152). -/
def overflowOf (i : Byte) : Option (Option (Fin 12)) :=
  if h : i.toNat < 12 then some (some ⟨i.toNat, h⟩) else if i = 0xFF#8 then some none else none

/-- A measure-mode code (R151). -/
def modeOf (i : Byte) : Option MeasureMode :=
  match i.toNat with
  | 0 => some .singleA
  | 1 => some .singleB
  | 2 => some .confirm
  | _ => none

/-- A policy code (R151). -/
def policyOf (i : Byte) : Option Policy :=
  match i.toNat with
  | 0 => some .same
  | 1 => some .alternate
  | _ => none

/-! ### Clamping -/

/-- A numeric field brought to the nearer end of its range (spec 00_scope 0.11). -/
def clampNat (lo hi x : Nat) : Nat := max lo (min hi x)

def clampSigned (lo hi x : Int) : Int := max lo (min hi x)

/-- A two-bit code clamped to 3 (R60, R151). -/
def clampCode (x : Byte) : Fin 4 := ⟨min x.toNat 3, by omega⟩

/-! ### Codes -/

def headCode : Head → Nat
  | .a => 0
  | .b => 1

def DialState.code : DialState → Nat
  | .idle => 0
  | .dwell => 1
  | .held => 2
  | .moving => 3
  | .jammed => 4
  | .estopped => 5

def HeadState.code : HeadState → Nat
  | .out _ => 0
  | .probing => 1
  | .ready => 2
  | .measuring => 3

/-- The out reason as READ_HEAD gives it; 0 when the head is not OUT (R65). -/
def HeadState.reasonCode : HeadState → Nat
  | .out .host => 1
  | .out .lost => 2
  | .out .drift => 3
  | .out .incapable => 4
  | .out .reset => 5
  | _ => 0

def MeasureMode.code : MeasureMode → Nat
  | .singleA => 0
  | .singleB => 1
  | .confirm => 2

def Policy.code : Policy → Nat
  | .same => 0
  | .alternate => 1

def LotState.code : LotState → Nat
  | .noLot => 0
  | .open_ => 1
  | .draining => 2

def EjectorState.code : EjectorState → Nat
  | .idle => 0
  | .fired _ _ => 1
  | .settling => 2

/-- The offset of the station at which a record is EJECTING (R19, READ_POCKET payload). -/
def Ejecting.chute : Ejecting → Chute
  | .gate g => .gate g
  | .checkReturn => .checkReturn
  | .purge _ => .purge

/-! ### Payload fields -/

/-- One byte. -/
def byte1 (n : Nat) : List Byte := [BitVec.ofNat 8 n]

/-- A signed field of `k` bytes in two's complement, most significant first (spec 00_scope 0.10). -/
def signedBE (k : Nat) (x : Int) : List Byte := bytesBE k (BitVec.ofInt (8 * k) x).toNat

/-- A set of bits written bit 0 first. -/
def packBits : List Bool → Nat
  | [] => 0
  | b :: bs => b.toNat + 2 * packBits bs

end Sys2Proof.Machine
end

