-- ==== Sys2Proof/Machine/Cycle.lean ====
section
/-! DEFINITION. The index controller's own acts that other blocks' events lead to: issuing STEP (R6), the
end-of-dwell test (R4) and the test in HELD (R5). -/

namespace Sys2Proof.Machine

/-- Issue STEP: the move timer starts with the move timeout, the dial is MOVING, and the minimum-dwell
timer becomes stopped (R6, R4). -/
def State.issueStep (s : State) : State :=
  s.onDial fun d =>
    { d with state := .moving, moveTimer := .running d.moveTimeout, dwellTimer := .stopped }

/-- The dial comes to rest: IDLE, with the minimum-dwell timer stopped (R4). -/
def State.restDial (s : State) : State :=
  s.onDial fun d => { d with state := .idle, dwellTimer := .stopped }

/-- Both conditions for the end of a dwell hold: DWELL, minimum dwell elapsed, busy set empty (R4). -/
def State.dwellOver (s : State) : Bool :=
  s.dial.state == .dwell && s.dial.dwellTimer == .elapsed && s.busyEmpty

/-- The end-of-dwell test (R4).  It is the last thing a step does, so that it sees the flags the step
has raised (log entry 5). -/
def State.endDwellTest (s : State) : State :=
  if s.dwellOver then
    if s.dial.stopPending then
      s.restDial.onDial fun d => { d with stopPending := false }
    else if s.dial.hostHold || s.anySevere then
      s.onDial fun d => { d with state := .held }
    else s.issueStep
  else s

/-- The severe-flag and host-hold test in HELD (R5). -/
def State.heldTest (s : State) : State :=
  if s.dial.state == .held && !s.dial.hostHold && !s.anySevere then s.issueStep else s

/-- The fault unit reports that the last severe flag has become clear since `before`: the index
controller makes the test of R5 (R167). -/
def State.reportSevere (s before : State) : State :=
  if before.anySevere && !s.anySevere then s.heldTest else s

end Sys2Proof.Machine
end

