-- ==== Sys2Proof/Machine/Records.lean ====
section
/-! DEFINITION. The pocket tracker's transitions (R23): to PURGE_PENDING, sent back by the recall, made
CHECK_DONE, given up.  The rules of the other blocks ask for these. -/

namespace Sys2Proof.Machine

/-- To PURGE_PENDING with a reason; every other field is kept, and what only the state left behind
held goes with it (R23). -/
def LiveRecord.purge (r : LiveRecord) (reason : PurgeReason) : LiveRecord :=
  { r with phase := .purgePending reason }

/-- The purge reason a mark gives (R22). -/
def PurgeMark.reason : PurgeMark → PurgeReason
  | .voided => .voided
  | .abort => .abort

/-- RECALL_PENDING removed (R24, R25). -/
def LiveRecord.clearRecallPending (r : LiveRecord) : LiveRecord :=
  { r with flags := { r.flags with recallPending := false } }

/-- The record is EJECTING. -/
def LiveRecord.isEjecting (r : LiveRecord) : Bool :=
  match r.phase with
  | .ejecting _ => true
  | _ => false

/-- The record is PURGE_PENDING. -/
def LiveRecord.isPurgePending (r : LiveRecord) : Bool :=
  match r.phase with
  | .purgePending _ => true
  | _ => false

/-- The readings list holds a reading of a head (R105). -/
def LiveRecord.readBy (r : LiveRecord) (h : Head) : Bool := r.readings.any fun x => x.head == h

/-- The readings list holds a reading of a head at an epoch (R145). -/
def LiveRecord.readAt (r : LiveRecord) (h : Head) (epoch : BitVec 16) : Bool :=
  r.readings.any fun x => x.head == h && x.epoch == epoch

/-! ### The check-done test (R105) -/

/-- The record is PENDING. -/
def LiveRecord.isPending (r : LiveRecord) : Bool :=
  match r.phase with
  | .pending _ _ => true
  | _ => false

/-- A PENDING CHECK record with at least one reading, and one from every head in service (R105). -/
def State.checkIsDone (s : State) (r : LiveRecord) : Bool :=
  r.kind == .check && r.isPending && !r.readings.isEmpty && (!s.inService .a || r.readBy .a) &&
    (!s.inService .b || r.readBy .b)

/-- The check-done test on one record (R105). -/
def State.checkDoneTest (s : State) (r : LiveRecord) : LiveRecord :=
  if s.checkIsDone r then { r with phase := .checkDone } else r

/-- A head has left service: the check-done test on every record (R105). -/
def State.headLeft (s : State) : State := s.mapLive fun r => .live (s.checkDoneTest r)

/-! ### The recall (R145 to R148) -/

/-- The record is sent back to the other head: measured afresh, marked RECALLED (R145). -/
def LiveRecord.sendBack (r : LiveRecord) (dest : Head) : LiveRecord :=
  { r with
    readings := []
    attempts := 0
    flags := { r.flags with recalled := true }
    grading := none
    cls := none
    phase := .pending dest false }

/-- The recall of a PENDING or CLASSIFIED record: sent back when it does not carry RECALLED and the other
head is in service, and purged with RECALL otherwise (R145). -/
def LiveRecord.recallTo (r : LiveRecord) (other : Head) (otherInService : Bool) : LiveRecord :=
  if !r.flags.recalled && otherInService then r.sendBack other else r.purge .recall

/-- The record is one that the recall sends back or purges at once: PENDING or CLASSIFIED (R145). -/
def LiveRecord.recallsNow (r : LiveRecord) : Bool :=
  match r.phase with
  | .pending _ _ => true
  | .classified => true
  | _ => false

/-- The recall for the failed head and epoch reaches the record (R145). -/
def LiveRecord.recallReaches (r : LiveRecord) (failed : Head) (epoch : BitVec 16) : Bool :=
  r.kind == .part && r.readAt failed epoch

/-- What the recall does to one record, by its state (the table of R145). -/
def State.recallRecord (s : State) (failed : Head) (epoch : BitVec 16) (r : LiveRecord) : LiveRecord :=
  if r.recallReaches failed epoch then
    match r.phase with
    | .pending _ _ => r.recallTo failed.other (s.inService failed.other)
    | .classified => r.recallTo failed.other (s.inService failed.other)
    | .measuring _ _ _ => { r with flags := { r.flags with recallPending := true } }
    | .ejecting _ => r
    | .purgePending _ => r
    | .checkDone => r
  else r

/-- The recall for a failed head and epoch, with its count (R145, R148). -/
def State.recall (s : State) (failed : Head) (epoch : BitVec 16) : State :=
  (s.mapLive fun r => .live (s.recallRecord failed epoch r)).onCounters fun c =>
    { c with
      recalled :=
        satAdd Config.maxCount32 c.recalled
          (s.countLive fun r => r.recallReaches failed epoch && r.recallsNow && s.isCurrentPart r) }

/-- The recall applied to a record that carried RECALL_PENDING, at the end of its measurement at
`measuring`, the head that did not fail (R146, R148). -/
def State.applyRecall (s : State) (p : Fin 24) (r : LiveRecord) (measuring : Head) : State :=
  (s.setLive p (r.clearRecallPending.recallTo measuring (s.inService measuring))).reportPart r fun c =>
    { c with recalled := count32 c.recalled }

/-! ### Giving up the records (R8) -/

/-- Every live record becomes UNKNOWN, and each PART record of the current lot is counted abandoned (R8). -/
def State.giveUpRecords (s : State) : State :=
  ((s.mapLive fun _ => .unknown).onCounters fun c =>
    { c with abandoned := satAdd Config.maxCount32 c.abandoned (s.countLive s.isCurrentPart) }).drainTest

end Sys2Proof.Machine
end

