-- ==== Sys2Proof/Machine/Check.lean ====
section
/-! DEFINITION. The check unit: when a standard is due (R137 to R139), the evaluation of a check reading and
its decision on the head (R140 to R143), exposure (R144), and REQUEST_CHECK. -/

namespace Sys2Proof.Machine

/-- A part load whose loaded count moved is reported (the table of R137). -/
def CheckUnit.partLoaded (u : CheckUnit) (interval : Nat) : CheckUnit :=
  if interval = 0 ∨ u.due then u
  else { u with counter := u.counter + 1, due := decide (u.counter + 1 = interval) }

/-- A check load of the lot is reported, or the check feeder is starved (R139). -/
def CheckUnit.restart (u : CheckUnit) : CheckUnit := { u with counter := 0, due := false }

/-- The exposure count of a head increased by one (R144). -/
def CheckUnit.expose (u : CheckUnit) (h : Head) : CheckUnit :=
  { u with exposure := u.exposure.set h (count16 (u.exposure.get h)) }

/-- The exposure counts of the deciding heads of a record increased by one each (R144). -/
def CheckUnit.exposeDeciders (u : CheckUnit) (g : Option Grading) : CheckUnit :=
  match g with
  | some ⟨_, .one h _⟩ => u.expose h
  | some ⟨_, .both _ _⟩ => (u.expose .a).expose .b
  | none => u

/-- The head's epoch increases by one, wrapping, and its exposure count becomes 0 (R62, R141, R142). -/
def State.nextEpoch (s : State) (h : Head) : State :=
  (s.onHead h fun u => { u with epoch := u.epoch + 1#16 }).onCheck fun u =>
    { u with exposure := u.exposure.set h 0 }

/-- A failed check, in the steps of R142. -/
def State.checkFail (s : State) (h : Head) (drift : Int) : State :=
  let epoch := (s.head h).epoch
  let s1 := (s.onHead h fun u => { u with state := .out .drift }).headLeft
  let s2 :=
    s1.raiseHead
      { kind := .drift, head := h, epoch := epoch, exposure := s.check.exposure.get h, drift := some drift }
  (s2.recall h epoch).nextEpoch h

/-- The decision on the head for a kept reading of a CHECK record (R140). -/
def State.checkDecision (s : State) (reading : Reading) : State :=
  match reading.doubtful, reading.sample with
  | false, some x =>
    let drift := x.deviation - s.banks.active.certified
    let s1 := s.onCheck fun u => { u with lastDrift := u.lastDrift.set reading.head drift }
    if drift.natAbs ≤ s.banks.active.driftLimit then s1.nextEpoch reading.head
    else s1.checkFail reading.head drift
  | _, _ => s.onCheck fun u => { u with due := true }

/-- REQUEST_CHECK (R138). -/
def replyRequestCheck (s : State) : Reply :=
  if s.lot.state = .open_ then (s.onCheck fun u => { u with due := true }).done
  else s.refuse .refusedState

/-- The row REQUEST_CHECK: the link takes it and `replyRequestCheck` answers it (R174, R176). -/
def execRequestCheck (s : State) : Host.Outcome State Fault Refusal :=
  s.command .requestCheck replyRequestCheck

end Sys2Proof.Machine
end

