-- ==== Sys2Proof/Machine/Deviation.lean ====
section
/-! DEFINITION. The deviation unit: conversion of a raw code in six stages (R69 to R74), the agreement test
(R77) and the mean (R78), in exact integer arithmetic. -/

namespace Sys2Proof.Machine

/-- A value brought within `lo` to `hi`. -/
def clampInt (lo hi x : Int) : Int := max lo (min hi x)

/-- Stage 1: the offset taken off, limited to the code range (R69). -/
def stageOffset (cal : Calibration) (code : BitVec 24) : Int :=
  clampInt 0 Config.codeFullScale ((code.toNat : Int) - cal.offset)

/-- Stage 2: the numerator (R70). -/
def stageNumerator (cal : Calibration) (c1 : Int) : Int := c1 * (1000000 + cal.gain) * 10000

/-- Stage 3: the denominator (R71). -/
def stageDenominator (mantissa : Nat) : Int := mantissa * Config.codeReference

/-- Stage 4: the quotient rounded to the nearest integer, a half upwards (R72). -/
def stageQuotient (n dn : Int) : Int := (2 * n + dn) / (2 * dn)

/-- Stages 1 to 5: the deviation before saturation (R73). -/
def rawDeviation (mantissa : Nat) (cal : Calibration) (code : BitVec 24) : Int :=
  stageQuotient (stageNumerator cal (stageOffset cal code)) (stageDenominator mantissa) - 1000000

/-- Stage 6: the stored deviation and the saturated mark (R74). -/
def convert (mantissa : Nat) (cal : Calibration) (code : BitVec 24) : Int × Bool :=
  let dev := rawDeviation mantissa cal code
  if Config.deviationCeiling < dev then (Config.deviationCeiling, true) else (dev, false)

/-- A CONFIRM pair agrees: neither reading saturated, and the difference not above the limit (R77). -/
def agrees (limit : Nat) (x y : Sample) : Bool :=
  !x.saturated && !y.saturated && decide ((x.deviation - y.deviation).natAbs ≤ limit)

/-- The mean of an agreeing pair, rounded towards negative infinity (R78). -/
def confirmMean (x y : Sample) : Int := (x.deviation + y.deviation) / 2

end Sys2Proof.Machine
end

