-- ==== Sys2Proof/Machine/Judge.lean ====
section
/-! DEFINITION. The classifier: doubt (R82, R83), attempts and pairs (R84 to R86), the next state after an
attempt (R87, R89), substitution (R92), grading (R98 to R103), and check standards (R94, R104). -/

namespace Sys2Proof.Machine

/-! ### A reading -/

/-- A status flag of the head status byte is set (spec 11, status bits). -/
def statusOpen : Nat := 0
def statusHeadFault : Nat := 6

/-- The maskable flags SHORT, UNSETTLED, OVERRANGE, GUARD and THERMAL at their positions (R82). -/
def maskableFlags : Byte := 0x3E#8

/-- The seven flags of the status byte; the position that carries none is ignored (R20). -/
def statusFlags : Byte := 0x7F#8

/-- The reading is doubtful by what the head reported, or did not report (R82 without R83). -/
def headDoubts (mask : Byte) (sample : Option Sample) : Bool :=
  match sample with
  | none => true
  | some x =>
    x.status.getLsbD statusOpen || x.status.getLsbD statusHeadFault ||
      x.status &&& mask &&& maskableFlags != 0#8

/-- The sample a head's answer gives, converted with the calibration entry of its range (R57, R68). -/
def State.sampleOf (s : State) (h : Head) (range : Fin 7) (raw : BitVec 24 × Byte) : Sample :=
  let dev := convert s.banks.active.mantissa (s.head h).calibration[range.val] raw.1
  { code := raw.1, status := raw.2 &&& statusFlags, deviation := dev.1, saturated := dev.2 }

/-- The kept reading, with its doubtful and forced marks as judged (R20, R82, R83, R94). -/
def State.judge (s : State) (kind : Kind) (h : Head) (range : Fin 7)
    (raw : Option (BitVec 24 × Byte)) : Reading :=
  let sample := raw.map (s.sampleOf h range)
  let forced := kind == .part && (s.head h).forceDoubt
  { head := h, sample := sample, epoch := (s.head h).epoch,
    doubtful := headDoubts s.banks.active.doubtMask sample || forced, forced := forced }

/-- The saturated mark of a reading (R20). -/
def Reading.isSaturated (x : Reading) : Bool :=
  match x.sample with
  | some v => v.saturated
  | none => false

/-- A reading appended at the end of the list; a saturated one sets SATURATED (R20, R74).  DESIGN CHOICE (log
entry 27): the list has no bound.  R20 says that it holds at most six readings, but its rules let it pass six
where a spurious index takes the record past LOAD (R11) and a pair is broken (R85). -/
def LiveRecord.append (r : LiveRecord) (x : Reading) : LiveRecord :=
  { r with
    readings := r.readings ++ [x]
    flags := { r.flags with saturated := r.flags.saturated || x.isSaturated } }

/-! ### Attempts -/

/-- The head a SINGLE mode names, and the first head of CONFIRM (R92). -/
def MeasureMode.firstHead : MeasureMode → Head
  | .singleA => .a
  | .singleB => .b
  | .confirm => .a

/-- What a kept reading of a PART record completes (the table of R84). -/
inductive Attempt where
  /-- No attempt: the reading opens a pair (R85). -/
  | opensPair
  /-- One attempt, of this reading alone. -/
  | single
  /-- One attempt, of the pair whose first reading is `first` (R86). -/
  | pair (first : Reading)
deriving DecidableEq, Repr

/-- What a kept reading at `h` completes, on a record as it stands before the reading is appended (R84). -/
def State.attemptOf (s : State) (r : LiveRecord) (h : Head) (openPair : Bool) : Attempt :=
  match s.banks.active.mode with
  | .singleA => .single
  | .singleB => .single
  | .confirm =>
    match h with
    | .a => if s.inService .b then .opensPair else .single
    | .b =>
      match openPair, r.readings.getLast? with
      | true, some first => .pair first
      | _, _ => .single

/-- The grading of a non-doubtful attempt of one reading (R76), or none for a doubtful one (R87). -/
def Reading.verdict (x : Reading) : Option Grading :=
  match x.doubtful, x.sample with
  | false, some v => some ⟨v.deviation, .one x.head x.epoch⟩
  | _, _ => none

/-- The grading of a pair that is not doubtful and agrees (R77, R78, R86), or none. -/
def pairVerdict (agreeLimit : Nat) (first second : Reading) : Option Grading :=
  match first.doubtful, second.doubtful, first.sample, second.sample with
  | false, false, some x, some y =>
    if agrees agreeLimit x y then some ⟨confirmMean x y, .both first.epoch second.epoch⟩ else none
  | _, _, _, _ => none

/-- A policy applied to a head: SAME or ALTERNATE (R89). -/
def Policy.apply (p : Policy) (h : Head) : Head :=
  match p with
  | .same => h
  | .alternate => h.other

/-- The retest head after attempt `k` taken at `h` (R89). -/
def Recipe.retestHead (r : Recipe) (k : Nat) (h : Head) : Head :=
  match r.mode with
  | .confirm => .a
  | _ => if k ≤ 1 then r.slot1.apply h else r.slot2.apply h

/-- The intended head of an attempt in a SINGLE mode, on the record before its last reading is appended
(R92): the mode's head at attempts 0, and else the retest head after the last attempt. -/
def Recipe.intendedHead (rec : Recipe) (r : LiveRecord) : Head :=
  match r.attempts, r.readings.getLast? with
  | 0, _ => rec.mode.firstHead
  | k, some x => rec.retestHead k x.head
  | _, none => rec.mode.firstHead

/-- The head that an attempt should have used and did not; none for an attempt as intended (R92). -/
def Recipe.substitutedFor (rec : Recipe) (r : LiveRecord) (h : Head) (attempt : Attempt) : Option Head :=
  match attempt with
  | .opensPair => none
  | .pair _ => none
  | .single =>
    match rec.mode with
    | .confirm => some h.other
    | _ => if rec.intendedHead r = h then none else some (rec.intendedHead r)

/-! ### Grading -/

/-- A class matches a deviation (R98). -/
def ClassDef.classMatches (c : ClassDef) (d : Int) : Bool :=
  c.catchAll || (decide (c.lo + c.guardBand ≤ d) && decide (d ≤ c.hi - c.guardBand))

/-- The walk: the first class in index order that matches (R99). -/
def Recipe.walk (r : Recipe) (d : Int) : Option (Fin 12) :=
  (List.finRange 12).find? fun c =>
    match r.cls c with
    | some k => k.classMatches d
    | none => false

/-- The class that grading gives: that of the one-shot, with FORCED, when it names a class of the ACTIVE
list, and else that of the walk (R99, R103). -/
def State.gradeClass (s : State) (d : Int) : Option (Fin 12) × Bool :=
  match s.forceClass with
  | some c =>
    if (s.banks.active.cls c).isSome then (some c, true) else (s.banks.active.walk d, false)
  | none => (s.banks.active.walk d, false)

/-- A PART record graded with its result: CLASSIFIED, or PURGE_PENDING with NO_CLASS (R99, R100, R103). -/
def State.gradeRecord (s : State) (r : LiveRecord) (g : Grading) : LiveRecord :=
  match s.gradeClass g.deviation with
  | (some c, forced) =>
    { r with
      phase := .classified, grading := some g, cls := some c
      flags := { r.flags with forced := r.flags.forced || forced } }
  | (none, _) => { r with phase := .purgePending .noClass, grading := some g, cls := none }

/-! ### The next state of a PART record -/

/-- The record after attempt `k`, and whether a retest was decided (the table of R87). -/
def State.afterAttempt (s : State) (r : LiveRecord) (h : Head) (verdict : Option Grading) : LiveRecord × Bool :=
  let k := r.attempts + 1
  let r1 := { r with attempts := k }
  match verdict with
  | some g => (s.gradeRecord r1 g, false)
  | none =>
    if k ≤ s.banks.active.retestLimit then
      ({ r1 with phase := .pending (s.banks.active.retestHead k h) false }, true)
    else (r1.purge .noResult, false)

/-- DEGRADED is set (R92). -/
def LiveRecord.degrade (r : LiveRecord) (substituted : Option Head) : LiveRecord :=
  { r with flags := { r.flags with degraded := r.flags.degraded || substituted.isSome } }

/-- HEAD_SUBSTITUTED is raised for the head that was intended and not used (R92). -/
def State.raiseSubstituted (s : State) (substituted : Option Head) : State :=
  match substituted with
  | some h => s.raiseHead (s.headCaptureOf .substituted h)
  | none => s

/-- A reading that completes an attempt: the attempt is judged and the record takes its next state (R86,
R87, R92, R103). -/
def State.completeAttempt (s : State) (p : Fin 24) (r : LiveRecord) (x : Reading) (attempt : Attempt)
    (verdict : Option Grading) : State :=
  let substituted := s.banks.active.substitutedFor r x.head attempt
  let after := s.afterAttempt (r.append x) x.head verdict
  let s1 := s.setLive p (after.1.degrade substituted)
  let s2 := if verdict.isSome then { s1 with forceClass := none } else s1
  let s3 := if after.2 then s2.reportPart r fun c => { c with retests := count32 c.retests } else s2
  s3.raiseSubstituted substituted

/-- A kept reading of a PART record (R81 steps 2 to 4). -/
def State.judgePart (s : State) (p : Fin 24) (r : LiveRecord) (openPair : Bool) (x : Reading) : State :=
  match s.attemptOf r x.head openPair with
  | .opensPair => s.setLive p { r.append x with phase := .pending .b true }
  | .single => s.completeAttempt p r x .single x.verdict
  | .pair first =>
    s.completeAttempt p r x (.pair first) (pairVerdict s.banks.active.agreeLimit first x)

/-- A kept reading of a CHECK record: the check unit's decision, and then the next state by the head of the
reading (R94, R104), with the check-done test on the record made PENDING (R105). -/
def State.judgeCheck (s : State) (p : Fin 24) (r : LiveRecord) (x : Reading) : State :=
  let s1 := s.checkDecision x
  let r1 := r.append x
  if x.head = .a ∧ s1.inService .b then
    s1.setLive p (s1.checkDoneTest { r1 with phase := .pending .b false })
  else s1.setLive p { r1 with phase := .checkDone }

/-- A kept reading: judged, counted when doubtful, and handed on by the kind of the record (R24 item 3, R57,
R64, R81). -/
def State.keepReading (s : State) (p : Fin 24) (r : LiveRecord) (openPair : Bool) (h : Head)
    (range : Fin 7) (raw : Option (BitVec 24 × Byte)) : State :=
  let x := s.judge r.kind h range raw
  let s1 :=
    s.onHead h fun u =>
      { u with
        forceDoubt := u.forceDoubt && !x.forced
        counters := { u.counters with
          doubtful := if x.doubtful then count16 u.counters.doubtful else u.counters.doubtful } }
  match r.kind with
  | .part => s1.judgePart p r openPair x
  | .check => s1.judgeCheck p r x

/-- A completed reading is presented to the pocket tracker for the pocket of the request's tag (R24). -/
def State.handReading (s : State) (h : Head) (p : Fin 24) (range : Fin 7)
    (raw : Option (BitVec 24 × Byte)) : State :=
  match s.pocket p with
  | .live r =>
    match r.phase with
    | .measuring m openPair mark =>
      if m = h then
        match mark with
        | some v => s.setLive p (r.clearRecallPending.purge v.reason)
        | none =>
          if r.flags.recallPending then s.applyRecall p r h
          else s.keepReading p r openPair h range raw
      else s
    | _ => s
  | _ => s

/-- A measurement abandoned: the tracker acts on the record (R25).  After HEAD_DISABLE the next head is the
other head when that is in service; else it is this head, and the open pair is kept (R85). -/
def State.abandonRecord (s : State) (h : Head) (p : Fin 24) (disabled : Bool) : State :=
  match s.pocket p with
  | .live r =>
    match r.phase with
    | .measuring m openPair mark =>
      if m = h then
        match mark with
        | some v => s.setLive p (r.clearRecallPending.purge v.reason)
        | none =>
          if r.flags.recallPending then s.applyRecall p r h
          else if disabled && s.inService h.other then
            s.setLive p (s.checkDoneTest { r with phase := .pending h.other false })
          else s.setLive p (s.checkDoneTest { r with phase := .pending h openPair })
      else s
    | _ => s
  | _ => s

end Sys2Proof.Machine
end

