-- ==== Sys2Proof/Machine/Heads.lean ====
section
/-! DEFINITION. The head interfaces: requests and timers (R46), the link receiver (R45, R47), probes (R50,
R51), measurements (R52 to R59), and the head rows and commands of the opcode table (R48, R60 to R66). -/

namespace Sys2Proof.Machine

/-! ### Requests and timers (R46) -/

/-- The timer is running. -/
def Timer.isRunning : Timer → Bool
  | .stopped => false
  | .running _ => true

/-- The request in flight is held unsent: it waits for the quiet timer (R46, R65; DEDUCED, log entry 17). -/
def HeadUnit.isHeld (u : HeadUnit) : Bool :=
  match u.request with
  | some q => !q.sent && u.quietTimer.isRunning
  | none => false

/-- The frame on the transmit pair for the request in flight (spec 11, head link frames). -/
def Request.bytes (q : Request) : List Byte :=
  match q.kind with
  | .measure p range aperture =>
    [Config.typeMeasure, BitVec.ofNat 8 p.val, BitVec.ofNat 8 range.val, BitVec.ofNat 8 aperture.val]
  | .ident => [Config.typeIdent, Config.identTag]

/-- The last byte of the request has been sent: the response timer starts (R46).  A request held for the
quiet timer is not being sent. -/
def HeadUnit.requestSent (u : HeadUnit) : HeadUnit :=
  match u.request with
  | some q =>
    if q.sent || u.quietTimer.isRunning then u
    else
      { u with
        request := some { q with sent := true }
        responseTimer := .running (Config.responseTimeoutMs u.timeoutSelect) }
  | none => u

/-- The request in flight is abandoned and the head takes its new state: a request already sent starts
the quiet timer for what remains of its response timeout, one not sent is dropped (R46, R58, R59). -/
def HeadUnit.abandon (u : HeadUnit) (next : HeadState) : HeadUnit :=
  { u with
    state := next
    request := none
    responseTimer := .stopped
    quietTimer :=
      match u.request, u.responseTimer with
      | some ⟨_, true⟩, .running ms => .running ms
      | _, _ => u.quietTimer }

/-- The request in flight has been completed (R51, R55, R56). -/
def HeadUnit.endRequest (u : HeadUnit) (next : HeadState) : HeadUnit :=
  { u with state := next, request := none, responseTimer := .stopped }

/-- A change of the head counters alone (R66). -/
def HeadUnit.onCounters (u : HeadUnit) (f : HeadCounters → HeadCounters) : HeadUnit :=
  { u with counters := f u.counters }

/-- A frame is discarded: late or mistagged +1 (R47). -/
def HeadUnit.countLate (u : HeadUnit) : HeadUnit :=
  u.onCounters fun c => { c with late := count16 c.late }

/-- A link error is counted (R45). -/
def HeadUnit.countLinkError (u : HeadUnit) : HeadUnit :=
  u.onCounters fun c => { c with linkErrors := count16 c.linkErrors }

/-! ### Completions -/

/-- The head record after a RESULT taken for the request in flight (R55). -/
def HeadUnit.resultTaken (u : HeadUnit) : HeadUnit :=
  { ((u.endRequest .ready).onCounters fun c => { c with measurements := count16 c.measurements }) with
    noReplies := 0 }

/-- A RESULT taken for the request in flight completes the measurement (R55). -/
def State.completeResult (s : State) (h : Head) (p : Fin 24) (range : Fin 7) (raw : BitVec 24 × Byte) :
    State :=
  ((s.onHead h HeadUnit.resultTaken).leaveBusy (.head h)).handReading h p range (some raw)

/-- The head goes OUT with reason LOST: HEAD_LOST is raised with a head capture (R51, R56). -/
def State.raiseLost (s : State) (h : Head) : State := s.raiseHead (s.headCaptureOf .lost h)

/-- The head record after a response timeout in a measurement (R56). -/
def HeadUnit.noReply (u : HeadUnit) : HeadUnit :=
  let n := u.noReplies + 1
  let lost := decide (Config.noReplyLimit ≤ n)
  { ((u.endRequest (if lost then .out .lost else .ready)).onCounters fun c =>
      { c with measurements := count16 c.measurements, noReplies := count16 c.noReplies }) with
    noReplies := if lost then 0 else n }

/-- The response timer expires with a measurement in flight: a NO_REPLY reading, and at the third in a row
the head is OUT before the reading is handed on (R56, R57). -/
def State.completeNoReply (s : State) (h : Head) (p : Fin 24) (range : Fin 7) : State :=
  let s1 := s.onHead h HeadUnit.noReply
  let s2 := if s1.inService h then s1 else (s1.headLeft).raiseLost h
  (s2.leaveBusy (.head h)).handReading h p range none

/-- The reported maximum range as it is stored: above 6 it is 6 (R51). -/
def storedRange (b : Byte) : Fin 7 := ⟨min b.toNat 6, by omega⟩

/-- The head does not fit the ACTIVE recipe: its range is too low, or, with a lot current, its timeout too
short for the aperture (R51). -/
def State.unfit (s : State) (u : HeadUnit) (reported : Fin 7) : Bool :=
  decide (reported < s.banks.active.range) ||
    (s.lot.state != .noLot && u.tooShortFor s.banks.active.aperture)

/-- A valid IDENT answer completes the probe (R51). -/
def State.completeProbe (s : State) (h : Head) (maxRange : Byte) : State :=
  s.onHead h fun u =>
    let reported := storedRange maxRange
    if s.unfit u reported then
      { u.endRequest (.out .incapable) with maxRange := some reported }
    else { u.endRequest .ready with maxRange := some reported, noReplies := 0 }

/-! ### Frames handed up by the receiver (R47) -/

/-- The two response frames (spec 03_measurement_heads 3.2). -/
inductive HeadFrame where
  | result (tag : Byte) (code : BitVec 24) (status : Byte)
  | ident (tag : Byte) (maxRange : Byte)
deriving DecidableEq, Repr

/-- The bytes of a response frame (spec 11, head link frames). -/
def HeadFrame.bytes : HeadFrame → List Byte
  | .result tag code status =>
    [Config.typeResult, tag, code.extractLsb' 16 8, code.extractLsb' 8 8, code.extractLsb' 0 8, status]
  | .ident tag maxRange => [Config.typeIdentAnswer, tag, maxRange]

/-- The frame that bytes complete, or none when they are not yet a whole frame (R45). -/
def completedFrame : List Byte → Option HeadFrame
  | [t, tag, c2, c1, c0, status] =>
    if t = Config.typeResult then some (.result tag (c2 ++ c1 ++ c0) status) else none
  | [t, tag, maxRange] => if t = Config.typeIdentAnswer then some (.ident tag maxRange) else none
  | _ => none

/-- The interface takes a complete frame according to the request in flight (the table of R47). -/
def State.takeHeadFrame (s : State) (h : Head) (f : HeadFrame) : State :=
  match (s.head h).request, f with
  | some ⟨.measure p range _, true⟩, .result tag code status =>
    if (s.head h).responseTimer.isRunning && tag == BitVec.ofNat 8 p.val then
      s.completeResult h p range (code, status)
    else s.onHead h HeadUnit.countLate
  | some ⟨.ident, true⟩, .ident tag maxRange =>
    if (s.head h).responseTimer.isRunning && tag == Config.identTag then s.completeProbe h maxRange
    else s.onHead h HeadUnit.countLate
  | _, _ => s.onHead h HeadUnit.countLate

/-! ### The receiver (R45) -/

/-- A byte arrives on the receive pair (R45). -/
def State.receiveByte (s : State) (h : Head) (b : Byte) : State :=
  match (s.head h).receiver with
  | .idle =>
    if b = Config.typeResult ∨ b = Config.typeIdentAnswer then
      s.onHead h fun u => { u with receiver := .inFrame [b] }
    else s.onHead h fun u => { u.countLinkError with receiver := .discarding }
  | .inFrame held =>
    match completedFrame (held ++ [b]) with
    | some f => (s.onHead h fun u => { u with receiver := .idle }).takeHeadFrame h f
    | none => s.onHead h fun u => { u with receiver := .inFrame (held ++ [b]) }
  | .discarding => s

/-- The frame of a RESULT or IDENT_ANSWER row is complete.  From idle the row stands for all its bytes, in
frame for those still to come; discarding throws its bytes away (R45; log entry 8). -/
def State.receiveFrame (s : State) (h : Head) (f : HeadFrame) : State :=
  match (s.head h).receiver with
  | .idle => s.takeHeadFrame h f
  | .inFrame held =>
    if held.isPrefixOf f.bytes && decide (held.length < f.bytes.length) then
      (s.onHead h fun u => { u with receiver := .idle }).takeHeadFrame h f
    else s
  | .discarding => s

/-! ### Arrival at a head station (R52, R53) -/

/-- The measurement begins (R53). -/
def State.beginMeasurement (s : State) (h : Head) (p : Fin 24) (r : LiveRecord) (openPair : Bool) : State :=
  ((s.onHead h fun u =>
      { u with
        state := .measuring
        request := some ⟨.measure p s.banks.active.range s.banks.active.aperture, false⟩ }).joinBusy
      (.head h)).setLive p { r with phase := .measuring h openPair none }

/-- The arrival at a head station (R52).  Rerouting from B to A removes the open pair (R85). -/
def State.arriveHead (s : State) (h : Head) : State :=
  let p := s.pocketAt (Config.offsetHead h)
  match s.pocket p with
  | .live r =>
    match r.phase with
    | .pending next openPair =>
      if next = h then
        match (s.head h).state with
        | .ready => s.beginMeasurement h p r openPair
        | .measuring => s
        | _ =>
          if s.inService h.other then
            s.setLive p (s.checkDoneTest { r with phase := .pending h.other false })
          else s
      else s
    | _ => s
  | _ => s

/-! ### Abandonment (R58, R59) -/

/-- The pocket a measurement in flight is for. -/
def HeadUnit.measuredPocket (u : HeadUnit) : Option (Fin 24) :=
  match u.request with
  | some ⟨.measure p _ _, _⟩ => some p
  | _ => none

/-- A measurement in flight is abandoned: the head record, the busy set, and then the record (R58, R59). -/
def State.abandonMeasurement (s : State) (h : Head) (next : HeadState) (disabled : Bool) : State :=
  let s1 := (s.onHead h fun u => u.abandon next).leaveBusy (.head h)
  let s2 := if next.inService then s1 else s1.headLeft
  match (s.head h).measuredPocket with
  | some p => s2.abandonRecord h p disabled
  | none => s2

/-- The measurement in flight at one head is abandoned by an emergency stop or a spurious index (R58). -/
def State.abandonAt (s : State) (h : Head) : State :=
  if (s.head h).state = .measuring then s.abandonMeasurement h .ready false else s

/-- Measurements in flight are abandoned at both heads (R9 item 5, R11). -/
def State.abandonAll (s : State) : State := (s.abandonAt .a).abandonAt .b

/-! ### Events of the head links -/

/-- REQUEST_SENT (R46). -/
def execRequestSent (h : Head) (s : State) : Host.Outcome State Fault Refusal :=
  s.event fun s => s.onHead h HeadUnit.requestSent

/-- QUIET_TIMER_EXPIRY (R46): a held request is then sent. -/
def execQuietTimerExpiry (h : Head) (s : State) : Host.Outcome State Fault Refusal :=
  s.event fun s => s.onHead h fun u => { u with quietTimer := .stopped }

/-- RESULT (R45, R47, R55), after which the dwell may end (R3, R4). -/
def execResult (h : Head) (tag : Byte) (code : BitVec 24) (status : Byte) (s : State) :
    Host.Outcome State Fault Refusal :=
  s.event fun s => (s.receiveFrame h (.result tag code status)).endDwellTest

/-- IDENT_ANSWER (R45, R47, R51); a head that enters service may end NO_HEAD (R95, R167). -/
def execIdentAnswer (h : Head) (tag maxRange : Byte) (s : State) : Host.Outcome State Fault Refusal :=
  s.event fun s => (s.receiveFrame h (.ident tag maxRange)).reportSevere s

/-- The response timer expires: a measurement is a NO_REPLY (R56), a probe ends OUT as LOST (R51). -/
def State.responseTimeout (s : State) (h : Head) : State :=
  if (s.head h).responseTimer.isRunning then
    match (s.head h).request with
    | some ⟨.measure p range _, _⟩ => s.completeNoReply h p range
    | some ⟨.ident, _⟩ => (s.onHead h fun u => u.endRequest (.out .lost)).raiseLost h
    | none => s
  else s

/-- RESPONSE_TIMEOUT (R51, R56), after which the dwell may end (R3, R4). -/
def execResponseTimeout (h : Head) (s : State) : Host.Outcome State Fault Refusal :=
  s.event fun s => (s.responseTimeout h).endDwellTest

/-- LINK_PAUSE (R45): a partial frame is discarded and a link error counted. -/
def execLinkPause (h : Head) (s : State) : Host.Outcome State Fault Refusal :=
  s.event fun s =>
    match (s.head h).receiver with
    | .inFrame _ => s.onHead h fun u => { u.countLinkError with receiver := .idle }
    | _ => s

/-- FRAMING_ERROR (R45): counted once, whatever was in progress. -/
def execFramingError (h : Head) (s : State) : Host.Outcome State Fault Refusal :=
  s.event fun s =>
    match (s.head h).receiver with
    | .discarding => s
    | _ => s.onHead h fun u => { u.countLinkError with receiver := .discarding }

/-- UNKNOWN_TYPE (R45): a byte that is not the type of a response. -/
def execUnknownType (h : Head) (byte : Byte) (s : State) : Host.Outcome State Fault Refusal :=
  s.event fun s => ((s.receiveByte h byte).endDwellTest).reportSevere s

/-- DISCARD_QUIET (R45). -/
def execDiscardQuiet (h : Head) (s : State) : Host.Outcome State Fault Refusal :=
  s.event fun s =>
    match (s.head h).receiver with
    | .discarding => s.onHead h fun u => { u with receiver := .idle }
    | _ => s

/-- BYTE_RECEIVED (R45); a byte that completes a frame hands it up (R47). -/
def execByteReceived (h : Head) (byte : Byte) (s : State) : Host.Outcome State Fault Refusal :=
  s.event fun s => ((s.receiveByte h byte).endDwellTest).reportSevere s

/-! ### Head commands -/

/-- A head command: the index is tested before anything else (R48). -/
def State.withHead (s : State) (i : Byte) (act : Head → Reply) : Reply :=
  match headOf i with
  | some h => act h
  | none => s.refuse .badIndex

/-- The head is OUT. -/
def HeadState.isOut : HeadState → Bool
  | .out _ => true
  | _ => false

/-- HEAD_ENABLE by the head state (R50). -/
def State.enableHead (s : State) (h : Head) : Reply :=
  if (s.head h).state.isOut then
    (s.onHead h fun u => { u with state := .probing, request := some ⟨.ident, false⟩ }).done
  else s.refuse .refusedState

/-- HEAD_ENABLE (R48, R50). -/
def replyHeadEnable (head : Byte) (s : State) : Reply := s.withHead head s.enableHead

/-- The row HEAD_ENABLE: the link takes it and `replyHeadEnable` answers it (R174, R176). -/
def execHeadEnable (head : Byte) (s : State) : Host.Outcome State Fault Refusal :=
  s.command (.headEnable head) (replyHeadEnable head)

/-- HEAD_DISABLE by the head state (the table of R59), after which the dwell may end (R4). -/
def State.disableHead (s : State) (h : Head) : State :=
  match (s.head h).state with
  | .out _ => s
  | .probing => s.onHead h fun u => u.abandon (.out .host)
  | .ready => (s.onHead h fun u => { u with state := .out .host }).headLeft
  | .measuring => (s.abandonMeasurement h (.out .host) true).endDwellTest

/-- HEAD_DISABLE (R59). -/
def replyHeadDisable (head : Byte) (s : State) : Reply :=
  s.withHead head fun h => (s.disableHead h).done

/-- The row HEAD_DISABLE: the link takes it and `replyHeadDisable` answers it (R174, R176). -/
def execHeadDisable (head : Byte) (s : State) : Host.Outcome State Fault Refusal :=
  s.command (.headDisable head) (replyHeadDisable head)

/-- SET_HEAD (R60). -/
def replySetHead (head timeoutSelect : Byte) (s : State) : Reply :=
  s.withHead head fun h =>
    if (s.head h).state.isOut then
      (s.onHead h fun u => { u with timeoutSelect := clampCode timeoutSelect }).doneClamped
        (decide (3 < timeoutSelect.toNat))
    else s.refuse .refusedState

/-- The row SET_HEAD: the link takes it and `replySetHead` answers it (R174, R176). -/
def execSetHead (head timeoutSelect : Byte) (s : State) : Host.Outcome State Fault Refusal :=
  s.command (.setHead head timeoutSelect) (replySetHead head timeoutSelect)

/-- The calibration entry SET_HEAD_CAL writes (R61). -/
def calibrationOf (offset gain : BitVec 16) : Calibration :=
  ⟨clampSigned (-2000) 2000 offset.toInt, clampSigned (-5000) 5000 gain.toInt⟩

/-- SET_HEAD_CAL (R61): the index, then the state, then the range. -/
def replySetHeadCal (head range : Byte) (offset gain : BitVec 16) (s : State) : Reply :=
  s.withHead head fun h =>
    if (s.head h).state.isOut then
      match indexBelow 7 range with
      | none => s.refuse .badIndex
      | some r =>
        let entry := calibrationOf offset gain
        (s.onHead h fun u => { u with calibration := u.calibration.set r.val entry }).doneClamped
          (entry.offset != offset.toInt || entry.gain != gain.toInt)
    else s.refuse .refusedState

/-- The row SET_HEAD_CAL: the link takes it and `replySetHeadCal` answers it (R174, R176). -/
def execSetHeadCal (head range : Byte) (offset gain : BitVec 16) (s : State) :
    Host.Outcome State Fault Refusal :=
  s.command (.setHeadCal head range offset gain) (replySetHeadCal head range offset gain)

/-- FORCE_DOUBT (R64). -/
def replyForceDoubt (head : Byte) (s : State) : Reply :=
  s.withHead head fun h =>
    (s.onHead h fun u => { u with forceDoubt := true }).done

/-- The row FORCE_DOUBT: the link takes it and `replyForceDoubt` answers it (R174, R176). -/
def execForceDoubt (head : Byte) (s : State) : Host.Outcome State Fault Refusal :=
  s.command (.forceDoubt head) (replyForceDoubt head)

/-- The request tag as READ_HEAD gives it: the pocket, 0xFF for a probe, 0xFE when none (R65). -/
def HeadUnit.tagCode (u : HeadUnit) : Nat :=
  match u.request with
  | some ⟨.measure p _ _, _⟩ => p.val
  | some ⟨.ident, _⟩ => 0xFF
  | none => 0xFE

/-- The READ_HEAD payload, 37 bytes (R65). -/
def HeadUnit.payload (u : HeadUnit) : List Byte :=
  byte1 u.state.code ++ byte1 u.state.reasonCode ++
    byte1 (match u.maxRange with
      | some m => m.val
      | none => 255) ++
    byte1 u.timeoutSelect.val ++ bytes16 u.epoch ++ byte1 u.noReplies ++
    byte1 (packBits [u.forceDoubt, u.quietTimer.isRunning, u.isHeld]) ++ byte1 u.tagCode ++
    u.calibration.toList.flatMap fun c => signedBE 2 c.offset ++ signedBE 2 c.gain

/-- READ_HEAD (R65). -/
def replyReadHead (head : Byte) (s : State) : Reply :=
  s.withHead head fun h => s.report (s.head h).payload

/-- The row READ_HEAD: the link takes it and `replyReadHead` answers it (R174, R176). -/
def execReadHead (head : Byte) (s : State) : Host.Outcome State Fault Refusal :=
  s.command (.readHead head) (replyReadHead head)

/-- The READ_HEAD_STATS payload, 10 bytes (R66). -/
def HeadCounters.payload (c : HeadCounters) : List Byte :=
  bytesBE 2 c.measurements ++ bytesBE 2 c.doubtful ++ bytesBE 2 c.noReplies ++ bytesBE 2 c.late ++
    bytesBE 2 c.linkErrors

/-- READ_HEAD_STATS: the five counters are returned and cleared (R66). -/
def replyReadHeadStats (head : Byte) (s : State) : Reply :=
  s.withHead head fun h =>
    (s.onHead h fun u => { u with counters := ⟨0, 0, 0, 0, 0⟩ }).report (s.head h).counters.payload

/-- The row READ_HEAD_STATS: the link takes it and `replyReadHeadStats` answers it (R174, R176). -/
def execReadHeadStats (head : Byte) (s : State) : Host.Outcome State Fault Refusal :=
  s.command (.readHeadStats head) (replyReadHeadStats head)

end Sys2Proof.Machine
end

