-- ==== Sys2Proof/Machine/Feed.lean ====
section
/-! DEFINITION. The feed unit at LOAD: arrival, laps and feeds (R27, R28), the load confirmed (R29) and the
miss (R30), and SET_FEED (R32). -/

namespace Sys2Proof.Machine

/-- A lap is counted, and at the ACTIVE lap limit the record is purged (R27). -/
def Recipe.countLap (rec : Recipe) (r : LiveRecord) : LiveRecord :=
  let r1 := { r with lap := r.lap + 1 }
  if r1.lap = rec.lapLimit then r1.purge .lapLimit else r1

/-- A feed begins: a check feed when check-due is set, else a part feed (R28). -/
def State.beginFeed (s : State) (p : Fin 24) : State :=
  (s.onFeed fun f =>
    { f with
      feedOut := f.feedOut || !s.check.due
      checkFeedOut := f.checkFeedOut || s.check.due
      windowTimer := .running f.window
      inFlight :=
        some
          { target := p, kind := if s.check.due then .check else .part, lot := s.lot.number,
            aborted := false, reset := false } }).joinBusy .load

/-- The arrival at LOAD (R27, R28). -/
def State.arriveLoad (s : State) : State :=
  let p := s.pocketAt Config.offsetLoad
  match s.pocket p with
  | .empty => if s.lot.state == .open_ && !s.noHead then s.beginFeed p else s
  | .unknown => s
  | .live r =>
    match r.phase with
    | .pending _ _ => s.setLive p (s.banks.active.countLap r)
    | .classified => s.setLive p (s.banks.active.countLap r)
    | .checkDone => s.setLive p (s.banks.active.countLap r)
    | .measuring _ _ _ => s
    | .ejecting _ => s
    | .purgePending _ => s

/-- The first head of a freshly loaded record (R29, R92). -/
def State.firstHead (s : State) (kind : Kind) : Head :=
  match kind with
  | .part =>
    let first := s.banks.active.mode.firstHead
    if !s.inService first && s.inService first.other then first.other else first
  | .check => if s.inService .a then .a else .b

/-- The state a loaded record enters, by the marks of its feed; aborted comes before reset (R29, R31). -/
def State.loadPhase (s : State) (f : Feed) : Phase :=
  if f.aborted then .purgePending .abort
  else if f.reset then .purgePending .reset
  else .pending (s.firstHead f.kind) false

/-- The serial of a load: the new count of its kind when the lot counters move, and 0 when not (R29). -/
def State.loadSerial (s : State) (f : Feed) : Nat :=
  if s.isCurrentLot f.lot then
    match f.kind with
    | .part => count32 s.lot.counters.loaded
    | .check => bump Config.maxCount16 s.lot.counters.checkLoads
  else 0

/-- The record of a load (R29). -/
def State.loadRecord (s : State) (f : Feed) : LiveRecord :=
  { kind := f.kind, lot := f.lot, serial := s.loadSerial f, lap := 0, attempts := 0, readings := [],
    flags := ⟨false, false, false, false, false⟩, phase := s.loadPhase f, grading := none, cls := none }

/-- The load counters of the current lot (R29, R154). -/
def Kind.countLoad (k : Kind) (c : LotCounters) : LotCounters :=
  match k with
  | .part => { c with loaded := count32 c.loaded }
  | .check => { c with checkLoads := bump Config.maxCount16 c.checkLoads }

/-- A load that gave the largest serial of its kind takes the lot from OPEN to DRAINING (R161). -/
def Lot.serialLimit (l : Lot) (k : Kind) : Lot :=
  let atLimit :=
    match k with
    | .part => l.counters.loaded == Config.maxPartSerial
    | .check => l.counters.checkLoads == Config.maxCheckSerial
  if l.state == .open_ && atLimit then { l with state := .draining } else l

/-- The lot after a load of the feed: its counters and the serial limit (R29, R154, R161). -/
def State.countLoad (s : State) (f : Feed) : State :=
  if s.isCurrentLot f.lot then
    s.onLot fun l => Lot.serialLimit { l with counters := f.kind.countLoad l.counters } f.kind
  else s

/-- What the check unit is told of a load: a part load whose loaded count moves (R137), a check load of the
lot number held (R139). -/
def State.reportLoad (s : State) (f : Feed) : State :=
  match f.kind with
  | .part =>
    if s.isCurrentLot f.lot then s.onCheck fun u => u.partLoaded s.banks.active.checkInterval else s
  | .check => if s.lot.number = f.lot then s.onCheck CheckUnit.restart else s

/-- The load is made into an EMPTY target (R29). -/
def State.load (s : State) (f : Feed) : State :=
  ((s.setLive f.target (s.loadRecord f)).reportLoad f).countLoad f

/-- The feed in flight ends: its window stops and LOAD leaves the busy set (R29, R30). -/
def State.endFeed (s : State) : State :=
  (s.onFeed fun f => { f with inFlight := none, windowTimer := .stopped }).leaveBusy .load

/-- The miss count of a confirmed feed's kind is cleared (R29). -/
def FeedUnit.clearMisses (u : FeedUnit) (k : Kind) : FeedUnit :=
  match k with
  | .part => { u with misses := 0 }
  | .check => { u with checkMisses := 0 }

/-- LOAD_SENSE while a feed window runs confirms the load; at another time it is ignored (R29). -/
def State.loadSense (s : State) : State :=
  match s.feed.inFlight with
  | some f =>
    if s.feed.windowTimer.isRunning then
      let s1 := s.endFeed.onFeed fun u => u.clearMisses f.kind
      match s.pocket f.target with
      | .empty => (s1.load f).drainTest
      | _ => s1.drainTest
    else s
  | none => s

/-- A part feed has missed (R30). -/
def State.countFeedMiss (s : State) : State :=
  if Config.feedMissLimit ≤ s.feed.misses + 1 then
    (s.onFeed fun u => { u with misses := 0 }).raise .feederStarved
  else s.onFeed fun u => { u with misses := u.misses + 1 }

/-- A check feed has missed; at the third miss CHECK_STARVED is raised and the check unit starts again (R30,
R139). -/
def State.countCheckFeedMiss (s : State) : State :=
  if Config.checkFeedMissLimit ≤ s.feed.checkMisses + 1 then
    ((s.onFeed fun u => { u with checkMisses := 0 }).raise .checkStarved).onCheck CheckUnit.restart
  else s.onFeed fun u => { u with checkMisses := u.checkMisses + 1 }

/-- The feed window ends without LOAD_SENSE (R30). -/
def State.feedMiss (s : State) : State :=
  match s.feed.inFlight with
  | some f =>
    if s.feed.windowTimer.isRunning then
      match f.kind with
      | .part => s.endFeed.countFeedMiss.drainTest
      | .check => s.endFeed.countCheckFeedMiss.drainTest
    else s
  | none => s

/-! ### The rows -/

/-- FEED_PULSE_END (R28): it names no output, and both are released (DEDUCED, log entry 15). -/
def execFeedPulseEnd (s : State) : Host.Outcome State Fault Refusal :=
  s.event fun s => s.onFeed fun f => { f with feedOut := false, checkFeedOut := false }

/-- LOAD_SENSE (R29), after which the dwell may end (R4) and NO_HEAD may have cleared (R161, R167). -/
def execLoadSense (s : State) : Host.Outcome State Fault Refusal :=
  s.event fun s => s.loadSense.endDwellTest.reportSevere s

/-- FEED_WINDOW_EXPIRY (R30), after which the dwell may end (R4). -/
def execFeedWindowExpiry (s : State) : Host.Outcome State Fault Refusal :=
  s.event fun s => s.feedMiss.endDwellTest

/-- SET_FEED (R32). -/
def replySetFeed (window : Byte) (s : State) : Reply :=
  if s.dial.state = .idle then
    (s.onFeed fun f => { f with window := clampNat 5 100 window.toNat }).doneClamped
      (clampNat 5 100 window.toNat != window.toNat)
  else s.refuse .refusedState

/-- The row SET_FEED: the link takes it and `replySetFeed` answers it (R174, R176). -/
def execSetFeed (window : Byte) (s : State) : Host.Outcome State Fault Refusal :=
  s.command (.setFeed window) (replySetFeed window)

end Sys2Proof.Machine
end

