-- ==== Sys2Proof/Machine/Gates.lean ====
section
/-! DEFINITION. The gate and bin unit: routing (R107), firing (R118, R119), the chute and the window (R121 to
R127), fill thresholds (R129), stalls and canisters (R131 to R133), and its commands. -/

namespace Sys2Proof.Machine

/-! ### Firing -/

/-- The routing rule: gate `g` takes the class as its primary, or as its overflow while the bin of the
primary is not OPEN (R107). -/
def State.routes (s : State) (g : Fin 12) (c : ClassDef) : Bool :=
  (s.bin g).isOpen && (c.primary == g || (c.overflow == some g && !(s.bin c.primary).isOpen))

/-- The ejector fires for a pocket and joins the busy set (R119 items 1 to 4). -/
def State.fireEjector (s : State) (c : Chute) (p : Fin 24) (sweep : Bool) : State :=
  (s.onEjector c fun e =>
    { e with
      state := .fired p sweep
      driven := true
      inUse := some s.gates.settings
      pulseTimer := .running s.gates.settings.pulseWidth
      windowTimer := .running s.gates.settings.confirmWindow }).joinBusy (.eject c)

/-- The arrival at gate `g` (R107, R118, R119). -/
def State.arriveGate (s : State) (g : Fin 12) : State :=
  let p := s.pocketAt (Config.offsetChute (.gate g))
  match s.pocket p with
  | .live r =>
    match r.phase, r.cls with
    | .classified, some k =>
      match s.banks.active.cls k with
      | some c =>
        if s.routes g c then
          (s.fireEjector (.gate g) p false).setLive p { r with phase := .ejecting (.gate g) }
        else s
      | none => s
    | _, _ => s
  | _ => s

/-- A CLASSIFIED record passes CR unsorted (R111). -/
def State.passUnsorted (s : State) (r : LiveRecord) : State :=
  (s.reportPart r fun c => { c with passedUnsorted := count32 c.passedUnsorted }).raiseUnsorted r.cls

/-- The arrival at CR (R111, R118, R119). -/
def State.arriveCheckReturn (s : State) : State :=
  let p := s.pocketAt (Config.offsetChute .checkReturn)
  match s.pocket p with
  | .live r =>
    match r.phase with
    | .checkDone => (s.fireEjector .checkReturn p false).setLive p { r with phase := .ejecting .checkReturn }
    | .classified => s.passUnsorted r
    | _ => s
  | _ => s

/-- The arrival at PG: a PURGE_PENDING record is fired, an UNKNOWN one is swept and stays UNKNOWN (R36, R118,
R119). -/
def State.arrivePurge (s : State) : State :=
  let p := s.pocketAt (Config.offsetChute .purge)
  match s.pocket p with
  | .unknown => s.fireEjector .purge p true
  | .empty => s
  | .live r =>
    match r.phase with
    | .purgePending reason =>
      (s.fireEjector .purge p false).setLive p { r with phase := .ejecting (.purge reason) }
    | _ => s

/-! ### Fill thresholds (R129) -/

/-- The tests of R129 for a bin that was `before`: a flag is raised when its condition begins. -/
def State.testFill (s : State) (g : Fin 12) (before : Bin) : State :=
  let now := s.bin g
  let s1 := if now.isNearFull && !before.isNearFull then s.raiseNearFull g else s
  if now.isFull && !before.isFull then s1.raiseFull g else s1

/-! ### Confirmation (R121 to R124) -/

/-- The fill of a bin increases by one and the thresholds are tested (R122). -/
def State.fillBin (s : State) (g : Fin 12) : State :=
  (s.onBin g fun b => { b with fill := count16 b.fill }).testFill g (s.bin g)

/-- A chute pulse shows that the gate and its sensor work (R122). -/
def Bin.seen (b : Bin) : Bin := { b with misses := 0 }

/-- A confirmation at gate `g` with the canister present (R122). -/
def State.binPart (s : State) (g : Fin 12) (p : Fin 24) (r : LiveRecord) : State :=
  (((s.setPocket p .empty).reportPart r (LotCounters.countBinned g)).fillBin g).onCheck fun u =>
    u.exposeDeciders r.grading

/-- A confirmation at gate `g` with the canister absent: a spill (R122). -/
def State.spillPart (s : State) (g : Fin 12) (p : Fin 24) (r : LiveRecord) : State :=
  (((s.raisePocket
          { kind := .spill, pocket := p, lot := r.lot, serial := r.serial,
            station := Config.offsetChute (.gate g), cls := r.cls }).setPocket p .empty).reportPart r
        fun c => { c with spilled := count32 c.spilled }).onBin g
    fun b => { b with spills := count16 b.spills }

/-- The ejection at gate `g` for pocket `p` is confirmed (R122). -/
def State.confirmGate (s : State) (g : Fin 12) (p : Fin 24) : State :=
  let s1 := s.onBin g Bin.seen
  match s.pocket p with
  | .live r => if (s.bin g).present then s1.binPart g p r else s1.spillPart g p r
  | _ => s1

/-- The check-returns count moves for a CHECK record of the current lot (R123). -/
def State.countReturn (s : State) (r : LiveRecord) : State :=
  if r.kind == .check && s.isCurrentLot r.lot then
    s.onCounters fun c => { c with checkReturns := bump Config.maxCount16 c.checkReturns }
  else s

/-- The ejection at CR for pocket `p` is confirmed (R123). -/
def State.confirmReturn (s : State) (p : Fin 24) : State :=
  match s.pocket p with
  | .live r => (s.setPocket p .empty).countReturn r
  | _ => s

/-- The purged count of a record fired at PG (R124). -/
def State.countPurge (s : State) (r : LiveRecord) : State :=
  match r.phase with
  | .ejecting (.purge reason) => s.reportPart r (LotCounters.countPurged reason)
  | _ => s

/-- The ejection at PG for pocket `p` is confirmed: a purge, or a sweep (R36, R124). -/
def State.confirmPurge (s : State) (p : Fin 24) (sweep : Bool) : State :=
  let s1 := s.onGates fun u => { u with purgeMisses := 0 }
  if sweep then
    (if s.pocket p = .unknown then s1.setPocket p .empty else s1).onCounters fun c =>
      { c with swept := count32 c.swept }
  else
    match s.pocket p with
    | .live r => (s1.setPocket p .empty).countPurge r
    | _ => s1

/-- The outcome of a confirmed ejection, by its station. -/
def State.confirm (s : State) (c : Chute) (p : Fin 24) (sweep : Bool) : State :=
  match c with
  | .gate g => s.confirmGate g p
  | .checkReturn => s.confirmReturn p
  | .purge => s.confirmPurge p sweep

/-! ### Miss (R125 to R127) -/

/-- Bin `g` counts a miss, and is blocked when the count reaches 3 (R125). -/
def State.countGateMiss (s : State) (g : Fin 12) : State :=
  let n := bump Config.missLimit (s.bin g).misses
  if n = Config.missLimit then
    (s.onBin g fun b => { b with misses := n, blocked := true }).raiseGateBlocked g
  else s.onBin g fun b => { b with misses := n }

/-- The ejection at gate `g` for pocket `p` is missed (R125). -/
def State.missGate (s : State) (g : Fin 12) (p : Fin 24) : State :=
  match s.pocket p with
  | .live r =>
    ((s.setLive p (r.purge .ejectMiss)).raisePocket
        { kind := .ejectMiss, pocket := p, lot := r.lot, serial := r.serial,
          station := Config.offsetChute (.gate g), cls := r.cls }).countGateMiss g
  | _ => s.countGateMiss g

/-- The ejection at CR for pocket `p` is missed: CHECK_DONE again (R126). -/
def State.missReturn (s : State) (p : Fin 24) : State :=
  match s.pocket p with
  | .live r => s.setLive p { r with phase := .checkDone }
  | _ => s

/-- PG counts a miss, and PURGE_BLOCKED is raised when the count stands at 3 (R127). -/
def State.countPurgeMiss (s : State) : State :=
  let n := bump Config.missLimit s.gates.purgeMisses
  let s1 := s.onGates fun u => { u with purgeMisses := n }
  if n = Config.missLimit then s1.raise .purgeBlocked else s1

/-- The ejection at PG for pocket `p` is missed: PURGE_PENDING with the reason it held.  A sweep leaves the
record and the count as they stand (R36, R127). -/
def State.missPurge (s : State) (p : Fin 24) (sweep : Bool) : State :=
  if sweep then s
  else
    match s.pocket p with
    | .live r =>
      match r.phase with
      | .ejecting (.purge reason) => (s.setLive p (r.purge reason)).countPurgeMiss
      | _ => s.countPurgeMiss
    | _ => s.countPurgeMiss

/-- The outcome of a missed ejection, by its station. -/
def State.miss (s : State) (c : Chute) (p : Fin 24) (sweep : Bool) : State :=
  match c with
  | .gate g => s.missGate g p
  | .checkReturn => s.missReturn p
  | .purge => s.missPurge p sweep

/-! ### Events of the chutes -/

/-- A chute pulse, by the ejector state (the table of R121). -/
def State.chutePulse (s : State) (c : Chute) : State :=
  match (s.ejector c).state with
  | .idle => s.onEjector c fun e => { e with noise := count16 e.noise }
  | .fired p sweep =>
    (((s.onEjector c fun e => { e with state := .settling }).leaveBusy (.eject c)).confirm c p
        sweep).drainTest
  | .settling => s

/-- The window timer expires, by the ejector state (the table of R121). -/
def State.windowExpiry (s : State) (c : Chute) : State :=
  let s1 := s.onEjector c fun e => { e with state := .idle, windowTimer := .stopped }
  match (s.ejector c).state with
  | .idle => s
  | .fired p sweep => (s1.leaveBusy (.eject c)).miss c p sweep
  | .settling => s1

/-- PULSE_TIMER_EXPIRY (R120). -/
def execPulseTimerExpiry (c : Chute) (s : State) : Host.Outcome State Fault Refusal :=
  s.event fun s => s.onEjector c fun e => { e with driven := false, pulseTimer := .stopped }

/-- CHUTE_PULSE (R121), after which the dwell may end (R4). -/
def execChutePulse (c : Chute) (s : State) : Host.Outcome State Fault Refusal :=
  s.event fun s => (s.chutePulse c).endDwellTest

/-- WINDOW_TIMER_EXPIRY (R121), after which the dwell may end (R4). -/
def execWindowTimerExpiry (c : Chute) (s : State) : Host.Outcome State Fault Refusal :=
  s.event fun s => (s.windowExpiry c).endDwellTest

/-- CAN_REMOVED (R132), whatever the item holds (DEDUCED, log entry 14). -/
def execCanRemoved (g : Fin 12) (s : State) : Host.Outcome State Fault Refusal :=
  s.event fun s => s.onBin g fun b => { b with present := false, removedLatch := true }

/-- CAN_INSERTED (R133), whatever the item holds (DEDUCED, log entry 14). -/
def execCanInserted (g : Fin 12) (s : State) : Host.Outcome State Fault Refusal :=
  s.event fun s => s.onBin g fun b =>
    { b with present := true, fill := 0, swaps := b.swaps + 1#16, insertedLatch := true }

/-! ### Commands -/

/-- A bin command: a bin number above 11 is refused (R130, R131). -/
def State.withBin (s : State) (i : Byte) (act : Fin 12 → Reply) : Reply :=
  match indexBelow 12 i with
  | some g => act g
  | none => s.refuse .badIndex

/-- The gate settings SET_GATE writes (R117). -/
def gateSettingsOf (pulseWidth confirmWindow : Nat) : GateSettings :=
  let pulse := clampNat 2 20 pulseWidth
  ⟨pulse, max pulse (clampNat 5 50 confirmWindow)⟩

/-- SET_GATE (R117). -/
def replySetGate (pulseWidth confirmWindow : Byte) (s : State) : Reply :=
  let settings := gateSettingsOf pulseWidth.toNat confirmWindow.toNat
  (s.onGates fun u => { u with settings := settings }).doneClamped
    (settings != ⟨pulseWidth.toNat, confirmWindow.toNat⟩)

/-- The row SET_GATE: the link takes it and `replySetGate` answers it (R174, R176). -/
def execSetGate (pulseWidth confirmWindow : Byte) (s : State) : Host.Outcome State Fault Refusal :=
  s.command (.setGate pulseWidth confirmWindow) (replySetGate pulseWidth confirmWindow)

/-- The capacity and threshold SET_BIN writes (R130). -/
def binCapacityOf (capacity : BitVec 16) : Nat := max 1 capacity.toNat
def binThresholdOf (capacity threshold : BitVec 16) : Nat := min (binCapacityOf capacity) threshold.toNat

/-- SET_BIN, with the tests of R129 (R130). -/
def replySetBin (bin : Byte) (capacity threshold : BitVec 16) (s : State) : Reply :=
  s.withBin bin fun g =>
    ((s.onBin g fun b =>
          { b with
            capacity := binCapacityOf capacity
            threshold := binThresholdOf capacity threshold }).testFill g (s.bin g)).doneClamped
      (binCapacityOf capacity != capacity.toNat || binThresholdOf capacity threshold != threshold.toNat)

/-- The row SET_BIN: the link takes it and `replySetBin` answers it (R174, R176). -/
def execSetBin (bin : Byte) (capacity threshold : BitVec 16) (s : State) : Host.Outcome State Fault Refusal :=
  s.command (.setBin bin capacity threshold) (replySetBin bin capacity threshold)

/-- STALL (R131). -/
def replyStall (bin : Byte) (s : State) : Reply :=
  s.withBin bin fun g =>
    (s.onBin g fun b => { b with stalled := true }).done

/-- The row STALL: the link takes it and `replyStall` answers it (R174, R176). -/
def execStall (bin : Byte) (s : State) : Host.Outcome State Fault Refusal :=
  s.command (.stall bin) (replyStall bin)

/-- UNSTALL (R131). -/
def replyUnstall (bin : Byte) (s : State) : Reply :=
  s.withBin bin fun g =>
    (s.onBin g fun b => { b with stalled := false, blocked := false, misses := 0 }).done

/-- The row UNSTALL: the link takes it and `replyUnstall` answers it (R174, R176). -/
def execUnstall (bin : Byte) (s : State) : Host.Outcome State Fault Refusal :=
  s.command (.unstall bin) (replyUnstall bin)

/-- The reported state of a bin: the first condition that applies (R115, R134). -/
def Bin.reportedCode (b : Bin) : Nat :=
  if !b.present then 4
  else if b.blocked then 3
  else if b.stalled then 2
  else if b.isFull then 1
  else 0

/-- The ejector's pocket while FIRED, 0xFF otherwise (R134). -/
def EjectorState.pocketCode : EjectorState → Nat
  | .fired p _ => p.val
  | _ => 0xFF

/-- The bin fields of READ_BIN, from the reported state to the swap count (R134). -/
def Bin.payload (b : Bin) : List Byte :=
  byte1 b.reportedCode ++
    byte1 (packBits [b.present, b.stalled, b.blocked, b.removedLatch, b.insertedLatch, b.isNearFull]) ++
    bytesBE 2 b.capacity ++ bytesBE 2 b.threshold ++ bytesBE 2 b.fill ++ byte1 b.misses ++
    bytes16 b.swaps

/-- The same fields for CR and PG, which have no bin; the PG-miss count for PG (R134). -/
def noBinPayload (misses : Nat) : List Byte :=
  byte1 255 ++ byte1 0 ++ bytesBE 2 0 ++ bytesBE 2 0 ++ bytesBE 2 0 ++ byte1 misses ++ bytesBE 2 0

/-- The ejector fields of READ_BIN and the common settings (R134). -/
def ejectorPayload (e : Ejector) (spills : Nat) (g : GateSettings) : List Byte :=
  byte1 e.state.code ++ byte1 e.state.pocketCode ++ bytesBE 2 e.noise ++ bytesBE 2 spills ++
    byte1 g.pulseWidth ++ byte1 g.confirmWindow

/-- The READ_BIN payload, 20 bytes (R134). -/
def State.binPayload (s : State) (index : Byte) (c : Chute) : List Byte :=
  match c with
  | .gate g =>
    [index] ++ (s.bin g).payload ++ ejectorPayload (s.ejector c) (s.bin g).spills s.gates.settings
  | .checkReturn => [index] ++ noBinPayload 0 ++ ejectorPayload (s.ejector c) 0 s.gates.settings
  | .purge => [index] ++ noBinPayload s.gates.purgeMisses ++ ejectorPayload (s.ejector c) 0 s.gates.settings

/-- What READ_BIN clears: the latches and the spill count of the bin, and the noise count (R134). -/
def State.clearBin (s : State) (c : Chute) : State :=
  let s1 := s.onEjector c fun e => { e with noise := 0 }
  match c with
  | .gate g => s1.onBin g fun b => { b with removedLatch := false, insertedLatch := false, spills := 0 }
  | _ => s1

/-- READ_BIN: return and clear are one act (R134). -/
def replyReadBin (index : Byte) (s : State) : Reply :=
  match chuteOf index with
  | some c => (s.clearBin c).report (s.binPayload index c)
  | none => s.refuse .badIndex

/-- The row READ_BIN: the link takes it and `replyReadBin` answers it (R174, R176). -/
def execReadBin (index : Byte) (s : State) : Host.Outcome State Fault Refusal :=
  s.command (.readBin index) (replyReadBin index)

end Sys2Proof.Machine
end

