-- ==== Sys2Proof/Machine/Pockets.lean ====
section
/-! DEFINITION. The empty check (R33, R34) and the host's operations on records: READ_POCKET (R37),
VOID_POCKET (R38), REROUTE_POCKET (R40) and FORCE_CLASS (R102). -/

namespace Sys2Proof.Machine

/-! ### The empty check -/

/-- STRAY_PART: an EMPTY pocket holds a part; the record becomes UNKNOWN (R33, R34). -/
def State.strayPart (s : State) (p : Fin 24) : State :=
  (s.raisePocket
      { kind := .strayPart, pocket := p, lot := 0, serial := 0, station := Config.offsetEmptyCheck,
        cls := none }).setPocket p .unknown

/-- LOST_PART: a live record whose pocket is empty; it becomes EMPTY and is counted lost (R33, R34). -/
def State.lostPart (s : State) (p : Fin 24) (r : LiveRecord) : State :=
  ((s.raisePocket
        { kind := .lostPart, pocket := p, lot := r.lot, serial := r.serial,
          station := Config.offsetEmptyCheck, cls := r.cls }).setPocket p .empty).reportPart r
    fun c => { c with lost := count32 c.lost }

/-- The arrival at EC with the sample of POCKET_SENSE (the table of R33), after which a drain may end
(R162). -/
def State.arriveEmptyCheck (s : State) (sensed : Bool) : State :=
  let p := s.pocketAt Config.offsetEmptyCheck
  match s.pocket p, sensed with
  | .empty, true => (s.strayPart p).drainTest
  | .empty, false => s
  | .unknown, true => s
  | .unknown, false => (s.setPocket p .empty).drainTest
  | .live _, true => s
  | .live r, false =>
    match r.phase with
    | .measuring _ _ _ => s
    | .ejecting _ => s
    | .pending _ _ => (s.lostPart p r).drainTest
    | .classified => (s.lostPart p r).drainTest
    | .purgePending _ => (s.lostPart p r).drainTest
    | .checkDone => (s.lostPart p r).drainTest

/-! ### READ_POCKET -/

/-- A pocket command: a pocket number above 23 is refused (R37, R38, R40). -/
def State.withPocket (s : State) (i : Byte) (act : Fin 24 → Reply) : Reply :=
  match indexBelow 24 i with
  | some p => act p
  | none => s.refuse .badIndex

/-- State codes of READ_POCKET (READ_POCKET payload). -/
def Phase.code : Phase → Nat
  | .pending _ _ => 2
  | .measuring _ _ _ => 3
  | .classified => 4
  | .ejecting _ => 5
  | .purgePending _ => 6
  | .checkDone => 7

def Kind.code : Kind → Nat
  | .part => 0
  | .check => 1

def PurgeMark.code : PurgeMark → Nat
  | .voided => 0
  | .abort => 1

/-- The next head, the measuring head, the open pair, the purge mark, the eject station and the purge
reason that a state holds (R19). -/
def Phase.nextHead : Phase → Option Head
  | .pending h _ => some h
  | _ => none

def Phase.measuringHead : Phase → Option Head
  | .measuring h _ _ => some h
  | _ => none

def Phase.openPair : Phase → Bool
  | .pending _ b => b
  | .measuring _ b _ => b
  | _ => false

def Phase.mark : Phase → Option PurgeMark
  | .measuring _ _ m => m
  | _ => none

def Phase.ejectStation : Phase → Option Chute
  | .ejecting e => some e.chute
  | _ => none

def Phase.purgeReason : Phase → Option PurgeReason
  | .purgePending r => some r
  | .ejecting (.purge r) => some r
  | _ => none

/-- The number a present field holds, 0 when it is absent (READ_POCKET payload). -/
def fieldCode {α : Type} (x : Option α) (code : α → Nat) : Nat :=
  match x with
  | some v => code v
  | none => 0

/-- Deciding heads, epoch of A and epoch of B, 0 for a head not deciding (READ_POCKET payload). -/
def Deciders.payload : Deciders → List Byte
  | .one .a e => byte1 1 ++ bytes16 e ++ bytes16 0#16
  | .one .b e => byte1 2 ++ bytes16 0#16 ++ bytes16 e
  | .both a b => byte1 3 ++ bytes16 a ++ bytes16 b

/-- The result deviation, deciding heads and epochs (READ_POCKET payload). -/
def gradingPayload (g : Option Grading) : List Byte :=
  match g with
  | some v => signedBE 4 v.deviation ++ v.deciders.payload
  | none => signedBE 4 0 ++ byte1 0 ++ bytes16 0#16 ++ bytes16 0#16

/-- One reading, 12 bytes (READ_POCKET payload, R20). -/
def Reading.payload (x : Reading) : List Byte :=
  byte1 (headCode x.head) ++
    match x.sample with
    | some v =>
      byte1 (packBits [true, true, v.saturated, x.doubtful, x.forced]) ++
        bytesBE 3 v.code.toNat ++ [v.status] ++ signedBE 4 v.deviation ++ bytes16 x.epoch
    | none =>
      byte1 (packBits [false, false, false, x.doubtful, x.forced]) ++
        bytesBE 3 0 ++ [0#8] ++ signedBE 4 0 ++ bytes16 x.epoch

/-- The presence bits of a live record, bit 0 first (READ_POCKET payload). -/
def LiveRecord.presence (r : LiveRecord) : List Bool :=
  [true, r.phase.nextHead.isSome, r.phase.measuringHead.isSome, r.phase.mark.isSome, r.grading.isSome,
    r.grading.isSome, r.cls.isSome, r.phase.ejectStation.isSome, r.phase.purgeReason.isSome]

/-- The flags byte with the open pair at bit 5 (READ_POCKET payload). -/
def LiveRecord.flagBits (r : LiveRecord) : List Bool :=
  [r.flags.forced, r.flags.recalled, r.flags.recallPending, r.flags.degraded, r.flags.saturated,
    r.phase.openPair]

/-- The payload of a live record from its state on (READ_POCKET payload; log entry 27 for a list of more than six
readings). -/
def LiveRecord.payload (r : LiveRecord) : List Byte :=
  byte1 r.phase.code ++ bytesBE 2 (packBits r.presence) ++ byte1 r.kind.code ++ bytesBE 2 r.lot ++
    bytesBE 3 r.serial ++ byte1 r.lap ++ byte1 r.attempts ++ byte1 (packBits r.flagBits) ++
    byte1 (fieldCode (r.phase.nextHead.or r.phase.measuringHead) headCode) ++
    byte1 (fieldCode r.phase.mark PurgeMark.code) ++ gradingPayload r.grading ++
    byte1 (fieldCode r.cls Fin.val) ++ byte1 (fieldCode r.phase.ejectStation Config.offsetChute) ++
    byte1 (fieldCode r.phase.purgeReason fun x => x.code.val) ++ byte1 r.readings.length ++
    r.readings.flatMap Reading.payload

/-- The payload of a record from its state on; EMPTY and UNKNOWN give presence 0 and no readings. -/
def PocketRecord.payload : PocketRecord → List Byte
  | .empty => byte1 0 ++ List.replicate 26 0#8
  | .unknown => byte1 1 ++ List.replicate 26 0#8
  | .live r => r.payload

/-- The READ_POCKET payload (R37). -/
def State.pocketPayload (s : State) (p : Fin 24) : List Byte :=
  byte1 p.val ++ byte1 (s.offsetOf p) ++ (s.pocket p).payload

/-- READ_POCKET (R37). -/
def replyReadPocket (pocket : Byte) (s : State) : Reply :=
  s.withPocket pocket fun p => s.report (s.pocketPayload p)

/-- The row READ_POCKET: the link takes it and `replyReadPocket` answers it (R174, R176). -/
def execReadPocket (pocket : Byte) (s : State) : Host.Outcome State Fault Refusal :=
  s.command (.readPocket pocket) (replyReadPocket pocket)

/-! ### VOID_POCKET and REROUTE_POCKET -/

/-- VOID_POCKET by the state of the record (the table of R38). -/
def State.voidPocket (s : State) (p : Fin 24) : Reply :=
  match s.pocket p with
  | .empty => s.refuse .notLive
  | .unknown => s.done
  | .live r =>
    match r.phase with
    | .measuring h openPair _ => (s.setLive p { r with phase := .measuring h openPair (some .voided) }).done
    | .ejecting _ => s.refuse .inFlight
    | .pending _ _ => (s.setLive p (r.purge .voided)).done
    | .classified => (s.setLive p (r.purge .voided)).done
    | .purgePending _ => (s.setLive p (r.purge .voided)).done
    | .checkDone => (s.setLive p (r.purge .voided)).done

/-- VOID_POCKET (R38). -/
def replyVoidPocket (pocket : Byte) (s : State) : Reply := s.withPocket pocket s.voidPocket

/-- The row VOID_POCKET: the link takes it and `replyVoidPocket` answers it (R174, R176). -/
def execVoidPocket (pocket : Byte) (s : State) : Host.Outcome State Fault Refusal :=
  s.command (.voidPocket pocket) (replyVoidPocket pocket)

/-- A class index names a class of a bank's list (R97). -/
def Recipe.names (r : Recipe) (cls : Byte) : Option (Fin 12) :=
  match indexBelow 12 cls with
  | some c => if (r.cls c).isSome then some c else none
  | none => none

/-- REROUTE_POCKET: the state before the class (R40). -/
def State.reroutePocket (s : State) (cls : Byte) (p : Fin 24) : Reply :=
  match s.pocket p with
  | .live r =>
    match r.phase with
    | .classified =>
      match s.banks.active.names cls with
      | some c => (s.setLive p { r with cls := some c, flags := { r.flags with forced := true } }).done
      | none => s.refuse .badIndex
    | _ => s.refuse .refusedState
  | _ => s.refuse .refusedState

/-- REROUTE_POCKET (R40). -/
def replyReroutePocket (pocket cls : Byte) (s : State) : Reply :=
  s.withPocket pocket (s.reroutePocket cls)

/-- The row REROUTE_POCKET: the link takes it and `replyReroutePocket` answers it (R174, R176). -/
def execReroutePocket (pocket cls : Byte) (s : State) : Host.Outcome State Fault Refusal :=
  s.command (.reroutePocket pocket cls) (replyReroutePocket pocket cls)

/-- FORCE_CLASS: an index that names a class of neither list is refused (R102). -/
def replyForceClass (cls : Byte) (s : State) : Reply :=
  match (s.banks.pending.names cls).or (s.banks.active.names cls) with
  | some c => State.done { s with forceClass := some c }
  | none => s.refuse .badIndex

/-- The row FORCE_CLASS: the link takes it and `replyForceClass` answers it (R174, R176). -/
def execForceClass (cls : Byte) (s : State) : Host.Outcome State Fault Refusal :=
  s.command (.forceClass cls) (replyForceClass cls)

end Sys2Proof.Machine
end

