-- ==== Sys2Proof/Machine/Dial.lean ====
section
/-! DEFINITION. The index controller: the dwell and its arrivals (R2), the index (R6, R7, R11), the
emergency stop (R9, R10), the START line and the dial commands (R12 to R16). -/

namespace Sys2Proof.Machine

/-! ### The dwell and its arrivals (R2) -/

/-- A station in the busy set is not given the arrival (R2). -/
def State.deliver (s : State) (st : Station) (arrive : State → State) : State :=
  if s.isBusy st then s else arrive s

/-- The arrivals at G0 to G11, in order (R2). -/
def State.arriveGates (s : State) : State :=
  (List.finRange 12).foldl (fun s g => s.deliver (.eject (.gate g)) fun s => s.arriveGate g) s

/-- The arrivals at every station, in the order LOAD, HA, HB, G0 to G11, CR, PG, EC (R2; DEDUCED, log
entry 20). -/
def State.arrivals (s : State) (sensed : Bool) : State :=
  let s1 := s.deliver .load State.arriveLoad
  let s2 := s1.deliver (.head .a) fun s => s.arriveHead .a
  let s3 := s2.deliver (.head .b) fun s => s.arriveHead .b
  let s4 := s3.arriveGates
  let s5 := s4.deliver (.eject .checkReturn) State.arriveCheckReturn
  let s6 := s5.deliver (.eject .purge) State.arrivePurge
  s6.arriveEmptyCheck sensed

/-- The dial state and the minimum-dwell timer at the beginning of a dwell (R2). -/
def State.enterDwell (s : State) : State :=
  s.onDial fun d => { d with state := .dwell, dwellTimer := .running d.minDwell }

/-- A dwell begins: the timer starts and the arrivals are delivered (R2). -/
def State.beginDwell (s : State) (sensed : Bool) : State := s.enterDwell.arrivals sensed

/-! ### The index -/

/-- D advances by one modulo 24 (R6). -/
def State.advance (s : State) : State := s.onDial fun d => { d with position := d.position + 1 }

/-- An index honoured: the move timer stops, D advances and a dwell begins (R6, R7). -/
def State.honourIndex (s : State) (sensed : Bool) : State :=
  (s.onDial fun d => { d with moveTimer := .stopped }).advance.beginDwell sensed

/-- A spurious index: D advances, SPURIOUS_INDEX is raised and measurements are abandoned; in DWELL the
end-of-dwell test follows (R11). -/
def State.spuriousIndex (s : State) : State := ((s.advance.raise .spuriousIndex).abandonAll).endDwellTest

/-- INDEX_DONE by the dial state (R6, R7, R11). -/
def execIndexDone (pocketSense : Bool) (s : State) : Host.Outcome State Fault Refusal :=
  s.event fun s =>
    match s.dial.state with
    | .moving => s.honourIndex pocketSense
    | .jammed => s.honourIndex pocketSense
    | _ => s.spuriousIndex

/-- MIN_DWELL_EXPIRY (R4). -/
def execMinDwellExpiry (s : State) : Host.Outcome State Fault Refusal :=
  s.event fun s =>
    match s.dial.dwellTimer with
    | .running _ => (s.onDial fun d => { d with dwellTimer := .elapsed }).endDwellTest
    | _ => s

/-- The dial is JAMMED and DIAL_JAM is raised (R7). -/
def State.jam (s : State) : State :=
  (s.onDial fun d => { d with state := .jammed, moveTimer := .stopped }).raise .dialJam

/-- MOVE_TIMER_EXPIRY in MOVING (R7). -/
def execMoveTimerExpiry (s : State) : Host.Outcome State Fault Refusal :=
  s.event fun s => if s.dial.state = .moving then s.jam else s

/-! ### Emergency stop -/

/-- The outputs FEED, CHECK_FEED and the fourteen gates are released (R9 item 4). -/
def State.releaseOutputs (s : State) : State :=
  (s.onFeed fun f => { f with feedOut := false, checkFeedOut := false }).onGates fun u =>
    { u with
      ejectors := Vector.ofFn fun i : Fin 14 =>
        { u.ejectors[i.val] with driven := false, pulseTimer := .stopped } }

/-- The dial where the position of the pockets is not known (R8, R9 item 6). -/
def DialState.betweenPositions : DialState → Bool
  | .moving => true
  | .jammed => true
  | _ => false

/-- The seven items of R9. -/
def State.emergencyStop (s : State) : State :=
  let s1 := s.onDial fun d =>
    { d with dwellTimer := .stopped, moveTimer := .stopped, stopPending := false }
  let s2 := s1.releaseOutputs.abandonAll
  let s3 := if s.dial.state.betweenPositions then s2.giveUpRecords else s2
  s3.onDial fun d => { d with state := .estopped }

/-- ESTOP_ASSERTED (R9): in ESTOPPED it has no further effect. -/
def execEstopAsserted (s : State) : Host.Outcome State Fault Refusal :=
  s.event fun s =>
    let s1 := { s with lines := { s.lines with estop := true } }
    if s.dial.state = .estopped then s1 else s1.emergencyStop

/-- ESTOP_RELEASED (R10). -/
def execEstopReleased (s : State) : Host.Outcome State Fault Refusal :=
  s.event fun s =>
    let s1 := { s with lines := { s.lines with estop := false } }
    (if s.dial.state = .estopped then s1.onDial fun d => { d with state := .idle } else s1).reportSevere s

/-! ### START -/

/-- START_LINE_EDGE (R12). -/
def execStartLineEdge (pocketSense : Bool) (s : State) : Host.Outcome State Fault Refusal :=
  s.event fun s =>
    if s.dial.state = .idle ∧ s.dial.startEnable then s.beginDwell pocketSense else s

/-- START (R12). -/
def replyStart (pocketSense : Bool) (s : State) : Reply :=
  if s.dial.state = .idle then (s.beginDwell pocketSense).done else s.refuse .refusedState

/-- The row START: the link takes it and `replyStart` answers it (R174, R176). -/
def execStart (pocketSense : Bool) (s : State) : Host.Outcome State Fault Refusal :=
  s.command (.start pocketSense) (replyStart pocketSense)

/-! ### The other dial commands -/

/-- STOP by the dial state (the table of R13). -/
def State.stopDial (s : State) : State :=
  match s.dial.state with
  | .dwell => s.onDial fun d => { d with stopPending := true }
  | .moving => s.onDial fun d => { d with stopPending := true }
  | .held => s.restDial
  | .jammed => s.giveUpRecords.restDial.onDial fun d => { d with stopPending := false }
  | .idle => s
  | .estopped => s

/-- STOP (R13). -/
def replyStop (s : State) : Reply := s.stopDial.done

/-- The row STOP: the link takes it and `replyStop` answers it (R174, R176). -/
def execStop (s : State) : Host.Outcome State Fault Refusal :=
  s.command .stop replyStop

/-- HOLD (R14). -/
def replyHold (s : State) : Reply := (s.onDial fun d => { d with hostHold := true }).done

/-- The row HOLD: the link takes it and `replyHold` answers it (R174, R176). -/
def execHold (s : State) : Host.Outcome State Fault Refusal :=
  s.command .hold replyHold

/-- RELEASE (R14), with the test of R5. -/
def replyRelease (s : State) : Reply :=
  (s.onDial fun d => { d with hostHold := false }).heldTest.done

/-- The row RELEASE: the link takes it and `replyRelease` answers it (R174, R176). -/
def execRelease (s : State) : Host.Outcome State Fault Refusal :=
  s.command .release replyRelease

/-- SET_DIAL (R15). -/
def replySetDial (minDwell moveTimeout : BitVec 16) (startEnable : Byte) (s : State) : Reply :=
  if s.dial.state = .idle then
    let dwell := clampNat 20 500 minDwell.toNat
    let move := clampNat 50 2000 moveTimeout.toNat
    (s.onDial fun d =>
        { d with minDwell := dwell, moveTimeout := move,
                 startEnable := startEnable != 0#8 }).doneClamped
      (dwell != minDwell.toNat || move != moveTimeout.toNat || decide (1 < startEnable.toNat))
  else s.refuse .refusedState

/-- The row SET_DIAL: the link takes it and `replySetDial` answers it (R174, R176). -/
def execSetDial (minDwell moveTimeout : BitVec 16) (startEnable : Byte) (s : State) :
    Host.Outcome State Fault Refusal :=
  s.command (.setDial minDwell moveTimeout startEnable) (replySetDial minDwell moveTimeout startEnable)

/-- The READ_DIAL payload, 10 bytes (R16). -/
def State.dialPayload (s : State) : List Byte :=
  byte1 s.dial.state.code ++ byte1 s.dial.position.val ++
    byte1 (packBits [s.dial.hostHold, s.dial.stopPending, s.anySevere, s.dial.dwellTimer == .elapsed,
      s.dial.startEnable]) ++
    bytesBE 3 (packBits s.dial.busy.toList) ++ bytesBE 2 s.dial.minDwell ++ bytesBE 2 s.dial.moveTimeout

/-- READ_DIAL (R16). -/
def replyReadDial (s : State) : Reply := s.report s.dialPayload

/-- The row READ_DIAL: the link takes it and `replyReadDial` answers it (R174, R176). -/
def execReadDial (s : State) : Host.Outcome State Fault Refusal :=
  s.command .readDial replyReadDial

end Sys2Proof.Machine
end

