-- ==== Sys2Proof/Machine/Faults.lean ====
section
/-! DEFINITION. The fault unit's commands: READ_FAULTS (R172), ACK_FAULTS (R168), READ_CAPTURE and ACK_CAPTURE
(R170), SET_ATTN_MASK (R171). -/

namespace Sys2Proof.Machine

/-- The set of flags a 32-bit field names; positions that name no flag are ignored (R168, R171). -/
def flagSetOf (x : BitVec 32) : FlagSet := x.setWidth 19

/-- A set keeps its numbers unless its flag is acknowledged (R168). -/
def keepUnless (named : FlagSet) (f : Flag) (set_ : BitVec 12) : BitVec 12 :=
  if named.getLsbD f.number then 0#12 else set_

/-- The event flags named are cleared, with the sets of those that carry one (R168). -/
def FaultUnit.acknowledge (u : FaultUnit) (named : FlagSet) : FaultUnit :=
  { u with
    events := u.events &&& ~~~named
    gateBlockedBins := keepUnless named .gateBlocked u.gateBlockedBins
    nearFullBins := keepUnless named .binNearFull u.nearFullBins
    fullBins := keepUnless named .binFull u.fullBins
    unsortedClasses := keepUnless named .passedUnsorted u.unsortedClasses }

/-- ACK_FAULTS; naming PURGE_BLOCKED sets the PG-miss count to 0 whether or not the flag was set (R168). -/
def State.ackFaults (s : State) (named : FlagSet) : State :=
  let s1 := s.onFaults fun u => u.acknowledge named
  let s2 :=
    if named.getLsbD Flag.purgeBlocked.number then s1.onGates fun u => { u with purgeMisses := 0 } else s1
  s2.reportSevere s

/-- ACK_FAULTS (R168). -/
def replyAckFaults (flags : BitVec 32) (s : State) : Reply := (s.ackFaults (flagSetOf flags)).done

/-- The row ACK_FAULTS: the link takes it and `replyAckFaults` answers it (R174, R176). -/
def execAckFaults (flags : BitVec 32) (s : State) : Host.Outcome State Fault Refusal :=
  s.command (.ackFaults flags) (replyAckFaults flags)

/-- The READ_FAULTS payload, 17 bytes (R172). -/
def State.faultsPayload (s : State) : List Byte :=
  bytesBE 4 s.flags.toNat ++ bytesBE 4 s.faults.attnMask.toNat ++ bytesBE 2 s.faults.gateBlockedBins.toNat ++
    bytesBE 2 s.faults.nearFullBins.toNat ++ bytesBE 2 s.faults.fullBins.toNat ++
    bytesBE 2 s.faults.unsortedClasses.toNat ++
    byte1 (packBits [s.holdLine, s.attnLine, s.dial.hostHold, s.faults.pocketCapture.isSome,
      s.faults.headCapture.isSome])

/-- READ_FAULTS (R172). -/
def replyReadFaults (s : State) : Reply := s.report s.faultsPayload

/-- The row READ_FAULTS: the link takes it and `replyReadFaults` answers it (R174, R176). -/
def execReadFaults (s : State) : Host.Outcome State Fault Refusal :=
  s.command .readFaults replyReadFaults

/-- The pocket capture payload, 11 bytes; an empty one has kind 0xFF and every field 0 (R170). -/
def pocketCapturePayload (c : Option PocketCapture) : List Byte :=
  match c with
  | none => byte1 0 ++ byte1 0 ++ byte1 0xFF ++ List.replicate 8 0#8
  | some x =>
    byte1 0 ++ byte1 1 ++ byte1 x.kind.flag.number ++ byte1 x.pocket.val ++ bytesBE 2 x.lot ++
      bytesBE 3 x.serial ++ byte1 x.station ++
      byte1 (match x.cls with
        | some k => k.val
        | none => 0xFF)

/-- The head capture payload, 13 bytes (R170).  A filled capture with no drift sends 0 in the four drift bytes
(DESIGN CHOICE, log entry 26): R170 gives them no value there. -/
def headCapturePayload (c : Option HeadCapture) : List Byte :=
  match c with
  | none => byte1 1 ++ byte1 0 ++ byte1 0xFF ++ List.replicate 10 0#8
  | some x =>
    byte1 1 ++ byte1 1 ++ byte1 x.kind.flag.number ++ byte1 (headCode x.head) ++ bytes16 x.epoch ++
      bytesBE 2 x.exposure ++ byte1 x.drift.isSome.toNat ++
      signedBE 4 (match x.drift with
        | some d => d
        | none => 0)

/-- READ_CAPTURE: 0 the pocket capture, 1 the head capture (R170). -/
def replyReadCapture (which : Byte) (s : State) : Reply :=
  match which.toNat with
  | 0 => s.report (pocketCapturePayload s.faults.pocketCapture)
  | 1 => s.report (headCapturePayload s.faults.headCapture)
  | _ => s.refuse .badIndex

/-- The row READ_CAPTURE: the link takes it and `replyReadCapture` answers it (R174, R176). -/
def execReadCapture (which : Byte) (s : State) : Host.Outcome State Fault Refusal :=
  s.command (.readCapture which) (replyReadCapture which)

/-- ACK_CAPTURE (R170). -/
def replyAckCapture (which : Byte) (s : State) : Reply :=
  match which.toNat with
  | 0 => (s.onFaults fun u => { u with pocketCapture := none }).done
  | 1 => (s.onFaults fun u => { u with headCapture := none }).done
  | _ => s.refuse .badIndex

/-- The row ACK_CAPTURE: the link takes it and `replyAckCapture` answers it (R174, R176). -/
def execAckCapture (which : Byte) (s : State) : Host.Outcome State Fault Refusal :=
  s.command (.ackCapture which) (replyAckCapture which)

/-- SET_ATTN_MASK writes the thirteen enables (R171). -/
def replySetAttnMask (mask : BitVec 32) (s : State) : Reply :=
  (s.onFaults fun u => { u with attnMask := flagSetOf mask &&& attentionFlags }).done

/-- The row SET_ATTN_MASK: the link takes it and `replySetAttnMask` answers it (R174, R176). -/
def execSetAttnMask (mask : BitVec 32) (s : State) : Host.Outcome State Fault Refusal :=
  s.command (.setAttnMask mask) (replySetAttnMask mask)

end Sys2Proof.Machine
end

