-- ==== Sys2Proof/Machine/Recipes.lean ====
section
/-! DEFINITION. The recipe banks: the editing commands (R150 to R152), COPY_ACTIVE and READ_RECIPE (R153). -/

namespace Sys2Proof.Machine

/-- SET_NOMINAL (R151). -/
def replySetNominal (mantissa : BitVec 16) (exponent : Byte) (s : State) : Reply :=
  let m := clampNat 1000 9999 mantissa.toNat
  let e := clampSigned (-3) 3 exponent.toInt
  (s.onPendingBank fun r => { r with mantissa := m, exponent := e }).doneClamped
    (m != mantissa.toNat || e != exponent.toInt)

/-- The row SET_NOMINAL: the link takes it and `replySetNominal` answers it (R174, R176). -/
def execSetNominal (mantissa : BitVec 16) (exponent : Byte) (s : State) : Host.Outcome State Fault Refusal :=
  s.command (.setNominal mantissa exponent) (replySetNominal mantissa exponent)

/-- SET_MEASURE: the mode is structural (R150, R151). -/
def replySetMeasure (mode aperture : Byte) (agreeLimit : BitVec 16) (s : State) : Reply :=
  match modeOf mode with
  | none => s.refuse .badIndex
  | some m =>
    let limit := clampNat 1 10000 agreeLimit.toNat
    (s.onPendingBank fun r =>
        { r with mode := m, aperture := clampCode aperture, agreeLimit := limit }).doneClamped
      (decide (3 < aperture.toNat) || limit != agreeLimit.toNat)

/-- The row SET_MEASURE: the link takes it and `replySetMeasure` answers it (R174, R176). -/
def execSetMeasure (mode aperture : Byte) (agreeLimit : BitVec 16) (s : State) :
    Host.Outcome State Fault Refusal :=
  s.command (.setMeasure mode aperture agreeLimit) (replySetMeasure mode aperture agreeLimit)

/-- SET_RETEST: the policy slots are structural; mask positions that name no maskable flag are ignored
(R151). -/
def replySetRetest (doubtMask retestLimit slot1 slot2 lapLimit : Byte) (s : State) : Reply :=
  match policyOf slot1, policyOf slot2 with
  | some p1, some p2 =>
    let retests := min 2 retestLimit.toNat
    let laps := clampNat 1 3 lapLimit.toNat
    (s.onPendingBank fun r =>
        { r with doubtMask := doubtMask &&& maskableFlags, retestLimit := retests, slot1 := p1,
                 slot2 := p2, lapLimit := laps }).doneClamped
      (retests != retestLimit.toNat || laps != lapLimit.toNat)
  | _, _ => s.refuse .badIndex

/-- The row SET_RETEST: the link takes it and `replySetRetest` answers it (R174, R176). -/
def execSetRetest (doubtMask retestLimit slot1 slot2 lapLimit : Byte) (s : State) :
    Host.Outcome State Fault Refusal :=
  s.command (.setRetest doubtMask retestLimit slot1 slot2 lapLimit)
    (replySetRetest doubtMask retestLimit slot1 slot2 lapLimit)

/-- SET_CLASS: the index and the two gates are structural (R152). -/
def replySetClass (index : Byte) (lo hi : BitVec 32) (guardBand : BitVec 16)
    (primary overflow catchAll : Byte) (s : State) : Reply :=
  match indexBelow 12 index, indexBelow 12 primary, overflowOf overflow with
  | some i, some p, some o =>
    let l := clampSigned (-999999) 999999 lo.toInt
    let h := clampSigned (-999999) 999999 hi.toInt
    let g := min 50000 guardBand.toNat
    let c : ClassDef :=
      { lo := l, hi := h, guardBand := g, primary := p, overflow := o, catchAll := catchAll != 0#8 }
    (s.onPendingBank fun r => { r with classes := r.classes.set i.val (some c) }).doneClamped
      (l != lo.toInt || h != hi.toInt || g != guardBand.toNat)
  | _, _, _ => s.refuse .badIndex

/-- The row SET_CLASS: the link takes it and `replySetClass` answers it (R174, R176). -/
def execSetClass (index : Byte) (lo hi : BitVec 32) (guardBand : BitVec 16)
    (primary overflow catchAll : Byte) (s : State) : Host.Outcome State Fault Refusal :=
  s.command (.setClass index lo hi guardBand primary overflow catchAll)
    (replySetClass index lo hi guardBand primary overflow catchAll)

/-- CLEAR_CLASSES (R152). -/
def replyClearClasses (s : State) : Reply :=
  (s.onPendingBank fun r => { r with classes := Vector.replicate 12 none }).done

/-- The row CLEAR_CLASSES: the link takes it and `replyClearClasses` answers it (R174, R176). -/
def execClearClasses (s : State) : Host.Outcome State Fault Refusal :=
  s.command .clearClasses replyClearClasses

/-- The check interval SET_CHECK writes: 0 is off, and 1 to 19 are brought to 20 (R151). -/
def checkIntervalOf (k : Nat) : Nat := if k = 0 then 0 else clampNat 20 5000 k

/-- SET_CHECK (R151). -/
def replySetCheck (interval : BitVec 16) (certified : BitVec 32) (driftLimit : BitVec 16)
    (s : State) : Reply :=
  let k := checkIntervalOf interval.toNat
  let c := clampSigned (-999999) 999999 certified.toInt
  let d := clampNat 1 10000 driftLimit.toNat
  (s.onPendingBank fun r => { r with checkInterval := k, certified := c, driftLimit := d }).doneClamped
    (k != interval.toNat || c != certified.toInt || d != driftLimit.toNat)

/-- The row SET_CHECK: the link takes it and `replySetCheck` answers it (R174, R176). -/
def execSetCheck (interval : BitVec 16) (certified : BitVec 32) (driftLimit : BitVec 16) (s : State) :
    Host.Outcome State Fault Refusal :=
  s.command (.setCheck interval certified driftLimit) (replySetCheck interval certified driftLimit)

/-- COPY_ACTIVE (R153). -/
def replyCopyActive (s : State) : Reply := (s.onPendingBank fun _ => s.banks.active).done

/-- The row COPY_ACTIVE: the link takes it and `replyCopyActive` answers it (R174, R176). -/
def execCopyActive (s : State) : Host.Outcome State Fault Refusal :=
  s.command .copyActive replyCopyActive

/-- One class entry, 13 bytes; an undefined one is all 0 (R153). -/
def classPayload (c : Option ClassDef) : List Byte :=
  match c with
  | none => List.replicate 13 0#8
  | some k =>
    signedBE 4 k.lo ++ signedBE 4 k.hi ++ bytesBE 2 k.guardBand ++ byte1 k.primary.val ++
      byte1 (match k.overflow with
        | some o => o.val
        | none => 0xFF) ++
      byte1 k.catchAll.toNat

/-- The READ_RECIPE payload after the bank number, 178 bytes (R153). -/
def Recipe.payload (r : Recipe) : List Byte :=
  bytesBE 2 r.mantissa ++ signedBE 1 r.exponent ++ byte1 r.mode.code ++ byte1 r.aperture.val ++
    bytesBE 2 r.agreeLimit ++ [r.doubtMask] ++ byte1 r.retestLimit ++ byte1 r.slot1.code ++
    byte1 r.slot2.code ++ byte1 r.lapLimit ++ bytesBE 2 r.checkInterval ++ signedBE 4 r.certified ++
    bytesBE 2 r.driftLimit ++ bytesBE 2 (packBits (r.classes.toList.map Option.isSome)) ++
    r.classes.toList.flatMap classPayload

/-- READ_RECIPE: 0 PENDING, 1 ACTIVE (R153). -/
def replyReadRecipe (bank : Byte) (s : State) : Reply :=
  match bank.toNat with
  | 0 => s.report (byte1 0 ++ s.banks.pending.payload)
  | 1 => s.report (byte1 1 ++ s.banks.active.payload)
  | _ => s.refuse .badIndex

/-- The row READ_RECIPE: the link takes it and `replyReadRecipe` answers it (R174, R176). -/
def execReadRecipe (bank : Byte) (s : State) : Host.Outcome State Fault Refusal :=
  s.command (.readRecipe bank) (replyReadRecipe bank)

end Sys2Proof.Machine
end

