-- ==== Sys2Proof/Machine/Lots.lean ====
section
/-! DEFINITION. The lot: validation (R157), LOT_OPEN (R156, R158), LOT_CLOSE (R159), LOT_ABORT (R160) and
READ_LOT (R165). -/

namespace Sys2Proof.Machine

/-! ### Validation (R157) -/

/-- The item codes of the validation, in the order of the table of R157. -/
inductive Item where
  | noClasses
  | windowOrder
  | guardEmpty
  | catchAllPlace
  | gateShared
  | overflowConflict
  | timeoutShort
  | noCapableHead
deriving DecidableEq, Repr

/-- The code of an item (R157). -/
def Item.code : Item → Nat
  | .noClasses => 1
  | .windowOrder => 2
  | .guardEmpty => 3
  | .catchAllPlace => 4
  | .gateShared => 5
  | .overflowConflict => 6
  | .timeoutShort => 7
  | .noCapableHead => 8

/-- The defined classes of a list with their indexes, in index order (R97). -/
def Recipe.defined (r : Recipe) : List (Fin 12 × ClassDef) :=
  (List.finRange 12).filterMap fun i => (r.cls i).map fun c => (i, c)

/-- The index of the first class in order that fails a test (R157). -/
def Recipe.firstClass (r : Recipe) (fails : Fin 12 → ClassDef → Bool) : Option Nat :=
  (r.defined.find? fun x => fails x.1 x.2).map fun x => x.1.val

/-- Some defined class satisfies a test. -/
def Recipe.anyClass (r : Recipe) (test : Fin 12 → ClassDef → Bool) : Bool :=
  r.defined.any fun x => test x.1 x.2

/-- WINDOW_ORDER: lo above hi. -/
def windowOrderFails (_i : Fin 12) (c : ClassDef) : Bool := decide (c.hi < c.lo)

/-- GUARD_EMPTY: not a catch-all, and an empty guarded window. -/
def guardEmptyFails (_i : Fin 12) (c : ClassDef) : Bool :=
  !c.catchAll && decide (c.hi - c.guardBand < c.lo + c.guardBand)

/-- CATCHALL_PLACE: a catch-all that is not the first, or below which a class is defined at a higher index. -/
def Recipe.catchAllFails (r : Recipe) (i : Fin 12) (c : ClassDef) : Bool :=
  c.catchAll && (r.anyClass (fun j d => decide (j < i) && d.catchAll))

def Recipe.catchAllMisplaced (r : Recipe) (i : Fin 12) (c : ClassDef) : Bool :=
  c.catchAll && r.anyClass fun j _ => decide (i < j)

/-- The failure of CATCHALL_PLACE: the second catch-all when there is more than one, and else the misplaced
one (R157; log entry 9). -/
def Recipe.catchAllFailure (r : Recipe) : Option Nat :=
  (r.firstClass r.catchAllFails).or (r.firstClass r.catchAllMisplaced)

/-- GATE_SHARED: an earlier class has the same primary gate; the later class is the subject.  With several
clashing pairs the model takes the lowest index that repeats an earlier gate (DESIGN CHOICE, log entry 25). -/
def Recipe.gateSharedFails (r : Recipe) (i : Fin 12) (c : ClassDef) : Bool :=
  r.anyClass fun j d => decide (j < i) && d.primary == c.primary

/-- OVERFLOW_CONFLICT: the overflow gate is the primary of any class, or the overflow of an earlier one. -/
def Recipe.overflowFails (r : Recipe) (i : Fin 12) (c : ClassDef) : Bool :=
  match c.overflow with
  | none => false
  | some o => r.anyClass fun j d => d.primary == o || (decide (j < i) && d.overflow == some o)

/-- TIMEOUT_SHORT: the first head in service whose timeout is too short for the PENDING aperture. -/
def State.timeoutFailure (s : State) : Option Nat :=
  let short (h : Head) : Bool := s.inService h && (s.head h).tooShortFor s.banks.pending.aperture
  if short .a then some 0 else if short .b then some 1 else none

/-- A head in service reaches a range (R157 item 8). -/
def State.capable (s : State) (h : Head) (range : Fin 7) : Bool :=
  s.inService h && (s.head h).reaches range

/-- The first failure of the PENDING bank and the heads, with its subject, or none (R157). -/
def State.validate (s : State) : Option (Item × Nat) :=
  let r := s.banks.pending
  if r.defined.isEmpty then some (.noClasses, 0xFF)
  else
    ((r.firstClass windowOrderFails).map (Item.windowOrder, ·)).or <|
    ((r.firstClass guardEmptyFails).map (Item.guardEmpty, ·)).or <|
    (r.catchAllFailure.map (Item.catchAllPlace, ·)).or <|
    ((r.firstClass r.gateSharedFails).map (Item.gateShared, ·)).or <|
    ((r.firstClass r.overflowFails).map (Item.overflowConflict, ·)).or <|
    (s.timeoutFailure.map (Item.timeoutShort, ·)).or <|
    if s.capable .a r.range || s.capable .b r.range then none else some (.noCapableHead, 0xFF)

/-! ### LOT_OPEN -/

/-- The lot number an opening gives: one more, wrapping from 65535 to 1 (R158). -/
def nextLotNumber (n : Nat) : Nat := if n = Config.maxCount16 then 1 else n + 1

/-- A record does not stand in the way of an opening by its state (R156 test 2). -/
def PocketRecord.isDrained : PocketRecord → Bool
  | .empty => true
  | .unknown => true
  | .live r => r.isPurgePending

/-- A PURGE_PENDING record holds the lot number that the opening would give (R156 test 3). -/
def PocketRecord.holdsLot (n : Nat) : PocketRecord → Bool
  | .live r => r.isPurgePending && r.lot == n
  | _ => false

/-- A head in service that does not reach the range of the new recipe goes OUT (R158 item 1). -/
def HeadUnit.dropIncapable (u : HeadUnit) (range : Fin 7) : HeadUnit :=
  if u.state.inService && !u.reaches range then { u with state := .out .incapable } else u

/-- The lap of a PURGE_PENDING record is lowered to the new lap limit (R27, R158 item 6). -/
def LiveRecord.lowerLap (r : LiveRecord) (limit : Nat) : LiveRecord :=
  if r.isPurgePending then { r with lap := min r.lap limit } else r

/-- The seven items of R158, as one act. -/
def State.openLot (s : State) : State :=
  let rec_ := s.banks.pending
  let s1 :=
    ((s.onHead .a fun u => u.dropIncapable rec_.range).onHead .b fun u =>
      u.dropIncapable rec_.range).headLeft
  let s2 := { s1 with banks := { s1.banks with active := rec_ }, forceClass := none }
  let s3 := (s2.onHead .a fun u => { u with forceDoubt := false }).onHead .b fun u =>
    { u with forceDoubt := false }
  let s4 := (s3.onCheck CheckUnit.restart).mapLive fun r => .live (r.lowerLap rec_.lapLimit)
  s4.onLot fun l =>
    { l with state := .open_, number := nextLotNumber l.number, counters := LotCounters.zero }

/-- LOT_OPEN: the four tests of R156 in their order, and then the opening (R158). -/
def replyLotOpen (s : State) : Reply :=
  if s.lot.state ≠ .noLot then s.refuse .refusedState
  else if !s.allPockets PocketRecord.isDrained then s.refuse .notDrained
  else if !s.allPockets (fun r => !r.holdsLot (nextLotNumber s.lot.number)) then s.refuse .notDrained
  else
    match s.validate with
    | some (item, subject) => ⟨s, .invalidRecipe, byte1 item.code ++ byte1 subject⟩
    | none => s.openLot.done

/-- The row LOT_OPEN: the link takes it and `replyLotOpen` answers it (R174, R176). -/
def execLotOpen (s : State) : Host.Outcome State Fault Refusal :=
  s.command .lotOpen replyLotOpen

/-! ### LOT_CLOSE and LOT_ABORT -/

/-- The lot becomes DRAINING, the drain may end at once, and NO_HEAD may have cleared (R95, R159, R162,
R167). -/
def State.drain (s : State) : State :=
  ((s.onLot fun l => { l with state := .draining }).drainTest).reportSevere s

/-- LOT_CLOSE (R159). -/
def replyLotClose (s : State) : Reply :=
  if s.lot.state = .open_ then s.drain.done else s.refuse .refusedState

/-- The row LOT_CLOSE: the link takes it and `replyLotClose` answers it (R174, R176). -/
def execLotClose (s : State) : Host.Outcome State Fault Refusal :=
  s.command .lotClose replyLotClose

/-- What LOT_ABORT does to a live record (the table of R160). -/
def LiveRecord.abort (r : LiveRecord) : LiveRecord :=
  match r.phase with
  | .measuring h openPair _ => { r with phase := .measuring h openPair (some .abort) }
  | .ejecting _ => r
  | .pending _ _ => r.purge .abort
  | .classified => r.purge .abort
  | .purgePending _ => r.purge .abort
  | .checkDone => r.purge .abort

/-- A feed in flight is marked aborted (R31, R160). -/
def FeedUnit.abort (u : FeedUnit) : FeedUnit :=
  { u with inFlight := u.inFlight.map fun f => { f with aborted := true } }

/-- LOT_ABORT (R160). -/
def replyLotAbort (s : State) : Reply :=
  if s.lot.state = .noLot then s.refuse .refusedState
  else
    let s1 := (s.mapLive fun r => .live r.abort).onFeed FeedUnit.abort
    (((s1.onLot fun l => { l with state := .draining }).drainTest).reportSevere s).done

/-- The row LOT_ABORT: the link takes it and `replyLotAbort` answers it (R174, R176). -/
def execLotAbort (s : State) : Host.Outcome State Fault Refusal :=
  s.command .lotAbort replyLotAbort

/-! ### READ_LOT -/

/-- The counters of the READ_LOT payload, in its order (R165). -/
def LotCounters.payload (c : LotCounters) : List Byte :=
  bytesBE 4 c.loaded ++ bytesBE 2 c.checkLoads ++ bytesBE 2 c.checkReturns ++
    c.binned.toList.flatMap (bytesBE 4) ++ bytesBE 4 c.spilled ++ c.purged.toList.flatMap (bytesBE 4) ++
    bytesBE 4 c.lost ++ bytesBE 4 c.abandoned ++ bytesBE 4 c.recalled ++ bytesBE 4 c.retests ++
    bytesBE 4 c.passedUnsorted ++ bytesBE 4 c.swept

/-- The READ_LOT payload, 134 bytes (R165). -/
def State.lotPayload (s : State) : List Byte :=
  byte1 s.lot.state.code ++ bytesBE 2 s.lot.number ++ byte1 s.check.due.toNat ++ bytesBE 2 s.check.counter ++
    s.lot.counters.payload ++ bytesBE 2 s.check.exposure.a ++ bytesBE 2 s.check.exposure.b ++
    signedBE 4 s.check.lastDrift.a ++ signedBE 4 s.check.lastDrift.b

/-- READ_LOT (R165). -/
def replyReadLot (s : State) : Reply := s.report s.lotPayload

/-- The row READ_LOT: the link takes it and `replyReadLot` answers it (R174, R176). -/
def execReadLot (s : State) : Host.Outcome State Fault Refusal :=
  s.command .readLot replyReadLot

end Sys2Proof.Machine
end

