-- ==== Sys2Proof/Machine/Reset.lean ====
section
/-! DEFINITION. The two resets: RESET_N (R1, R35, R174, R180) and RESET_SORT with each block's part of the soft
reset (R17, R26, R42, R43, R102, R113, R135, R136, R154, R173). -/

namespace Sys2Proof.Machine

/-! ### RESET_N -/

/-- The transaction of a part whose RESET_N changes: one in progress is not taken (R174). -/
def Transaction.acrossReset : Transaction → Transaction
  | .idle => .idle
  | _ => .notTaken

/-- The power-on reset: every item at its power-on value, with ESTOP and the CAN inputs taken as starting
values; what waits outside the part goes on waiting (R1, R114, R180). -/
def State.powerOn (s : State) (estop : Bool) (cans : BitVec 12) : State :=
  { State.reset with
    dial := { State.reset.dial with state := if estop then .estopped else .idle }
    gates := { State.reset.gates with bins := Vector.ofFn fun g : Fin 12 => Bin.reset (cans.getLsbD g.val) }
    lines := { inReset := false, estop := estop }
    link :=
      { State.reset.link with transaction := s.link.transaction.acrossReset, writes := s.link.writes }
    pending := s.pending }

/-- POWER_ON_RESET (R1). -/
def execPowerOnReset (estop : Bool) (cans : BitVec 12) (s : State) : Host.Outcome State Fault Refusal :=
  .next (s.powerOn estop cans)

/-- RESET_N_ASSERTED: every output is released, SDO with them, and the SPI lines are ignored (R120, R174,
R180). -/
def execResetNAsserted (s : State) : Host.Outcome State Fault Refusal :=
  let s1 := s.onFeed fun f => { f with feedOut := false, checkFeedOut := false }
  let s2 := s1.onGates fun u =>
    { u with
      ejectors := Vector.ofFn fun i : Fin 14 =>
        { u.ejectors[i.val] with driven := false, pulseTimer := .stopped } }
  let s3 := s2.onLink fun l => { l with transaction := l.transaction.acrossReset, shiftedOut := [] }
  .next { s3 with lines := { s3.lines with inReset := true } }

/-! ### The soft reset, block by block (the table of R173) -/

/-- Index controller: a JAMMED dial becomes IDLE; the host hold and stop pending are cleared (R17). -/
def Dial.softReset (d : Dial) : Dial :=
  { d with
    state := if d.state = .jammed then .idle else d.state
    hostHold := false
    stopPending := false }

/-- Pocket tracker: a live record that is not EJECTING is PURGE_PENDING with RESET (R42). -/
def LiveRecord.softReset (r : LiveRecord) : LiveRecord := if r.isEjecting then r else r.purge .reset

/-- Feed unit: the miss counts become 0, and a feed in flight is marked reset (R26, R31). -/
def FeedUnit.softReset (u : FeedUnit) : FeedUnit :=
  { u with
    misses := 0
    checkMisses := 0
    inFlight := u.inFlight.map fun f => { f with reset := true } }

/-- Head interfaces: the force-doubt one-shot is cleared (R43). -/
def HeadUnit.softReset (u : HeadUnit) : HeadUnit := { u with forceDoubt := false }

/-- Gate and bin unit: every consecutive-miss count and the PG-miss count become 0 (R135). -/
def GateUnit.softReset (u : GateUnit) : GateUnit :=
  { u with
    bins := Vector.ofFn fun g : Fin 12 => { u.bins[g.val] with misses := 0 }
    purgeMisses := 0 }

/-- Fault unit: event flags, sets and captures are cleared; the mask is kept (R173). -/
def FaultUnit.softReset (u : FaultUnit) : FaultUnit :=
  { u with
    events := 0#19, gateBlockedBins := 0#12, nearFullBins := 0#12, fullBins := 0#12,
    unsortedClasses := 0#12, pocketCapture := none, headCapture := none }

/-- Every block takes its soft reset as one act (R173). -/
def State.softReset (s : State) : State :=
  let s1 := (s.mapLive fun r => .live r.softReset).onDial Dial.softReset
  { s1 with
    feed := s1.feed.softReset
    heads := ⟨s1.heads.a.softReset, s1.heads.b.softReset⟩
    forceClass := none
    check := s1.check.restart
    gates := s1.gates.softReset
    lot := { s1.lot with state := .noLot }
    faults := s1.faults.softReset }

/-- The dial states in which the soft reset is accepted (R173). -/
def DialState.acceptsReset : DialState → Bool
  | .idle => true
  | .estopped => true
  | .jammed => true
  | _ => false

/-- RESET_SORT (R173). -/
def replyResetSort (s : State) : Reply :=
  if s.dial.state.acceptsReset then s.softReset.done else s.refuse .refusedState

/-- The row RESET_SORT: the link takes it and `replyResetSort` answers it (R174, R176). -/
def execResetSort (s : State) : Host.Outcome State Fault Refusal :=
  s.command .resetSort replyResetSort

end Sys2Proof.Machine
end

