-- ==== Sys2Proof/Machine/Commands.lean ====
section
/-! DEFINITION. The handing of a command to the block that owns it (R176), and the transaction rows of the SPI
link (R175 to R178). -/

namespace Sys2Proof.Machine

/-- What the block that owns a command returns for it (R176).  A row that is no command has no frame, and so
is never handed to a block. -/
def replyOf (i : Instr) (s : State) : Reply :=
  match i with
  | .setDial minDwell moveTimeout startEnable => replySetDial minDwell moveTimeout startEnable s
  | .setFeed window => replySetFeed window s
  | .start pocketSense => replyStart pocketSense s
  | .stop => replyStop s
  | .hold => replyHold s
  | .release => replyRelease s
  | .readDial => replyReadDial s
  | .lotOpen => replyLotOpen s
  | .lotClose => replyLotClose s
  | .lotAbort => replyLotAbort s
  | .readLot => replyReadLot s
  | .setNominal mantissa exponent => replySetNominal mantissa exponent s
  | .setMeasure mode aperture agreeLimit => replySetMeasure mode aperture agreeLimit s
  | .setRetest doubtMask retestLimit slot1 slot2 lapLimit => replySetRetest doubtMask retestLimit slot1 slot2 lapLimit s
  | .setClass index lo hi guardBand primary overflow catchAll => replySetClass index lo hi guardBand primary overflow catchAll s
  | .clearClasses => replyClearClasses s
  | .setCheck interval certified driftLimit => replySetCheck interval certified driftLimit s
  | .copyActive => replyCopyActive s
  | .readRecipe bank => replyReadRecipe bank s
  | .setHead head timeoutSelect => replySetHead head timeoutSelect s
  | .setHeadCal head range offset gain => replySetHeadCal head range offset gain s
  | .headEnable head => replyHeadEnable head s
  | .headDisable head => replyHeadDisable head s
  | .readHead head => replyReadHead head s
  | .readHeadStats head => replyReadHeadStats head s
  | .forceDoubt head => replyForceDoubt head s
  | .setGate pulseWidth confirmWindow => replySetGate pulseWidth confirmWindow s
  | .setBin bin capacity threshold => replySetBin bin capacity threshold s
  | .stall bin => replyStall bin s
  | .unstall bin => replyUnstall bin s
  | .readBin index => replyReadBin index s
  | .readPocket pocket => replyReadPocket pocket s
  | .voidPocket pocket => replyVoidPocket pocket s
  | .reroutePocket pocket cls => replyReroutePocket pocket cls s
  | .forceClass cls => replyForceClass cls s
  | .requestCheck => replyRequestCheck s
  | .readFaults => replyReadFaults s
  | .ackFaults flags => replyAckFaults flags s
  | .readCapture which => replyReadCapture which s
  | .ackCapture which => replyAckCapture which s
  | .setAttnMask mask => replySetAttnMask mask s
  | .resetSort => replyResetSort s
  | _ => s.refuse .unknownCommand

/-- A frame that has passed the tests is taken, and in the same moment its command is handed to the block that
owns it, which acts on the state as it is then (R176).  The level of POCKET_SENSE that a START's arrival samples
is free (log entry 12).  Every such frame reads as a command: the table of the codes has no other. -/
def State.takeWritten (s : State) (f : Frame) : State :=
  match decodeFrame (Config.pocketSenseAtWrite s.link.writes) f with
  | some i => (replyOf i (s.onLink fun l => { l with writes := l.writes + 1 })).busyWith f
  | none => s.answer .unknownCommand []

/-- The end of a write: fewer than two bytes are a poll, and else the frame is tested; it is taken, or it is
answered (R175, R176). -/
def State.endWrite (s : State) (sdi : List Byte) : State :=
  if sdi.length < 2 then s
  else
    match testFrame sdi with
    | .ok f => s.takeWritten f
    | .error status => s.answer status []

/-- What a transaction of a given state does at its end (the table of R175). -/
def State.finishTransaction (s : State) (phase : LinkPhase) (sdi : List Byte) : State :=
  let out := s.bytesOut phase sdi.length
  let s1 := s.onLink fun l => { l with transaction := .idle, shiftedOut := out }
  match phase with
  | .ready =>
    match s.link.state with
    | .ready => s1.endWrite sdi
    | _ => s1
  | .busy => s1
  | .response => s1.endRead sdi.length

/-- CS_N rises after a transaction that the part did not take: nothing has been shifted out (R174). -/
def State.endUntaken (s : State) : State := s.onLink fun l => { l with transaction := .idle, shiftedOut := [] }

/-- CS_N rises after the whole bytes `sdi` have been shifted in.  The four transaction rows are this one
event; the transaction's state decides which it is (R175).  With CS_N high before it, the row stands for
the whole transaction, its fall included (log entry 6). -/
def State.endTransaction (s : State) (sdi : List Byte) : State :=
  if s.lines.inReset then s.endUntaken
  else
    match s.link.transaction with
    | .idle => s.finishTransaction s.link.state.phase sdi
    | .notTaken => s.endUntaken
    | .taken phase => s.finishTransaction phase sdi

/-! ### The rows -/

/-- WRITE_TRANSACTION (R176). -/
def execWriteTransaction (sdi : List Byte) (s : State) : Host.Outcome State Fault Refusal :=
  .next (s.endTransaction sdi)

/-- POLL (R175). -/
def execPoll (sdi : List Byte) (s : State) : Host.Outcome State Fault Refusal :=
  .next (s.endTransaction sdi)

/-- DISCARD (R177). -/
def execDiscard (sdi : List Byte) (s : State) : Host.Outcome State Fault Refusal :=
  .next (s.endTransaction sdi)

/-- READ_TRANSACTION (R178). -/
def execReadTransaction (sdi : List Byte) (s : State) : Host.Outcome State Fault Refusal :=
  .next (s.endTransaction sdi)

end Sys2Proof.Machine
end

