-- ==== Sys2Proof/Machine/Dispatch.lean ====
section
/-! DEFINITION. One arm per row of spec/opcode_table.json, each a direct call of its meaning. -/

namespace Sys2Proof.Machine

/-- The effect of one row of the opcode table on everything but the queue. -/
def exec (i : Instr) (s : State) : Host.Outcome State Fault Refusal :=
  match i with
  | .powerOnReset estop cans => Sys2Proof.Machine.execPowerOnReset estop cans s
  | .resetNAsserted => Sys2Proof.Machine.execResetNAsserted s
  | .indexDone pocketSense => Sys2Proof.Machine.execIndexDone pocketSense s
  | .minDwellExpiry => Sys2Proof.Machine.execMinDwellExpiry s
  | .moveTimerExpiry => Sys2Proof.Machine.execMoveTimerExpiry s
  | .estopAsserted => Sys2Proof.Machine.execEstopAsserted s
  | .estopReleased => Sys2Proof.Machine.execEstopReleased s
  | .startLineEdge pocketSense => Sys2Proof.Machine.execStartLineEdge pocketSense s
  | .feedPulseEnd => Sys2Proof.Machine.execFeedPulseEnd s
  | .loadSense => Sys2Proof.Machine.execLoadSense s
  | .feedWindowExpiry => Sys2Proof.Machine.execFeedWindowExpiry s
  | .requestSent h => Sys2Proof.Machine.execRequestSent h s
  | .quietTimerExpiry h => Sys2Proof.Machine.execQuietTimerExpiry h s
  | .result h tag code status => Sys2Proof.Machine.execResult h tag code status s
  | .identAnswer h tag maxRange => Sys2Proof.Machine.execIdentAnswer h tag maxRange s
  | .responseTimeout h => Sys2Proof.Machine.execResponseTimeout h s
  | .linkPause h => Sys2Proof.Machine.execLinkPause h s
  | .framingError h => Sys2Proof.Machine.execFramingError h s
  | .unknownType h byte => Sys2Proof.Machine.execUnknownType h byte s
  | .discardQuiet h => Sys2Proof.Machine.execDiscardQuiet h s
  | .pulseTimerExpiry c => Sys2Proof.Machine.execPulseTimerExpiry c s
  | .chutePulse c => Sys2Proof.Machine.execChutePulse c s
  | .windowTimerExpiry c => Sys2Proof.Machine.execWindowTimerExpiry c s
  | .canRemoved g => Sys2Proof.Machine.execCanRemoved g s
  | .canInserted g => Sys2Proof.Machine.execCanInserted g s
  | .writeTransaction sdi => Sys2Proof.Machine.execWriteTransaction sdi s
  | .poll sdi => Sys2Proof.Machine.execPoll sdi s
  | .discard sdi => Sys2Proof.Machine.execDiscard sdi s
  | .readTransaction sdi => Sys2Proof.Machine.execReadTransaction sdi s
  | .setDial minDwell moveTimeout startEnable => Sys2Proof.Machine.execSetDial minDwell moveTimeout startEnable s
  | .setFeed window => Sys2Proof.Machine.execSetFeed window s
  | .start pocketSense => Sys2Proof.Machine.execStart pocketSense s
  | .stop => Sys2Proof.Machine.execStop s
  | .hold => Sys2Proof.Machine.execHold s
  | .release => Sys2Proof.Machine.execRelease s
  | .readDial => Sys2Proof.Machine.execReadDial s
  | .lotOpen => Sys2Proof.Machine.execLotOpen s
  | .lotClose => Sys2Proof.Machine.execLotClose s
  | .lotAbort => Sys2Proof.Machine.execLotAbort s
  | .readLot => Sys2Proof.Machine.execReadLot s
  | .setNominal mantissa exponent => Sys2Proof.Machine.execSetNominal mantissa exponent s
  | .setMeasure mode aperture agreeLimit => Sys2Proof.Machine.execSetMeasure mode aperture agreeLimit s
  | .setRetest doubtMask retestLimit slot1 slot2 lapLimit => Sys2Proof.Machine.execSetRetest doubtMask retestLimit slot1 slot2 lapLimit s
  | .setClass index lo hi guardBand primary overflow catchAll => Sys2Proof.Machine.execSetClass index lo hi guardBand primary overflow catchAll s
  | .clearClasses => Sys2Proof.Machine.execClearClasses s
  | .setCheck interval certified driftLimit => Sys2Proof.Machine.execSetCheck interval certified driftLimit s
  | .copyActive => Sys2Proof.Machine.execCopyActive s
  | .readRecipe bank => Sys2Proof.Machine.execReadRecipe bank s
  | .setHead head timeoutSelect => Sys2Proof.Machine.execSetHead head timeoutSelect s
  | .setHeadCal head range offset gain => Sys2Proof.Machine.execSetHeadCal head range offset gain s
  | .headEnable head => Sys2Proof.Machine.execHeadEnable head s
  | .headDisable head => Sys2Proof.Machine.execHeadDisable head s
  | .readHead head => Sys2Proof.Machine.execReadHead head s
  | .readHeadStats head => Sys2Proof.Machine.execReadHeadStats head s
  | .forceDoubt head => Sys2Proof.Machine.execForceDoubt head s
  | .setGate pulseWidth confirmWindow => Sys2Proof.Machine.execSetGate pulseWidth confirmWindow s
  | .setBin bin capacity threshold => Sys2Proof.Machine.execSetBin bin capacity threshold s
  | .stall bin => Sys2Proof.Machine.execStall bin s
  | .unstall bin => Sys2Proof.Machine.execUnstall bin s
  | .readBin index => Sys2Proof.Machine.execReadBin index s
  | .readPocket pocket => Sys2Proof.Machine.execReadPocket pocket s
  | .voidPocket pocket => Sys2Proof.Machine.execVoidPocket pocket s
  | .reroutePocket pocket cls => Sys2Proof.Machine.execReroutePocket pocket cls s
  | .forceClass cls => Sys2Proof.Machine.execForceClass cls s
  | .requestCheck => Sys2Proof.Machine.execRequestCheck s
  | .readFaults => Sys2Proof.Machine.execReadFaults s
  | .ackFaults flags => Sys2Proof.Machine.execAckFaults flags s
  | .readCapture which => Sys2Proof.Machine.execReadCapture which s
  | .ackCapture which => Sys2Proof.Machine.execAckCapture which s
  | .setAttnMask mask => Sys2Proof.Machine.execSetAttnMask mask s
  | .resetSort => Sys2Proof.Machine.execResetSort s
  | .transactionBegin => Sys2Proof.Machine.execTransactionBegin s
  | .byteReceived h byte => Sys2Proof.Machine.execByteReceived h byte s

end Sys2Proof.Machine
end

