-- ==== Sys2Proof/Machine/Step.lean ====
section
/-! DEFINITION. One step of the part: the command or event at the front of the queue, or idling; and the
host's way of putting a command there. -/

namespace Sys2Proof.Machine

/-- Take the front of the queue and run it with the queue's rest.  On an empty queue the part idles: it
acts on events and commands only (DESIGN CHOICE, log entry 10). -/
def step (s : State) : Host.Outcome State Fault Refusal :=
  match s.pending with
  | [] => .next s
  | i :: rest => exec i { s with pending := rest }

/-- The state with the command that a word spells put at the front of its queue; unchanged where the word
spells none, which is always, since the opcode table gives no bits (log entry 2). -/
def State.withFetchWord (s : State) (nbits w : Nat) : State :=
  match decodeTableWord nbits w with
  | some i => { s with pending := i :: s.pending }
  | none => s

end Sys2Proof.Machine
end

