-- ==== Sys2Proof/Safety.lean ====
section
/-! DEFINITION. What the claims are stated in: a command that the part takes, how a payload is read, and the
conditions that hold of a part at work: its settings and counts within their ranges, its laps and
deviations within theirs, its blocks agreeing on what is in flight, and its lot in balance. -/

namespace Sys2Proof.Machine

/-! ### Reading what the part answers -/

/-- The part takes the command row `i` in READY, with the write that carries its frame, and hands it to its
block in the state `h` (R176; log entry 7). -/
def State.Hands (s : State) (i : Instr) (h : State) : Prop :=
  s.lines.inReset = false ∧ ∃ f, frameOf i = some f ∧ s.takeFrame f = some h

/-- The rise of CS_N: the bytes shifted in by a transaction row, and none for any other row (log entry 6). -/
def riseOf : Instr → Option (List Byte)
  | .writeTransaction sdi => some sdi
  | .poll sdi => some sdi
  | .discard sdi => some sdi
  | .readTransaction sdi => some sdi
  | _ => none

/-- The number a run of bytes spells, most significant byte first (spec 00_scope 0.10). -/
def numBE (bytes : List Byte) : Nat := bytes.foldl (fun n b => 256 * n + b.toNat) 0

/-- The number in the `len` bytes of a payload from byte `at_` on. -/
def fieldAt (payload : List Byte) (at_ len : Nat) : Nat := numBE ((payload.drop at_).take len)

/-- The reading a RESULT gives for a kept measurement (R20, R57, R68), with its marks as judged. -/
def State.readingOf (s : State) (h : Head) (range : Fin 7) (code : BitVec 24) (status : Byte)
    (doubtful forced : Bool) : Reading :=
  let dev := convert s.banks.active.mantissa (s.head h).calibration[range.val] code
  { head := h
    sample :=
      some { code := code, status := status &&& 0x7F#8, deviation := dev.1, saturated := dev.2 }
    epoch := (s.head h).epoch, doubtful := doubtful, forced := forced }

/-- The status byte makes a reading doubtful: OPEN, HEAD_FAULT, or a maskable flag in the ACTIVE mask (R82). -/
def State.statusDoubts (s : State) (status : Byte) : Prop :=
  status.getLsbD 0 = true ∨ status.getLsbD 6 = true ∨
    ∃ k : Nat, 1 ≤ k ∧ k ≤ 5 ∧ status.getLsbD k = true ∧ s.banks.active.doubtMask.getLsbD k = true

/-- A MEASURE request for pocket `p` has been sent by head `h` and its answer is awaited (R47). -/
def State.Awaits (s : State) (h : Head) (p : Fin 24) (range : Fin 7) : Prop :=
  s.lines.inReset = false ∧ (s.head h).receiver = .idle ∧
    (∃ aperture, (s.head h).request = some ⟨.measure p range aperture, true⟩) ∧
    (s.head h).responseTimer.isRunning = true

/-- The record of pocket `p` is MEASURING at `h` and its reading will be kept: no purge mark and no
RECALL_PENDING (R24). -/
def State.Keeps (s : State) (h : Head) (p : Fin 24) (r : LiveRecord) (openPair : Bool) : Prop :=
  s.pocket p = .live r ∧ r.phase = .measuring h openPair none ∧ r.flags.recallPending = false

/-- The head record after a RESULT taken (R55), with the doubtful reading counted when there is one (R57) and
the one-shot used when it was applied (R64). -/
def HeadUnit.afterResult (u : HeadUnit) (doubtful forced : Bool) : HeadUnit :=
  { u with
    state := .ready, request := none, responseTimer := .stopped, noReplies := 0
    forceDoubt := u.forceDoubt && !forced
    counters :=
      { u.counters with
        measurements := min 65535 (u.counters.measurements + 1)
        doubtful := if doubtful then min 65535 (u.counters.doubtful + 1) else u.counters.doubtful } }

/-- The head a retest policy gives (R89). -/
def policyHead (p : Policy) (h : Head) : Head :=
  match p with
  | .same => h
  | .alternate => match h with
    | .a => .b
    | .b => .a

/-- The head a SINGLE mode intends for the next attempt of a record (R92): the mode's own at attempts 0, and
else the policy slot of the last attempt applied to the head of the last reading. -/
def Recipe.intends (rec : Recipe) (r : LiveRecord) (own : Head) : Head :=
  match r.readings.getLast? with
  | none => own
  | some x =>
    if r.attempts = 0 then own
    else if r.attempts = 1 then policyHead rec.slot1 x.head
    else policyHead rec.slot2 x.head

/-- A kept reading at `h` completes an attempt of this reading alone, for which head `intended` was intended
(R84, R92): any reading in a SINGLE mode; in CONFIRM mode one at A with B not in service, or one at B
with no open pair, where the head that took no reading was intended as well. -/
def State.SingleAttempt (s : State) (r : LiveRecord) (h : Head) (openPair : Bool) (intended : Head) : Prop :=
  match s.banks.active.mode with
  | .singleA => intended = s.banks.active.intends r .a
  | .singleB => intended = s.banks.active.intends r .b
  | .confirm =>
    match h with
    | .a => s.inService .b = false ∧ intended = .b
    | .b => (openPair = false ∨ r.readings = []) ∧ intended = .a

/-- The head of the retest after attempt `k` at `h` (R89). -/
def Recipe.retestsAt (rec : Recipe) (k : Nat) (h : Head) : Head :=
  match rec.mode with
  | .confirm => .a
  | _ => if k = 1 then policyHead rec.slot1 h else policyHead rec.slot2 h

/-- The fault unit after a substituted attempt for which head `h` was intended, and as it was when the
intended head took the attempt (R92, R167, R169). -/
def State.faultsAfterSubstitution (s : State) (intended taken : Head) : FaultUnit :=
  if intended = taken then s.faults
  else
    { s.faults with
      events := s.faults.events ||| 0x800#19
      headCapture :=
        takeHeadOffer s.faults.headCapture
          { kind := .substituted, head := intended, epoch := (s.head intended).epoch,
            exposure := s.check.exposure.get intended, drift := none } }

/-! ### Measurements that give no reading -/

/-- A record that carried a purge mark, at the end of its measurement (R24, R25). -/
def LiveRecord.afterMark (r : LiveRecord) (mark : PurgeMark) : LiveRecord :=
  { r with
    flags := { r.flags with recallPending := false }
    phase :=
      match mark with
      | .voided => .purgePending .voided
      | .abort => .purgePending .abort }

/-- A record that carried RECALL_PENDING and no purge mark, at the end of its measurement at `h`: sent back to
`h`, or purged with RECALL when it was RECALLED or `h` is not in service (R145, R146). -/
def LiveRecord.afterRecall (r : LiveRecord) (h : Head) (inService : Bool) : LiveRecord :=
  if r.flags.recalled = false ∧ inService = true then
    { r with
      readings := [], attempts := 0, grading := none, cls := none
      flags := { r.flags with recallPending := false, recalled := true }
      phase := .pending h false }
  else { r with flags := { r.flags with recallPending := false }, phase := .purgePending .recall }

/-- A CHECK record made PENDING is CHECK_DONE at once: it holds a reading, and one from every head in service
(R105). -/
def LiveRecord.checkedByAll (r : LiveRecord) (inService : Head → Bool) : Prop :=
  r.kind = .check ∧ r.readings ≠ [] ∧ ∀ h, inService h = true → ∃ x ∈ r.readings, x.head = h

/-- The record `r'` is what becomes of the MEASURING record `r` when its measurement at `h` is abandoned: as its
purge mark says, or else its RECALL_PENDING, or else PENDING at `next`, or CHECK_DONE (R25, R105, R146). -/
def LiveRecord.AbandonedTo (r : LiveRecord) (h : Head) (mark : Option PurgeMark) (inService : Head → Bool)
    (next : Head) (openPair : Bool) (r' : LiveRecord) : Prop :=
  match mark, r.flags.recallPending with
  | some v, _ => r' = r.afterMark v
  | none, true => r' = r.afterRecall h (inService h)
  | none, false =>
    (r.checkedByAll inService → r' = { r with phase := .checkDone }) ∧
      (¬r.checkedByAll inService → r' = { r with phase := .pending next openPair })

/-- The measurement in flight at `h`, when it ends, applies the recall to a PART record of the current lot
(R146, R148; log entry 16 for the lot). -/
def State.recallEnds (s : State) (h : Head) : Prop :=
  (s.head h).state = .measuring ∧ ∃ p r openPair, (s.head h).measuredPocket = some p ∧
    s.pocket p = .live r ∧ r.phase = .measuring h openPair none ∧ r.flags.recallPending = true ∧
    r.kind = .part ∧ s.isCurrentLot r.lot = true

/-- The lot with one more record recalled, and with one more retest (R87, R148). -/
def Lot.recalledOne (l : Lot) : Lot :=
  { l with counters := { l.counters with recalled := min 4294967295 (l.counters.recalled + 1) } }
def Lot.retestedOne (l : Lot) : Lot :=
  { l with counters := { l.counters with retests := min 4294967295 (l.counters.retests + 1) } }

/-- The head record after its request is abandoned: a request that had been sent starts the quiet timer (R46,
R58, R59; the number the timer holds is the whole response timeout, log entry 1). -/
def HeadUnit.afterAbandon (u : HeadUnit) (sent : Bool) (state : HeadState) : HeadUnit :=
  { u with
    state := state, request := none, responseTimer := .stopped
    quietTimer :=
      match sent, u.responseTimer with
      | true, .running ms => .running ms
      | _, _ => u.quietTimer }

/-- The next NO_REPLY of the head is its third in a row (R56). -/
def HeadUnit.thirdNoReply (u : HeadUnit) : Bool := decide (3 ≤ u.noReplies + 1)

/-- The head record after a NO_REPLY (R56): a reading kept is doubtful and counted (R57, R82), and one kept by
a PART record uses the force-doubt one-shot (R64). -/
def HeadUnit.afterNoReply (u : HeadUnit) (kept usesOneShot : Bool) : HeadUnit :=
  { u with
    state := if u.thirdNoReply then .out .lost else .ready
    noReplies := if u.thirdNoReply then 0 else u.noReplies + 1
    request := none, responseTimer := .stopped
    forceDoubt := u.forceDoubt && !usesOneShot
    counters :=
      { u.counters with
        measurements := min 65535 (u.counters.measurements + 1)
        noReplies := min 65535 (u.counters.noReplies + 1)
        doubtful := if kept then min 65535 (u.counters.doubtful + 1) else u.counters.doubtful } }

/-- The fault unit after a NO_REPLY: at the third HEAD_LOST is raised with its capture (R51, R56). -/
def State.faultsAfterNoReply (s : State) (h : Head) : FaultUnit :=
  if (s.head h).thirdNoReply then
    { s.faults with
      events := s.faults.events ||| 0x400#19
      headCapture :=
        takeHeadOffer s.faults.headCapture
          { kind := .lost, head := h, epoch := (s.head h).epoch, exposure := s.check.exposure.get h,
            drift := none } }
  else s.faults

/-- The records after head `h` has gone OUT, when the check-done test is made (R105). -/
def State.departed (s : State) (h : Head) (reason : OutReason) : State :=
  State.headLeft { s with heads := s.heads.set h { s.head h with state := .out reason } }

/-! ### What the end of a piece of work leads to -/

/-- The dial that issues STEP: MOVING, with the move timer started and the minimum-dwell timer stopped (R4, R6). -/
def Dial.stepped (d : Dial) : Dial :=
  { d with state := .moving, dwellTimer := .stopped, moveTimer := .running d.moveTimeout }

/-- The dial after an event that has left `busy` in the busy set, with a severe flag set or none: in DWELL, with
the minimum dwell elapsed and the set empty, IDLE on stop pending, else HELD on the host hold or a severe
flag, else MOVING with STEP; and else as it was (R3, R4; log entry 5: the test is made at the end of the step, on
the flags that stand then). -/
def Dial.afterWork (d : Dial) (busy : Vector Bool 17) (severe : Bool) : Dial :=
  if d.state = .dwell ∧ d.dwellTimer = .elapsed ∧ busy = Vector.replicate 17 false then
    if d.stopPending = true then
      { d with busy := busy, state := .idle, dwellTimer := .stopped, stopPending := false }
    else if d.hostHold = true ∨ severe = true then { d with busy := busy, state := .held }
    else Dial.stepped { d with busy := busy }
  else { d with busy := busy }

/-- The lot state of `s` after an event that has left the records and the feed in flight of `t`: NO_LOT when that
ends a drain, and else as it was (R162). -/
def State.lotStateAfter (s t : State) : LotState :=
  if s.lot.state = .draining ∧ t.feed.inFlight = none ∧ ∀ p, t.pocket p = .empty ∨ t.pocket p = .unknown then
    .noLot
  else s.lot.state

/-! ### The arrivals of a dwell -/

/-- The arrival at a station with a member in the busy set, as if it alone had one: a station already busy is
not given it (R2). -/
def State.ownArrival (s : State) (st : Station) : State :=
  if s.isBusy st then s
  else
    match st with
    | .load => s.arriveLoad
    | .head h => s.arriveHead h
    | .eject (.gate g) => s.arriveGate g
    | .eject .checkReturn => s.arriveCheckReturn
    | .eject .purge => s.arrivePurge

/-! ### Ejectors and bins -/

/-- A bin is OPEN (R115). -/
structure Bin.Open (b : Bin) : Prop where
  present : b.present = true
  notStalled : b.stalled = false
  notBlocked : b.blocked = false
  notFull : b.fill < b.capacity

/-- The routing rule: gate `g` takes class `c` (R107). -/
def State.takesClass (s : State) (g : Fin 12) (c : ClassDef) : Prop :=
  (s.bin g).Open ∧ (c.primary = g ∨ (c.overflow = some g ∧ ¬(s.bin c.primary).Open))

/-- The part after a firing at `c` for pocket `p`, whose record is then `r` (R119). -/
def State.afterFiring (s : State) (c : Chute) (p : Fin 24) (sweep : Bool) (r : PocketRecord) : State :=
  { s with
    gates :=
      { s.gates with
        ejectors :=
          s.gates.ejectors.set (chuteIndex c).val
            { s.ejector c with
              state := .fired p sweep, driven := true, inUse := some s.gates.settings
              pulseTimer := .running s.gates.settings.pulseWidth
              windowTimer := .running s.gates.settings.confirmWindow } }
    dial := { s.dial with busy := s.dial.busy.set (Station.eject c).index.val true }
    pockets := s.pockets.set p.val r }

/-- The near-full and the full condition of a bin (R129). -/
def Bin.nearFullNow (b : Bin) : Bool := decide (b.threshold ≠ 0 ∧ b.threshold ≤ b.fill)
def Bin.fullNow (b : Bin) : Bool := decide (b.capacity ≤ b.fill)

/-- The fault unit after the tests of R129: BIN_NEAR_FULL and BIN_FULL, each with its bin number, when their
condition begins. -/
def FaultUnit.afterFill (u : FaultUnit) (g : Fin 12) (before now : Bin) : FaultUnit :=
  let near := now.nearFullNow && !before.nearFullNow
  let full := now.fullNow && !before.fullNow
  { u with
    events := u.events ||| (if near then 0x8000#19 else 0#19) ||| (if full then 0x10000#19 else 0#19)
    nearFullBins := u.nearFullBins ||| (if near then 1#12 <<< g.val else 0#12)
    fullBins := u.fullBins ||| (if full then 1#12 <<< g.val else 0#12) }

/-- The exposure counts after a record with this grading is binned (R144). -/
def exposedBy (e : PerHead Nat) (g : Option Grading) : PerHead Nat :=
  match g with
  | some ⟨_, .one .a _⟩ => { e with a := min 65535 (e.a + 1) }
  | some ⟨_, .one .b _⟩ => { e with b := min 65535 (e.b + 1) }
  | some ⟨_, .both _ _⟩ => ⟨min 65535 (e.a + 1), min 65535 (e.b + 1)⟩
  | none => e

/-! ### The validation of the PENDING bank (R157) -/

/-- A defined class of a bank fails an item at its index (R157); items without a class never do. -/
def Recipe.classFails (r : Recipe) (item : Item) (i : Fin 12) : Prop :=
  ∃ c, r.cls i = some c ∧
    match item with
    | .windowOrder => c.hi < c.lo
    | .guardEmpty => c.catchAll = false ∧ c.hi - c.guardBand < c.lo + c.guardBand
    | .catchAllPlace =>
      c.catchAll = true ∧ ∃ j d, r.cls j = some d ∧ ((j < i ∧ d.catchAll = true) ∨ i < j)
    | .gateShared => ∃ j d, r.cls j = some d ∧ j < i ∧ d.primary = c.primary
    | .overflowConflict =>
      ∃ o, c.overflow = some o ∧
        ∃ j d, r.cls j = some d ∧ (d.primary = o ∨ (j < i ∧ d.overflow = some o))
    | _ => False

/-- A head in service has a timeout too short for the PENDING aperture (R157 item 7). -/
def State.headTooShort (s : State) (h : Head) : Prop :=
  s.inService h = true ∧
    2 ^ (2 + (s.head h).timeoutSelect.val) <
      (match s.banks.pending.aperture with
        | 0 => 1
        | 1 => 2
        | 2 => 5
        | 3 => 10) + 2

/-- A head in service reaches the PENDING recipe's range (R157 item 8). -/
def State.headCapable (s : State) (h : Head) : Prop :=
  s.inService h = true ∧ ∃ m, (s.head h).maxRange = some m ∧ s.banks.pending.range.val ≤ m.val

/-- The PENDING bank and the heads fail an item of the validation (R157). -/
def State.itemFails (s : State) (item : Item) : Prop :=
  match item with
  | .noClasses => ∀ i, s.banks.pending.cls i = none
  | .timeoutShort => ∃ h, s.headTooShort h
  | .noCapableHead => ∀ h, ¬s.headCapable h
  | other => ∃ i, s.banks.pending.classFails other i

/-- The subject a failed item gives: the class, the head, or 0xFF (R157; log entry 9 for CATCHALL_PLACE, log
entry 25 for GATE_SHARED with several clashing pairs). -/
def State.itemSubject (s : State) (item : Item) (n : Nat) : Prop :=
  match item with
  | .noClasses => n = 0xFF
  | .noCapableHead => n = 0xFF
  | .timeoutShort => (n = 0 ∧ s.headTooShort .a) ∨ (n = 1 ∧ ¬s.headTooShort .a)
  | .catchAllPlace =>
    ∃ i : Fin 12, n = i.val ∧ ∃ c, s.banks.pending.cls i = some c ∧ c.catchAll = true ∧
      ((∃ j d, j < i ∧ s.banks.pending.cls j = some d ∧ d.catchAll = true ∧
          ∀ k e, k < i → k ≠ j → s.banks.pending.cls k = some e → e.catchAll = false) ∨
        ∀ j d, j ≠ i → s.banks.pending.cls j = some d → d.catchAll = false)
  | other =>
    ∃ i : Fin 12, n = i.val ∧ s.banks.pending.classFails other i ∧
      ∀ j, j < i → ¬s.banks.pending.classFails other j

/-! ### Ranges of the settings -/

/-- A class within the ranges of R97. -/
structure ClassDef.InRange (c : ClassDef) : Prop where
  lo : -999999 ≤ c.lo ∧ c.lo ≤ 999999
  hi : -999999 ≤ c.hi ∧ c.hi ≤ 999999
  guardBand : c.guardBand ≤ 50000

/-- A recipe bank within the ranges of R149. -/
structure Recipe.InRange (r : Recipe) : Prop where
  mantissa : 1000 ≤ r.mantissa ∧ r.mantissa ≤ 9999
  exponent : -3 ≤ r.exponent ∧ r.exponent ≤ 3
  agreeLimit : 1 ≤ r.agreeLimit ∧ r.agreeLimit ≤ 10000
  doubtMask : r.doubtMask &&& ~~~0x3E#8 = 0#8
  retestLimit : r.retestLimit ≤ 2
  lapLimit : 1 ≤ r.lapLimit ∧ r.lapLimit ≤ 3
  classes : ∀ (i : Fin 12) (c : ClassDef), r.cls i = some c → c.InRange
  checkInterval : r.checkInterval = 0 ∨ (20 ≤ r.checkInterval ∧ r.checkInterval ≤ 5000)
  certified : -999999 ≤ r.certified ∧ r.certified ≤ 999999
  driftLimit : 1 ≤ r.driftLimit ∧ r.driftLimit ≤ 10000

/-- A calibration entry within the ranges of R43. -/
structure Calibration.InRange (c : Calibration) : Prop where
  offset : -2000 ≤ c.offset ∧ c.offset ≤ 2000
  gain : -5000 ≤ c.gain ∧ c.gain ≤ 5000

/-- Every setting of the part within its range (R1, R26, R43, R114, R116, R149, R171). -/
structure State.SettingsInRange (s : State) : Prop where
  minDwell : 20 ≤ s.dial.minDwell ∧ s.dial.minDwell ≤ 500
  moveTimeout : 50 ≤ s.dial.moveTimeout ∧ s.dial.moveTimeout ≤ 2000
  feedWindow : 5 ≤ s.feed.window ∧ s.feed.window ≤ 100
  calibration : ∀ (h : Head) (i : Fin 7), ((s.head h).calibration[i.val]).InRange
  capacity : ∀ g : Fin 12, 1 ≤ (s.bin g).capacity ∧ (s.bin g).capacity ≤ 65535
  threshold : ∀ g : Fin 12, (s.bin g).threshold ≤ (s.bin g).capacity
  pulseWidth : 2 ≤ s.gates.settings.pulseWidth ∧ s.gates.settings.pulseWidth ≤ 20
  confirmWindow : 5 ≤ s.gates.settings.confirmWindow ∧ s.gates.settings.confirmWindow ≤ 50
  windowHoldsPulse : s.gates.settings.pulseWidth ≤ s.gates.settings.confirmWindow
  pendingBank : s.banks.pending.InRange
  activeBank : s.banks.active.InRange
  attnMask : s.faults.attnMask &&& ~~~0x7FFC0#19 = 0#19

/-! ### Ranges of the counts -/

/-- Every lot counter within its width (R163). -/
structure LotCounters.InRange (c : LotCounters) : Prop where
  loaded : c.loaded ≤ 4294967295
  checkLoads : c.checkLoads ≤ 65535
  checkReturns : c.checkReturns ≤ 65535
  binned : ∀ g : Fin 12, c.binned[g.val] ≤ 4294967295
  spilled : c.spilled ≤ 4294967295
  purged : ∀ k : Fin 8, c.purged[k.val] ≤ 4294967295
  lost : c.lost ≤ 4294967295
  abandoned : c.abandoned ≤ 4294967295
  recalled : c.recalled ≤ 4294967295
  retests : c.retests ≤ 4294967295
  passedUnsorted : c.passedUnsorted ≤ 4294967295
  swept : c.swept ≤ 4294967295

/-- Every head counter within its width (R66). -/
structure HeadCounters.InRange (c : HeadCounters) : Prop where
  measurements : c.measurements ≤ 65535
  doubtful : c.doubtful ≤ 65535
  noReplies : c.noReplies ≤ 65535
  late : c.late ≤ 65535
  linkErrors : c.linkErrors ≤ 65535

/-- Every count of the part within its range (R26, R43, R66, R114, R116, R136, R154, R163). -/
structure State.CountsInRange (s : State) : Prop where
  feedMisses : s.feed.misses ≤ 7
  checkMisses : s.feed.checkMisses ≤ 2
  noReplies : ∀ h, (s.head h).noReplies ≤ 2
  headCounters : ∀ h, (s.head h).counters.InRange
  fill : ∀ g : Fin 12, (s.bin g).fill ≤ 65535
  binMisses : ∀ g : Fin 12, (s.bin g).misses ≤ 3
  spills : ∀ g : Fin 12, (s.bin g).spills ≤ 65535
  noise : ∀ c : Chute, (s.ejector c).noise ≤ 65535
  purgeMisses : s.gates.purgeMisses ≤ 3
  checkCounter : s.check.counter ≤ 5000
  /-- R137: with check-due clear the check counter has not reached K. -/
  checkComing : s.check.due = false → s.banks.active.checkInterval ≠ 0 →
    s.check.counter < s.banks.active.checkInterval
  exposure : ∀ h, s.check.exposure.get h ≤ 65535
  lastDrift : ∀ h, -1999999 ≤ s.check.lastDrift.get h ∧ s.check.lastDrift.get h ≤ 10999998
  lotNumber : s.lot.number ≤ 65535
  lotNumbered : s.lot.state ≠ .noLot → 1 ≤ s.lot.number
  lotCounters : s.lot.counters.InRange

/-! ### Laps and deviations -/

/-- The record is bound for PG or being ejected there: PURGE_PENDING, or EJECTING with a purge reason. -/
def LiveRecord.isPurged (r : LiveRecord) : Bool := r.phase.purgeReason.isSome

/-- Every live record's lap is at most the ACTIVE lap limit, and below it until the record is purged (R27). -/
def State.LapsBounded (s : State) : Prop :=
  ∀ (p : Fin 24) (r : LiveRecord), s.pocket p = .live r →
    r.lap ≤ s.banks.active.lapLimit ∧ (r.isPurged = false → r.lap < s.banks.active.lapLimit)

/-- A stored deviation lies within the range of R75. -/
def deviationInRange (d : Int) : Prop := -1000000 ≤ d ∧ d ≤ 9999999

/-- Every deviation stored in a record lies within the range of R75. -/
def State.DeviationsInRange (s : State) : Prop :=
  ∀ (p : Fin 24) (r : LiveRecord), s.pocket p = .live r →
    (∀ x ∈ r.readings, ∀ v, x.sample = some v → deviationInRange v.deviation) ∧
      ∀ g, r.grading = some g → deviationInRange g.deviation

/-! ### The blocks agree on what is in flight -/

/-- An ejection is in flight (R116). -/
def EjectorState.isFired : EjectorState → Bool
  | .fired _ _ => true
  | _ => false

/-- The record of the pocket is MEASURING at the head (R19). -/
def State.measuringAt (s : State) (p : Fin 24) (h : Head) : Prop :=
  ∃ r, s.pocket p = .live r ∧ r.phase.measuringHead = some h

/-- The record of the pocket is EJECTING at the station (R19). -/
def State.ejectingAt (s : State) (p : Fin 24) (c : Chute) : Prop :=
  ∃ r, s.pocket p = .live r ∧ r.phase.ejectStation = some c

/-- What a head holds agrees with its state (R44) and with the record it measures (R53). -/
structure State.HeadAgrees (s : State) (h : Head) : Prop where
  /-- R3: a head station is in the busy set exactly while its head is MEASURING. -/
  busy : s.isBusy (.head h) = true ↔ (s.head h).state = .measuring
  /-- R44: MEASURING holds a MEASURE request for the pocket whose record is MEASURING at this head. -/
  measuring : (s.head h).state = .measuring → ∃ p, (s.head h).measuredPocket = some p ∧ s.measuringAt p h
  /-- R44: PROBING holds an IDENT request. -/
  probing : (s.head h).state = .probing → ∃ sent, (s.head h).request = some ⟨.ident, sent⟩
  /-- R44: OUT and READY hold no request. -/
  resting : (s.head h).state ≠ .measuring → (s.head h).state ≠ .probing → (s.head h).request = none
  /-- A record is MEASURING only while its head measures its pocket (R44, R53). -/
  record : ∀ p, s.measuringAt p h → (s.head h).state = .measuring ∧ (s.head h).measuredPocket = some p

/-- The kinds a state admits: a record at CR or on its way there is a CHECK, and one graded is a PART (R19). -/
def LiveRecord.kindFits (r : LiveRecord) : Prop :=
  match r.phase with
  | .checkDone => r.kind = .check
  | .ejecting .checkReturn => r.kind = .check
  | .classified => r.kind = .part ∧ r.cls.isSome = true ∧ r.grading.isSome = true
  | .ejecting (.gate _) => r.kind = .part ∧ r.cls.isSome = true ∧ r.grading.isSome = true
  | _ => True

/-- The blocks agree on the work in flight, on the dial and on the records (R3, R5, R8, R19, R36, R44). -/
structure State.Coherent (s : State) : Prop where
  /-- R26, R29: the feed window runs exactly while a feed is in flight. -/
  window : s.feed.windowTimer.isRunning = s.feed.inFlight.isSome
  /-- R3: LOAD is in the busy set exactly while a feed is in flight. -/
  load : s.isBusy .load = s.feed.inFlight.isSome
  /-- R3, R119: an ejecting station is in the busy set exactly while its ejector is FIRED. -/
  chutes : ∀ c : Chute, s.isBusy (.eject c) = (s.ejector c).state.isFired
  heads : ∀ h, s.HeadAgrees h
  /-- R119: an ejector FIRED for a record holds the pocket of a record EJECTING at its station, and the other
  way round. -/
  ejecting : ∀ (c : Chute) (p : Fin 24), (s.ejector c).state = .fired p false ↔ s.ejectingAt p c
  /-- R116: only PG sweeps. -/
  sweeps : ∀ (c : Chute) (p : Fin 24), (s.ejector c).state = .fired p true → c = .purge
  /-- R5, R8: in HELD, MOVING and JAMMED the busy set is empty. -/
  settled : s.dial.state = .held ∨ s.dial.state = .moving ∨ s.dial.state = .jammed → s.busyEmpty = true
  /-- R9, R11: a measurement is in flight only in DWELL. -/
  still : s.dial.state ≠ .dwell → ∀ h, (s.head h).state ≠ .measuring
  kinds : ∀ (p : Fin 24) (r : LiveRecord), s.pocket p = .live r → r.kindFits

/-! ### The balance of a lot (R164) -/

/-- The retirements of the lot: binned, spilled, purged, lost and abandoned (R164). -/
def LotCounters.retired (c : LotCounters) : Nat :=
  c.binned.toList.sum + c.spilled + c.purged.toList.sum + c.lost + c.abandoned

/-- The live PART records that hold the lot number (R164). -/
def State.liveParts (s : State) : Nat :=
  s.countLive fun r => r.kind == .part && r.lot == s.lot.number

/-- A part feed of the lot number held is in flight. -/
def State.partComing (s : State) : Prop :=
  ∃ f, s.feed.inFlight = some f ∧ f.kind = .part ∧ f.lot = s.lot.number

/-- While a lot is OPEN or DRAINING it balances (R164), and its loaded count has not passed the largest
serial, nor reached it while another load may come (R161, R163). -/
structure State.Balanced (s : State) : Prop where
  balance : s.lot.state ≠ .noLot → s.lot.counters.loaded = s.lot.counters.retired + s.liveParts
  bound : s.lot.state ≠ .noLot → s.lot.counters.loaded ≤ 16777215
  opened : s.lot.state = .open_ → s.lot.counters.loaded < 16777215
  coming : s.lot.state ≠ .noLot → s.partComing → s.lot.counters.loaded < 16777215

end Sys2Proof.Machine
end

