-- ==== Sys2Proof/Certificates/Slice0/Obligations.lean ====
section
/-! DEFINITION. The statements for the provers, in the order of the manual's chapters: the machine as a whole,
the dial, the records and the feed, the heads, the readings, the gates, recipes and lots, faults, the
command link, and the conditions that every step keeps.

In a statement about a command, `s.Hands i u` says that the part takes the command row `i` in `s`, with the
write that carries its frame, and hands it to its block in the state `u` (log entry 7;
`CommandsAreTakenOrLost` says when that is, what `u` is, and that a written frame is handed on in the same
way), and `u.answer status payload` is `u` with that answer in the response slot (R174, R179). -/

open Sys2Proof Sys2Proof.Machine

/-! ## The machine as a whole -/

/-- One step takes the command or event at the front of the queue and runs it with the queue's rest; on an
empty queue the part idles (the model's choice, log entry 10). -/
def Obligations.StepRunsTheFrontCommand : Prop :=
  (∀ (c : Instr) (rest : List Instr) (s : State),
      step { s with pending := c :: rest } = exec c { s with pending := rest }) ∧
    ∀ s : State, step { s with pending := [] } = .next { s with pending := [] }

/-- Every command and event has an effect in every state: it answers a next state, and leaves the queue
alone.  No row stops (NOTES.md, Stops). -/
def Obligations.EveryCommandCompletes : Prop :=
  ∀ (i : Instr) (s : State), ∃ t, exec i s = .next t ∧ t.pending = s.pending

/-- POWER_ON_RESET: every item takes its power-on value, the dial and the ESTOP flag follow the ESTOP line,
each canister-present item its CAN input, the flags that stand are ESTOP and RECORDS_UNKNOWN, and a transaction
in progress is not taken (R1, R26, R35, R43, R102, R114, R116, R136, R149, R154, R166, R174; log entry 3: CS_N is
low exactly when a transaction stands in progress before the release). -/
def Obligations.PowerOnValues : Prop :=
  ∀ (s : State) (estop : Bool) (cans : BitVec 12), ∃ t,
    exec (.powerOnReset estop cans) s = .next t ∧
    t.dial =
      { state := if estop then .estopped else .idle, position := 0, busy := Vector.replicate 17 false,
        dwellTimer := .stopped, moveTimer := .stopped, hostHold := false, stopPending := false,
        minDwell := 60, moveTimeout := 300, startEnable := false } ∧
    (∀ p, t.pocket p = .unknown) ∧
    t.feed =
      { window := 40, inFlight := none, windowTimer := .stopped, misses := 0, checkMisses := 0,
        feedOut := false, checkFeedOut := false } ∧
    (∀ h, t.head h =
      { state := .out .reset, maxRange := none, timeoutSelect := 1,
        calibration := Vector.replicate 7 ⟨0, 0⟩, epoch := 0#16, noReplies := 0, forceDoubt := false,
        request := none, responseTimer := .stopped, quietTimer := .stopped,
        counters := ⟨0, 0, 0, 0, 0⟩, receiver := .idle }) ∧
    t.forceClass = none ∧
    t.check = { counter := 0, due := false, exposure := ⟨0, 0⟩, lastDrift := ⟨0, 0⟩ } ∧
    (∀ g : Fin 12, t.bin g =
      { capacity := 1000, threshold := 900, fill := 0, present := cans.getLsbD g.val, stalled := false,
        blocked := false, misses := 0, swaps := 0#16, removedLatch := false, insertedLatch := false,
        spills := 0 }) ∧
    (∀ c, t.ejector c =
      { state := .idle, driven := false, pulseTimer := .stopped, windowTimer := .stopped, inUse := none,
        noise := 0 }) ∧
    t.gates.purgeMisses = 0 ∧ t.gates.settings = ⟨4, 15⟩ ∧
    t.banks.active =
      { mantissa := 1000, exponent := 0, mode := .singleA, aperture := 1, agreeLimit := 20,
        doubtMask := 0x16#8, retestLimit := 1, slot1 := .alternate, slot2 := .same, lapLimit := 2,
        classes := Vector.replicate 12 none, checkInterval := 0, certified := 0, driftLimit := 50 } ∧
    t.banks.pending = t.banks.active ∧
    t.lot.state = .noLot ∧ t.lot.number = 0 ∧
    t.lot.counters =
      { loaded := 0, checkLoads := 0, checkReturns := 0, binned := Vector.replicate 12 0, spilled := 0,
        purged := Vector.replicate 8 0, lost := 0, abandoned := 0, recalled := 0, retests := 0,
        passedUnsorted := 0, swept := 0 } ∧
    t.faults =
      { events := 0#19, gateBlockedBins := 0#12, nearFullBins := 0#12, fullBins := 0#12,
        unsortedClasses := 0#12, pocketCapture := none, headCapture := none, attnMask := 0x7FFC0#19 } ∧
    t.flags = (if estop then 0x40020#19 else 0x40000#19) ∧
    t.link.state = .ready ∧ t.link.shiftedOut = [] ∧
    t.link.transaction = (if s.link.transaction = .idle then .idle else .notTaken) ∧
    t.lines = { inReset := false, estop := estop }

/-- RESET_N asserted: every output is released, HOLD, ATTN, STEP and RDY with them, SDO is in high impedance
with nothing shifted out, and a transaction in progress will not be taken (R120, R174, R180).  That no other
event or command has an effect until the release is the model's reading (log entry 4). -/
def Obligations.ResetHoldsThePart : Prop :=
  (∀ s : State, exec .resetNAsserted s = .next
      { s with
        feed := { s.feed with feedOut := false, checkFeedOut := false }
        gates := { s.gates with
          ejectors := Vector.ofFn fun i : Fin 14 =>
            { s.gates.ejectors[i.val] with driven := false, pulseTimer := .stopped } }
        link := { s.link with
          transaction := if s.link.transaction = .idle then .idle else .notTaken
          shiftedOut := [] }
        lines := { s.lines with inReset := true } }) ∧
    (∀ s : State, s.lines.inReset = true →
      s.holdLine = false ∧ s.attnLine = false ∧ s.stepLine = false ∧ s.rdyLine = false ∧
      s.sdoDriven = false) ∧
    ∀ (i : Instr) (s : State), s.lines.inReset = true →
      (∀ e c, i ≠ .powerOnReset e c) → i ≠ .resetNAsserted → i ≠ .transactionBegin → riseOf i = none →
      exec i s = .next s

/-- The three condition flags are what their conditions are (R18, R95, R166), and HOLD and ATTN follow the
flags, the host hold and the attention mask (R171). -/
def Obligations.ConditionFlagsAndLines : Prop :=
  ∀ s : State,
    (s.flagSet .recordsUnknown = true ↔ ∃ p, s.pocket p = .unknown) ∧
    (s.flagSet .estop = true ↔ s.lines.estop = true) ∧
    (s.flagSet .noHead = true ↔ s.lot.state = .open_ ∧ ∀ h, s.inService h = false) ∧
    (∀ f : Flag, f ≠ .recordsUnknown → f ≠ .estop → f ≠ .noHead →
      s.flagSet f = s.faults.events.getLsbD f.number) ∧
    (s.anySevere = true ↔ ∃ f : Flag, f.number ≤ 5 ∧ s.flagSet f = true) ∧
    (s.lines.inReset = false → (s.holdLine = true ↔ s.anySevere = true ∨ s.dial.hostHold = true)) ∧
    (s.lines.inReset = false →
      (s.attnLine = true ↔ s.anySevere = true ∨
        ∃ f : Flag, 6 ≤ f.number ∧ s.flagSet f = true ∧ s.faults.attnMask.getLsbD f.number = true))

/-! ## The dial and the index cycle -/

/-- MIN_DWELL_EXPIRY in DWELL: with the busy set empty the dwell ends, IDLE on stop pending, else HELD on the
host hold or a severe flag, else with STEP; with work in flight the dwell goes on (R4, R6).
MOVE_TIMER_EXPIRY: in MOVING the dial is JAMMED and DIAL_JAM is raised (R7); at another time nothing (log
entry 13). -/
def Obligations.DialTimers : Prop :=
  (∀ (s : State) (ms : Nat), s.lines.inReset = false → s.dial.state = .dwell →
    s.dial.dwellTimer = .running ms →
    exec .minDwellExpiry s = .next
      (if s.busyEmpty then
        if s.dial.stopPending then
          { s with dial :=
              { s.dial with state := .idle, dwellTimer := .stopped, stopPending := false } }
        else if s.dial.hostHold || s.anySevere then
          { s with dial := { s.dial with state := .held, dwellTimer := .elapsed } }
        else
          { s with dial :=
              { s.dial with state := .moving, dwellTimer := .stopped,
                            moveTimer := .running s.dial.moveTimeout } }
      else { s with dial := { s.dial with dwellTimer := .elapsed } })) ∧
  ∀ s : State, s.lines.inReset = false →
    exec .moveTimerExpiry s = .next
      (if s.dial.state = .moving then
        { s with dial := { s.dial with state := .jammed, moveTimer := .stopped }
                 faults := { s.faults with events := s.faults.events ||| 1#19 } }
      else s)

/-- The end-of-dwell test (R4), the test in HELD (R5) and the end of a drain (R162), which other events'
effects lead to, at the end of their step (log entry 5). -/
def Obligations.EndOfDwellHeldAndDrainTests : Prop :=
  (∀ s : State, s.dial.state = .dwell → s.dial.dwellTimer = .elapsed → s.busyEmpty = true →
    s.endDwellTest =
      if s.dial.stopPending then
        { s with dial := { s.dial with state := .idle, dwellTimer := .stopped, stopPending := false } }
      else if s.dial.hostHold || s.anySevere then { s with dial := { s.dial with state := .held } }
      else
        { s with dial :=
            { s.dial with state := .moving, dwellTimer := .stopped,
                          moveTimer := .running s.dial.moveTimeout } }) ∧
  (∀ s : State, ¬(s.dial.state = .dwell ∧ s.dial.dwellTimer = .elapsed ∧ s.busyEmpty = true) →
    s.endDwellTest = s) ∧
  (∀ s before : State,
    s.reportSevere before =
      if before.anySevere = true ∧ s.anySevere = false ∧ s.dial.state = .held ∧ s.dial.hostHold = false then
        { s with dial :=
            { s.dial with state := .moving, dwellTimer := .stopped,
                          moveTimer := .running s.dial.moveTimeout } }
      else s) ∧
  (∀ s : State, s.lot.state = .draining → s.feed.inFlight = none →
    (∀ p, s.pocket p = .empty ∨ s.pocket p = .unknown) →
    s.drainTest = { s with lot := { s.lot with state := .noLot } }) ∧
  ∀ s : State, ¬(s.lot.state = .draining ∧ s.feed.inFlight = none ∧
      ∀ p, s.pocket p = .empty ∨ s.pocket p = .unknown) →
    s.drainTest = s

/-- INDEX_DONE: in MOVING and in JAMMED it advances D and begins a dwell with arrivals (R6, R7); in any other
state it is spurious, and with no measurement in flight it advances D, raises SPURIOUS_INDEX and, in a
DWELL that is over, ends it IDLE or HELD (R11). -/
def Obligations.IndexDoneByDialState : Prop :=
  (∀ (s : State) (sensed : Bool), s.lines.inReset = false →
    (s.dial.state = .moving ∨ s.dial.state = .jammed) →
    exec (.indexDone sensed) s = .next
      (State.arrivals
        { s with dial :=
            { s.dial with state := .dwell, position := s.dial.position + 1, moveTimer := .stopped,
                          dwellTimer := .running s.dial.minDwell } } sensed)) ∧
  ∀ (s : State) (sensed : Bool), s.lines.inReset = false → s.dial.state ≠ .moving →
    s.dial.state ≠ .jammed → (∀ h, (s.head h).state ≠ .measuring) →
    exec (.indexDone sensed) s = .next
      { s with
        faults := { s.faults with events := s.faults.events ||| 2#19 }
        dial :=
          if s.dial.state = .dwell ∧ s.dial.dwellTimer = .elapsed ∧ s.busyEmpty = true then
            if s.dial.stopPending then
              { s.dial with position := s.dial.position + 1, state := .idle, dwellTimer := .stopped,
                            stopPending := false }
            else { s.dial with position := s.dial.position + 1, state := .held }
          else { s.dial with position := s.dial.position + 1 } }

/-- The arrivals of a dwell: a station in the busy set is not given its arrival; every other station acts on
the pocket at its own offset and on its own block, as if it alone had an arrival; a pocket at an offset
with no station is left alone (R2; log entry 20 for the order of the arrivals).  The fault unit and the lot
take what CR and EC do to them, and no other station's arrival changes them. -/
def Obligations.StationsActOnTheirOwnPockets : Prop :=
  ∀ (s : State) (sensed : Bool), ∃ t ec cr : State,
    t = s.arrivals sensed ∧ ec = s.arriveEmptyCheck sensed ∧ cr = s.ownArrival (.eject .checkReturn) ∧
    (∀ q, s.offsetOf q ∈ [1, 2, 4, 6, 7, 23] → t.pocket q = s.pocket q) ∧
    (∀ q, s.offsetOf q = 0 → t.pocket q = (s.ownArrival .load).pocket q) ∧
    (∀ h q, s.offsetOf q = (match h with | .a => 3 | .b => 5) →
      t.pocket q = (s.ownArrival (.head h)).pocket q) ∧
    (∀ (g : Fin 12) (q : Fin 24), s.offsetOf q = 8 + g.val →
      t.pocket q = (s.ownArrival (.eject (.gate g))).pocket q) ∧
    (∀ q, s.offsetOf q = 20 → t.pocket q = cr.pocket q) ∧
    (∀ q, s.offsetOf q = 21 → t.pocket q = (s.ownArrival (.eject .purge)).pocket q) ∧
    (∀ q, s.offsetOf q = 22 → t.pocket q = ec.pocket q) ∧
    t.feed = (s.ownArrival .load).feed ∧
    (∀ h, t.head h = (s.ownArrival (.head h)).head h) ∧
    (∀ c, t.ejector c = (s.ownArrival (.eject c)).ejector c) ∧
    (∀ g, t.bin g = s.bin g) ∧ t.gates.purgeMisses = s.gates.purgeMisses ∧
    t.gates.settings = s.gates.settings ∧
    (∀ st, t.isBusy st = (s.ownArrival st).isBusy st) ∧ t.dial = { s.dial with busy := t.dial.busy } ∧
    t.faults =
      { s.faults with
        events := cr.faults.events ||| ec.faults.events
        unsortedClasses := cr.faults.unsortedClasses
        pocketCapture := ec.faults.pocketCapture } ∧
    t.lot =
      { s.lot with
        state := ec.lot.state
        counters :=
          { s.lot.counters with
            passedUnsorted := cr.lot.counters.passedUnsorted, lost := ec.lot.counters.lost } } ∧
    t.banks = s.banks ∧ t.check = s.check ∧ t.link = s.link ∧ t.forceClass = s.forceClass ∧
    t.lines = s.lines ∧ t.pending = s.pending

/-- ESTOP_ASSERTED with no measurement in flight: the timers stop, stop pending clears, the outputs are
released, the records are given up if the dial was MOVING or JAMMED, and the dial is ESTOPPED; in ESTOPPED
only the flag follows the line (R9).  ESTOP_RELEASED: the flag clears and ESTOPPED becomes IDLE (R10). -/
def Obligations.EmergencyStopAndRelease : Prop :=
  (∀ s : State, s.lines.inReset = false → s.dial.state ≠ .estopped →
    (∀ h, (s.head h).state ≠ .measuring) →
    ∃ u v : State,
      u = { s with
            lines := { s.lines with estop := true }
            feed := { s.feed with feedOut := false, checkFeedOut := false }
            gates := { s.gates with
              ejectors := Vector.ofFn fun i : Fin 14 =>
                { s.gates.ejectors[i.val] with driven := false, pulseTimer := .stopped } }
            dial := { s.dial with dwellTimer := .stopped, moveTimer := .stopped, stopPending := false } } ∧
      v = (if s.dial.state = .moving ∨ s.dial.state = .jammed then u.giveUpRecords else u) ∧
      exec .estopAsserted s = .next { v with dial := { v.dial with state := .estopped } }) ∧
  (∀ s : State, s.lines.inReset = false → s.dial.state = .estopped →
    exec .estopAsserted s = .next { s with lines := { s.lines with estop := true } } ∧
    exec .estopReleased s = .next
      { s with lines := { s.lines with estop := false }, dial := { s.dial with state := .idle } }) ∧
  ∀ s : State, s.lines.inReset = false → s.dial.state ≠ .estopped →
    exec .estopReleased s = .next (State.reportSevere { s with lines := { s.lines with estop := false } } s)

/-- ESTOP_ASSERTED and a spurious INDEX_DONE in DWELL with measurements in flight at one head or at both: each
such head is READY, a request already sent starts the quiet timer, the station leaves the busy set, and its
record, PART or CHECK, is PURGE_PENDING by its purge mark, or has its RECALL_PENDING applied and counted, or
is PENDING at the same head or CHECK_DONE (R9, R11, R25, R46, R58, R105, R146, R148).  That the quiet timer
holds the whole response timeout, and not what remained of it, is log entry 1; that only PART records of the
current lot are counted is log entry 16.  The stop also stops the dial's timers, clears stop pending and
releases the feed and gate outputs (R9); the spurious index leaves the timers, stop pending and the outputs, but
where it ends the dwell (R4, R11). -/
def Obligations.StopAbandonsTheMeasurement : Prop :=
  ∀ (s : State) (i : Instr), s.lines.inReset = false → s.dial.state = .dwell →
    (∀ h, (s.head h).state = .measuring →
      ∃ p, (s.head h).measuredPocket = some p ∧ s.measuringAt p h) →
    (i = .estopAsserted ∨ ∃ sensed, i = .indexDone sensed) →
    ∃ t, exec i s = .next t ∧
      (∀ h p range aperture sent r openPair mark, (s.head h).state = .measuring →
        (s.head h).request = some ⟨.measure p range aperture, sent⟩ → s.pocket p = .live r →
        r.phase = .measuring h openPair mark →
        t.head h = (s.head h).afterAbandon sent .ready ∧ t.isBusy (.head h) = false ∧
        ∃ r', t.pocket p = .live r' ∧ r.AbandonedTo h mark s.inService h openPair r') ∧
      (∀ h, (s.head h).state ≠ .measuring →
        t.head h = s.head h ∧ t.isBusy (.head h) = s.isBusy (.head h)) ∧
      (∀ q, (∀ h, (s.head h).state = .measuring → (s.head h).measuredPocket ≠ some q) →
        t.pocket q = s.pocket q) ∧
      (∀ st, (∀ h, st ≠ .head h) → t.isBusy st = s.isBusy st) ∧
      ((∀ h, ¬s.recallEnds h) → t.lot = s.lot) ∧
      (∀ h, s.recallEnds h → ¬s.recallEnds h.other → t.lot = s.lot.recalledOne) ∧
      ((∀ h, s.recallEnds h) → t.lot = s.lot.recalledOne.recalledOne) ∧
      t.banks = s.banks ∧ t.check = s.check ∧ t.link = s.link ∧ t.forceClass = s.forceClass ∧
      t.pending = s.pending ∧
      (i = .estopAsserted →
        t.faults = s.faults ∧ t.lines = { s.lines with estop := true } ∧
        t.feed = { s.feed with feedOut := false, checkFeedOut := false } ∧
        t.gates =
          { s.gates with
            ejectors := Vector.ofFn fun k : Fin 14 =>
              { s.gates.ejectors[k.val] with driven := false, pulseTimer := .stopped } } ∧
        t.dial =
          { s.dial with
            state := .estopped, busy := t.dial.busy, dwellTimer := .stopped, moveTimer := .stopped
            stopPending := false }) ∧
      (i ≠ .estopAsserted →
        t.faults = { s.faults with events := s.faults.events ||| 2#19 } ∧ t.lines = s.lines ∧
        t.feed = s.feed ∧ t.gates = s.gates ∧
        t.dial =
          if s.dial.dwellTimer = .elapsed ∧ t.busyEmpty = true then
            if s.dial.stopPending then
              { s.dial with
                state := .idle, position := s.dial.position + 1, busy := t.dial.busy
                dwellTimer := .stopped, stopPending := false }
            else { s.dial with state := .held, position := s.dial.position + 1, busy := t.dial.busy }
          else { s.dial with position := s.dial.position + 1, busy := t.dial.busy })

/-- The records given up: every live record becomes UNKNOWN, each PART record of the current lot is counted
once as abandoned, EMPTY and UNKNOWN records and D are left as they are (R8); a drain may then end (R162).
The check-done test made when a head leaves service: a PENDING CHECK record with at least one reading, and
one from every head in service, becomes CHECK_DONE; every other record stays as it is (R105). -/
def Obligations.GivenUpAndCheckDone : Prop :=
  (∀ s : State,
    (∀ p, s.giveUpRecords.pocket p = if s.pocket p = .empty then .empty else .unknown) ∧
    s.giveUpRecords =
      { s with
        pockets := s.giveUpRecords.pockets
        lot :=
          { s.lot with
            state :=
              if s.lot.state = .draining ∧ s.feed.inFlight = none then .noLot else s.lot.state
            counters :=
              { s.lot.counters with
                abandoned := min 4294967295 (s.lot.counters.abandoned + s.countLive s.isCurrentPart) } } }) ∧
  ∀ (s : State) (p : Fin 24),
    (∀ r, s.pocket p = .live r →
      ((r.kind = .check ∧ (∃ h o, r.phase = .pending h o) ∧ r.readings ≠ [] ∧
          ∀ h, s.inService h = true → ∃ x ∈ r.readings, x.head = h) →
        s.headLeft.pocket p = .live { r with phase := .checkDone }) ∧
      (¬(r.kind = .check ∧ (∃ h o, r.phase = .pending h o) ∧ r.readings ≠ [] ∧
          ∀ h, s.inService h = true → ∃ x ∈ r.readings, x.head = h) →
        s.headLeft.pocket p = .live r)) ∧
    ((∀ r, s.pocket p ≠ .live r) → s.headLeft.pocket p = s.pocket p) ∧
    s.headLeft = { s with pockets := s.headLeft.pockets }

/-- START is accepted in IDLE and begins a dwell with arrivals at the D that stands, whatever else stands; it
is refused in every other state.  A START edge does the same in IDLE with the enable on, and is otherwise
ignored (R12, R2; log entry 12 for the level of POCKET_SENSE). -/
def Obligations.StartBeginsADwell : Prop :=
  (∀ (s u : State) (sensed : Bool), s.Hands (.start sensed) u →
    exec (.start sensed) s = .next
      (if u.dial.state = .idle then
        (State.arrivals
          { u with dial := { u.dial with state := .dwell, dwellTimer := .running u.dial.minDwell } }
          sensed).answer .ok []
      else u.answer .refusedState [])) ∧
  ∀ (s : State) (sensed : Bool), s.lines.inReset = false →
    exec (.startLineEdge sensed) s = .next
      (if s.dial.state = .idle ∧ s.dial.startEnable = true then
        State.arrivals
          { s with dial := { s.dial with state := .dwell, dwellTimer := .running s.dial.minDwell } } sensed
      else s)

/-- STOP is answered OK in every dial state, with the effect of its table (R13, R8).  HOLD sets the host hold
and RELEASE clears it, in every dial state, answered OK; RELEASE in HELD with no severe flag set issues
STEP (R14, R5, R6). -/
def Obligations.StopHoldRelease : Prop :=
  (∀ s u : State, s.Hands .stop u →
    ((u.dial.state = .dwell ∨ u.dial.state = .moving) →
      exec .stop s = .next
        (State.answer { u with dial := { u.dial with stopPending := true } } .ok [])) ∧
    (u.dial.state = .held →
      exec .stop s = .next
        (State.answer { u with dial := { u.dial with state := .idle, dwellTimer := .stopped } } .ok [])) ∧
    (u.dial.state = .jammed →
      exec .stop s = .next
        (State.answer
          { u.giveUpRecords with
            dial := { u.dial with state := .idle, dwellTimer := .stopped, stopPending := false } } .ok [])) ∧
    ((u.dial.state = .idle ∨ u.dial.state = .estopped) → exec .stop s = .next (u.answer .ok []))) ∧
  (∀ s u : State, s.Hands .hold u →
    exec .hold s = .next
      (State.answer { u with dial := { u.dial with hostHold := true } } .ok [])) ∧
  ∀ s u : State, s.Hands .release u →
    exec .release s = .next
      (State.answer
        { u with dial :=
            if u.dial.state = .held ∧ u.anySevere = false then
              { u.dial with hostHold := false, state := .moving, dwellTimer := .stopped,
                            moveTimer := .running u.dial.moveTimeout }
            else { u.dial with hostHold := false } } .ok [])

/-- SET_DIAL and SET_FEED: accepted in IDLE, with each field brought to the nearer end of its range and the
answer CLAMPED when one was, and refused with REFUSED_STATE in every other dial state (R15, R32). -/
def Obligations.DialAndFeedSettings : Prop :=
  (∀ (s u : State) (d m : BitVec 16) (e : Byte), s.Hands (.setDial d m e) u →
    exec (.setDial d m e) s = .next
      (if u.dial.state = .idle then
        State.answer
          { u with dial :=
              { u.dial with
                minDwell := if d.toNat < 20 then 20 else if 500 < d.toNat then 500 else d.toNat
                moveTimeout := if m.toNat < 50 then 50 else if 2000 < m.toNat then 2000 else m.toNat
                startEnable := decide (e.toNat ≠ 0) } }
          (if 20 ≤ d.toNat ∧ d.toNat ≤ 500 ∧ 50 ≤ m.toNat ∧ m.toNat ≤ 2000 ∧ e.toNat ≤ 1 then .ok
            else .clamped) []
      else u.answer .refusedState [])) ∧
  ∀ (s u : State) (w : Byte), s.Hands (.setFeed w) u →
    exec (.setFeed w) s = .next
      (if u.dial.state = .idle then
        State.answer
          { u with feed :=
              { u.feed with window := if w.toNat < 5 then 5 else if 100 < w.toNat then 100 else w.toNat } }
          (if 5 ≤ w.toNat ∧ w.toNat ≤ 100 then .ok else .clamped) []
      else u.answer .refusedState [])

/-- READ_DIAL is answered OK in every dial state, changes no state, and returns ten bytes in the order of
R16. -/
def Obligations.ReadDial : Prop :=
  ∀ s u : State, s.Hands .readDial u → ∃ b,
    exec .readDial s = .next (u.answer .ok b) ∧ b.length = 10 ∧
    fieldAt b 0 1 =
      (match u.dial.state with
        | .idle => 0 | .dwell => 1 | .held => 2 | .moving => 3 | .jammed => 4 | .estopped => 5) ∧
    fieldAt b 1 1 = u.dial.position.val ∧
    (fieldAt b 2 1).testBit 0 = u.dial.hostHold ∧
    (fieldAt b 2 1).testBit 1 = u.dial.stopPending ∧
    (fieldAt b 2 1).testBit 2 = u.anySevere ∧
    (fieldAt b 2 1).testBit 3 = decide (u.dial.dwellTimer = .elapsed) ∧
    (fieldAt b 2 1).testBit 4 = u.dial.startEnable ∧
    (∀ k, 5 ≤ k → (fieldAt b 2 1).testBit k = false) ∧
    (∀ st : Station, (fieldAt b 3 3).testBit st.index.val = u.isBusy st) ∧
    (∀ k, 17 ≤ k → (fieldAt b 3 3).testBit k = false) ∧
    fieldAt b 6 2 = u.dial.minDwell % 65536 ∧ fieldAt b 8 2 = u.dial.moveTimeout % 65536

/-! ## Pocket records and the feed -/

/-- The arrival at LOAD: an EMPTY pocket is fed with the lot OPEN and NO_HEAD clear, a check feed when
check-due is set; a PENDING, CLASSIFIED or CHECK_DONE record counts a lap and is purged with LAP_LIMIT at
the ACTIVE limit; any other record is let pass (R27, R28). -/
def Obligations.LoadArrival : Prop :=
  (∀ s : State, s.pocket s.dial.position = .empty → s.lot.state = .open_ → s.flagSet .noHead = false →
    s.arriveLoad =
      { s with
        feed :=
          { s.feed with
            feedOut := s.feed.feedOut || !s.check.due
            checkFeedOut := s.feed.checkFeedOut || s.check.due
            windowTimer := .running s.feed.window
            inFlight :=
              some
                { target := s.dial.position, kind := if s.check.due then .check else .part,
                  lot := s.lot.number, aborted := false, reset := false } }
        dial := { s.dial with busy := s.dial.busy.set 0 true } }) ∧
  (∀ s : State, s.pocket s.dial.position = .empty →
    (s.lot.state ≠ .open_ ∨ s.flagSet .noHead = true) → s.arriveLoad = s) ∧
  (∀ s : State, s.pocket s.dial.position = .unknown → s.arriveLoad = s) ∧
  (∀ (s : State) (r : LiveRecord), s.pocket s.dial.position = .live r →
    ((∃ h o, r.phase = .pending h o) ∨ r.phase = .classified ∨ r.phase = .checkDone) →
    s.arriveLoad =
      { s with
        pockets :=
          (s.pockets.set s.dial.position.val
            (.live
              { r with
                lap := r.lap + 1
                phase :=
                  if r.lap + 1 = s.banks.active.lapLimit then .purgePending .lapLimit else r.phase })) }) ∧
  ∀ (s : State) (r : LiveRecord), s.pocket s.dial.position = .live r →
    ¬((∃ h o, r.phase = .pending h o) ∨ r.phase = .classified ∨ r.phase = .checkDone) → s.arriveLoad = s

/-- LOAD_SENSE while a feed window runs: the feed ends and LOAD leaves the busy set; an EMPTY target takes
the record of R29 with its serial, the load counters of the current lot move, and the check unit is told
(R137, R139); the largest serial takes the lot from OPEN to DRAINING (R161).  A target that is no longer
EMPTY is not loaded, and the drain may end (R162).  The dwell may end with the busy set empty (R3, R4), and a
NO_HEAD that the end of OPEN clears leaves HELD (R5).
  With no feed window running LOAD_SENSE is ignored (R29). -/
def Obligations.LoadSense : Prop :=
  (∀ (s : State) (f : Feed) (ms : Nat), s.lines.inReset = false → s.feed.inFlight = some f →
    s.feed.windowTimer = .running ms →
    ∃ t, exec .loadSense s = .next t ∧
      t.feed =
        { s.feed with
          inFlight := none, windowTimer := .stopped
          misses := if f.kind = .part then 0 else s.feed.misses
          checkMisses := if f.kind = .check then 0 else s.feed.checkMisses } ∧
      t.isBusy .load = false ∧ (∀ st, st ≠ .load → t.isBusy st = s.isBusy st) ∧
      (∀ q, q ≠ f.target → t.pocket q = s.pocket q) ∧
      t.heads = s.heads ∧ t.gates = s.gates ∧ t.banks = s.banks ∧ t.faults = s.faults ∧
      t.link = s.link ∧ t.lines = s.lines ∧ t.forceClass = s.forceClass ∧
      t.lot.number = s.lot.number ∧
      t.dial =
        (if s.dial.state = .held ∧ s.dial.hostHold = false ∧ s.anySevere = true ∧ t.anySevere = false then
          Dial.stepped { s.dial with busy := t.dial.busy }
        else s.dial.afterWork t.dial.busy t.anySevere) ∧
      (s.pocket f.target ≠ .empty →
        t.pocket f.target = s.pocket f.target ∧ t.check = s.check ∧
        t.lot = { s.lot with state := s.lotStateAfter t }) ∧
      (s.pocket f.target = .empty →
        t.pocket f.target =
          .live
            { kind := f.kind, lot := f.lot
              serial :=
                if s.isCurrentLot f.lot then
                  match f.kind with
                  | .part => min 4294967295 (s.lot.counters.loaded + 1)
                  | .check => min 65535 (s.lot.counters.checkLoads + 1)
                else 0
              lap := 0, attempts := 0, readings := [], flags := ⟨false, false, false, false, false⟩
              phase :=
                if f.aborted then .purgePending .abort
                else if f.reset then .purgePending .reset
                else
                  .pending
                    (match f.kind, s.banks.active.mode with
                      | .check, _ => if s.inService .a then .a else .b
                      | .part, .singleB => if !s.inService .b && s.inService .a then .a else .b
                      | .part, _ => if !s.inService .a && s.inService .b then .b else .a)
                    false
              grading := none, cls := none } ∧
        t.lot.counters =
          (if s.isCurrentLot f.lot then
            match f.kind with
            | .part => { s.lot.counters with loaded := min 4294967295 (s.lot.counters.loaded + 1) }
            | .check => { s.lot.counters with checkLoads := min 65535 (s.lot.counters.checkLoads + 1) }
          else s.lot.counters) ∧
        t.lot.state =
          (if s.lot.state = .open_ ∧ s.isCurrentLot f.lot = true ∧
              ((f.kind = .part ∧ s.lot.counters.loaded + 1 = 16777215) ∨
                (f.kind = .check ∧ 65535 ≤ s.lot.counters.checkLoads + 1)) then .draining
          else s.lot.state) ∧
        t.check =
          (match f.kind with
            | .part =>
              if s.isCurrentLot f.lot = true ∧ s.banks.active.checkInterval ≠ 0 ∧ s.check.due = false then
                { s.check with
                  counter := s.check.counter + 1
                  due := decide (s.check.counter + 1 = s.banks.active.checkInterval) }
              else s.check
            | .check =>
              if s.lot.number = f.lot then { s.check with counter := 0, due := false } else s.check))) ∧
  ∀ s : State, s.lines.inReset = false → (s.feed.inFlight = none ∨ s.feed.windowTimer = .stopped) →
    s.dwellOver = false → exec .loadSense s = .next s

/-- FEED_WINDOW_EXPIRY: the feed misses, its kind's count moves, the eighth part miss raises FEEDER_STARVED and
the third check miss CHECK_STARVED with the check unit started again (R30, R139); the dwell and a drain may end
(R3, R4, R162).  FEED_PULSE_END releases the feed outputs (R28; log entry 15). -/
def Obligations.FeedMissed : Prop :=
  (∀ (s : State) (f : Feed) (ms : Nat), s.lines.inReset = false → s.feed.inFlight = some f →
    s.feed.windowTimer = .running ms →
    ∃ t, exec .feedWindowExpiry s = .next t ∧
      t.feed =
        (match f.kind with
          | .part =>
            { s.feed with
              inFlight := none, windowTimer := .stopped
              misses := if 8 ≤ s.feed.misses + 1 then 0 else s.feed.misses + 1 }
          | .check =>
            { s.feed with
              inFlight := none, windowTimer := .stopped
              checkMisses := if 3 ≤ s.feed.checkMisses + 1 then 0 else s.feed.checkMisses + 1 }) ∧
      t.faults =
        (match f.kind with
          | .part =>
            if 8 ≤ s.feed.misses + 1 then { s.faults with events := s.faults.events ||| 0x1000#19 }
            else s.faults
          | .check =>
            if 3 ≤ s.feed.checkMisses + 1 then { s.faults with events := s.faults.events ||| 0x2000#19 }
            else s.faults) ∧
      t.check =
        (if f.kind = .check ∧ 3 ≤ s.feed.checkMisses + 1 then { s.check with counter := 0, due := false }
          else s.check) ∧
      t.isBusy .load = false ∧ (∀ st, st ≠ .load → t.isBusy st = s.isBusy st) ∧
      t.pockets = s.pockets ∧ t.heads = s.heads ∧ t.gates = s.gates ∧ t.banks = s.banks ∧
      t.lot = { s.lot with state := s.lotStateAfter t } ∧ t.link = s.link ∧ t.lines = s.lines ∧
      t.forceClass = s.forceClass ∧ t.dial = s.dial.afterWork t.dial.busy t.anySevere) ∧
  ∀ s : State, s.lines.inReset = false →
    exec .feedPulseEnd s = .next { s with feed := { s.feed with feedOut := false, checkFeedOut := false } }

/-! ## Measurement heads -/

/-- The arrival at HA and at HB: a PENDING record bound for this head is measured when the head is READY, is
rerouted, without its open pair, when the head is OUT or PROBING and the other is in service, and is left
alone when neither is; any other record is let pass (R52, R53, R85). -/
def Obligations.HeadArrival : Prop :=
  ∀ (s : State) (h : Head) (p : Fin 24), s.offsetOf p = (match h with | .a => 3 | .b => 5) →
    (∀ (r : LiveRecord) (openPair : Bool), s.pocket p = .live r → r.phase = .pending h openPair →
      ((s.head h).state = .ready →
        s.arriveHead h =
          { s with
            heads := (s.heads.set h
              { s.head h with
                state := .measuring
                request := some ⟨.measure p s.banks.active.range s.banks.active.aperture, false⟩ })
            dial := { s.dial with busy := s.dial.busy.set (Station.head h).index.val true }
            pockets := (s.pockets.set p.val (.live { r with phase := .measuring h openPair none })) }) ∧
      (((∃ why, (s.head h).state = .out why) ∨ (s.head h).state = .probing) →
        s.arriveHead h =
          if s.inService h.other then
            { s with pockets :=
                (s.pockets.set p.val
                  (.live (s.checkDoneTest { r with phase := .pending h.other false }))) }
          else s)) ∧
    ((∀ (r : LiveRecord) (openPair : Bool), s.pocket p = .live r → r.phase ≠ .pending h openPair) →
      s.arriveHead h = s)

/-- REQUEST_SENT marks the request sent and starts the response timer with 4, 8, 16 or 32 ms, and does nothing
for a request held for the quiet timer; QUIET_TIMER_EXPIRY stops the quiet timer and nothing else (R46, R43;
log entry 17). -/
def Obligations.RequestTiming : Prop :=
  ∀ (s : State) (h : Head), s.lines.inReset = false →
    (∀ kind, (s.head h).request = some ⟨kind, false⟩ → (s.head h).quietTimer = .stopped →
      exec (.requestSent h) s = .next
        { s with heads := (s.heads.set h
            { s.head h with
              request := some ⟨kind, true⟩
              responseTimer := .running (2 ^ (2 + (s.head h).timeoutSelect.val)) }) }) ∧
    (((s.head h).request = none ∨ (∃ kind, (s.head h).request = some ⟨kind, true⟩) ∨
        (s.head h).quietTimer ≠ .stopped) → exec (.requestSent h) s = .next s) ∧
    exec (.quietTimerExpiry h) s = .next
      { s with heads := s.heads.set h { s.head h with quietTimer := .stopped } }

/-- The link receiver: which bytes begin a frame, go on with it, complete it (as the RESULT or IDENT_ANSWER it
spells), are thrown away, or are a link error; a pause, a framing error and quiet (R45; log entry 8 for what
the rows stand for). -/
def Obligations.LinkReceiver : Prop :=
  ∀ (s : State) (h : Head), s.lines.inReset = false → s.dwellOver = false →
    ((s.head h).receiver = .idle →
      (∀ b, (b = 0xB1#8 ∨ b = 0xB2#8) →
        exec (.byteReceived h b) s = .next
          { s with heads := s.heads.set h { s.head h with receiver := .inFrame [b] } }) ∧
      (∀ b, b ≠ 0xB1#8 → b ≠ 0xB2#8 →
        exec (.byteReceived h b) s = exec (.unknownType h b) s ∧
        exec (.unknownType h b) s = .next
          { s with heads := (s.heads.set h
              { s.head h with
                receiver := .discarding
                counters :=
                  { (s.head h).counters with
                    linkErrors := min 65535 ((s.head h).counters.linkErrors + 1) } }) }) ∧
      exec (.linkPause h) s = .next s ∧ exec (.discardQuiet h) s = .next s) ∧
    (∀ held, (s.head h).receiver = .inFrame held →
      (∀ b, ((held.head? = some 0xB1#8 ∧ held.length < 5) ∨ (held.head? = some 0xB2#8 ∧ held.length < 2)) →
        exec (.byteReceived h b) s = .next
          { s with heads := s.heads.set h { s.head h with receiver := .inFrame (held ++ [b]) } }) ∧
      (∀ (tag : Byte) (code : BitVec 24) (status : Byte) (t : State),
        held = [0xB1#8, tag, code.extractLsb' 16 8, code.extractLsb' 8 8, code.extractLsb' 0 8] →
        exec (.result h tag code status) s = .next t →
        exec (.byteReceived h status) s = .next (t.reportSevere s)) ∧
      (∀ (tag maxRange : Byte) (t : State), held = [0xB2#8, tag] →
        exec (.identAnswer h tag maxRange) s = .next t → t.dwellOver = false →
        exec (.byteReceived h maxRange) s = .next t) ∧
      exec (.linkPause h) s = .next
        { s with heads := (s.heads.set h
            { s.head h with
              receiver := .idle
              counters :=
                { (s.head h).counters with
                  linkErrors := min 65535 ((s.head h).counters.linkErrors + 1) } }) } ∧
      exec (.discardQuiet h) s = .next s) ∧
    ((s.head h).receiver ≠ .discarding →
      exec (.framingError h) s = .next
        { s with heads := (s.heads.set h
            { s.head h with
              receiver := .discarding
              counters :=
                { (s.head h).counters with
                  linkErrors := min 65535 ((s.head h).counters.linkErrors + 1) } }) }) ∧
    ((s.head h).receiver = .discarding →
      (∀ b, exec (.byteReceived h b) s = .next s ∧ exec (.unknownType h b) s = .next s) ∧
      exec (.framingError h) s = .next s ∧ exec (.linkPause h) s = .next s ∧
      exec (.discardQuiet h) s = .next
        { s with heads := s.heads.set h { s.head h with receiver := .idle } })

/-- A frame that is not awaited (no request, one held unsent, another tag, or the wrong kind of answer) is
discarded: late or mistagged increases by one and nothing else changes (R47). -/
def Obligations.UnawaitedFramesAreDiscarded : Prop :=
  (∀ (s : State) (h : Head) (tag : Byte) (code : BitVec 24) (status : Byte), s.lines.inReset = false →
    s.dwellOver = false → (s.head h).receiver = .idle →
    (∀ p range aperture, (s.head h).request = some ⟨.measure p range aperture, true⟩ →
      tag ≠ BitVec.ofNat 8 p.val) →
    exec (.result h tag code status) s = .next
      { s with heads := (s.heads.set h
          { s.head h with
            counters :=
              { (s.head h).counters with late := min 65535 ((s.head h).counters.late + 1) } }) }) ∧
  ∀ (s : State) (h : Head) (tag maxRange : Byte), s.lines.inReset = false →
    (s.head h).receiver = .idle → ((s.head h).request = some ⟨.ident, true⟩ → tag ≠ 0xFF#8) →
    exec (.identAnswer h tag maxRange) s = .next
      { s with heads := (s.heads.set h
          { s.head h with
            counters :=
              { (s.head h).counters with late := min 65535 ((s.head h).counters.late + 1) } }) }

/-- The completion of a probe: the answer stores the maximum range, above 6 as 6, and takes the head to READY,
or to OUT as INCAPABLE when the range is below the ACTIVE recipe's or, with a lot current, the timeout is
less than the integration time plus 2 ms; the timeout takes it to OUT as LOST and raises HEAD_LOST (R51). -/
def Obligations.ProbeCompletes : Prop :=
  ∀ (s : State) (h : Head), s.lines.inReset = false → (s.head h).request = some ⟨.ident, true⟩ →
    (s.head h).responseTimer.isRunning = true →
    ((s.head h).receiver = .idle → ∀ maxRange : Byte,
      ∃ unfit : Bool,
        (unfit = true ↔
          min maxRange.toNat 6 < s.banks.active.range.val ∨
            (s.lot.state ≠ .noLot ∧
              2 ^ (2 + (s.head h).timeoutSelect.val) <
                (match s.banks.active.aperture with | 0 => 1 | 1 => 2 | 2 => 5 | 3 => 10) + 2)) ∧
        exec (.identAnswer h 0xFF#8 maxRange) s = .next
          (State.reportSevere
            { s with heads := (s.heads.set h
                { s.head h with
                  state := if unfit then .out .incapable else .ready
                  maxRange := some ⟨min maxRange.toNat 6, by omega⟩
                  request := none, responseTimer := .stopped
                  noReplies := if unfit then (s.head h).noReplies else 0 }) } s)) ∧
    exec (.responseTimeout h) s = .next
      (State.endDwellTest
        { s with
          heads := (s.heads.set h
            { s.head h with state := .out .lost, request := none, responseTimer := .stopped })
          faults :=
            { s.faults with
              events := s.faults.events ||| 0x400#19
              headCapture :=
                takeHeadOffer s.faults.headCapture
                  { kind := .lost, head := h, epoch := (s.head h).epoch,
                    exposure := s.check.exposure.get h, drift := none } } })

/-- RESPONSE_TIMEOUT with a measurement in flight: a NO_REPLY; the third in a row takes the head OUT as LOST
with HEAD_LOST raised, a lesser count leaves it READY; the station leaves the busy set (R56), and the dwell may
end (R3, R4).  A NO_REPLY kept
by a PART record is doubtful (R57, R82): it is an attempt alone, opens a pair at A, or completes one at B
(R84 to R87, R89, R92); kept by a CHECK record it is inconclusive (R94, R104, R140); one for a record with a
purge mark or RECALL_PENDING is discarded (R24, R146, R148; log entry 16 for the count). -/
def Obligations.NoReply : Prop :=
  ∀ (s : State) (h : Head) (p : Fin 24) (range : Fin 7) (aperture : Fin 4) (sent : Bool),
    s.lines.inReset = false → (s.head h).request = some ⟨.measure p range aperture, sent⟩ →
    (s.head h).responseTimer.isRunning = true →
    ∃ t, exec (.responseTimeout h) s = .next t ∧
      (∃ kept usesOneShot, t.head h = (s.head h).afterNoReply kept usesOneShot) ∧
      ((s.head h).thirdNoReply = true → t.flagSet .headLost = true) ∧
      t.head h.other = s.head h.other ∧
      t.isBusy (.head h) = false ∧ (∀ st, st ≠ .head h → t.isBusy st = s.isBusy st) ∧
      (∀ q, q ≠ p →
        t.pocket q = if (s.head h).thirdNoReply then (s.departed h .lost).pocket q else s.pocket q) ∧
      t.feed = s.feed ∧ t.gates = s.gates ∧ t.banks = s.banks ∧ t.link = s.link ∧
      t.forceClass = s.forceClass ∧ t.lines = s.lines ∧
      t.dial = s.dial.afterWork t.dial.busy t.anySevere ∧
      (∀ (r : LiveRecord) (openPair : Bool) (x : Reading), s.Keeps h p r openPair → r.kind = .part →
        x = { head := h, sample := none, epoch := (s.head h).epoch, doubtful := true,
              forced := (s.head h).forceDoubt } →
        t.head h = (s.head h).afterNoReply true true ∧ t.check = s.check ∧
        (∀ intended, s.SingleAttempt r h openPair intended →
          t.faults = State.faultsAfterSubstitution { s with faults := s.faultsAfterNoReply h } intended h ∧
          t.lot =
            (if r.attempts + 1 ≤ s.banks.active.retestLimit ∧ s.isCurrentLot r.lot = true then
              s.lot.retestedOne else s.lot) ∧
          t.pocket p =
            .live
              { r with
                attempts := r.attempts + 1
                readings := r.readings ++ [x]
                flags := { r.flags with degraded := r.flags.degraded || decide (intended ≠ h) }
                phase :=
                  if r.attempts + 1 ≤ s.banks.active.retestLimit then
                    .pending (s.banks.active.retestsAt (r.attempts + 1) h) false
                  else .purgePending .noResult }) ∧
        (s.banks.active.mode = .confirm → h = .a → s.inService .b = true →
          t.faults = s.faultsAfterNoReply h ∧ t.lot = s.lot ∧
          t.pocket p = .live { r with readings := r.readings ++ [x], phase := .pending .b true }) ∧
        (s.banks.active.mode = .confirm → h = .b → openPair = true → r.readings ≠ [] →
          t.faults = s.faultsAfterNoReply h ∧
          t.lot =
            (if r.attempts + 1 ≤ s.banks.active.retestLimit ∧ s.isCurrentLot r.lot = true then
              s.lot.retestedOne else s.lot) ∧
          t.pocket p =
            .live
              { r with
                attempts := r.attempts + 1
                readings := r.readings ++ [x]
                phase :=
                  if r.attempts + 1 ≤ s.banks.active.retestLimit then .pending .a false
                  else .purgePending .noResult })) ∧
      (∀ (r : LiveRecord) (openPair : Bool), s.Keeps h p r openPair → r.kind = .check →
        t.head h = (s.head h).afterNoReply true false ∧ t.faults = s.faultsAfterNoReply h ∧
        t.lot = s.lot ∧ t.check = { s.check with due := true } ∧
        t.pocket p =
          .live
            { r with
              readings := r.readings ++
                [{ head := h, sample := none, epoch := (s.head h).epoch, doubtful := true, forced := false }]
              phase :=
                if h = .a ∧ s.inService .b = true ∧ (∀ y ∈ r.readings, y.head = .a) then .pending .b false
                else .checkDone }) ∧
      ∀ (r : LiveRecord) (openPair : Bool) (mark : Option PurgeMark), s.pocket p = .live r →
        r.phase = .measuring h openPair mark → (mark ≠ none ∨ r.flags.recallPending = true) →
        t.head h = (s.head h).afterNoReply false false ∧ t.faults = s.faultsAfterNoReply h ∧
        t.check = s.check ∧
        (∀ v, mark = some v → t.pocket p = .live (r.afterMark v) ∧ t.lot = s.lot) ∧
        (mark = none →
          t.pocket p = .live (r.afterRecall h (!(s.head h).thirdNoReply)) ∧
          t.lot =
            if r.kind = .part ∧ s.isCurrentLot r.lot = true then s.lot.recalledOne else s.lot)

/-- HEAD_ENABLE begins a probe from OUT, and is refused in every other head state (R48, R50).  SET_HEAD and
SET_HEAD_CAL: the index, then the state (accepted when OUT), then the range are tested; values outside
their ranges are clamped.  FORCE_DOUBT arms the one-shot in every head state (R60, R61, R64). -/
def Obligations.HeadEnableAndSettings : Prop :=
  (∀ (s u : State) (i : Byte), s.Hands (.headEnable i) u →
    (2 ≤ i.toNat → exec (.headEnable i) s = .next (u.answer .badIndex [])) ∧
    ∀ h : Head, i.toNat = (match h with | .a => 0 | .b => 1) →
      ((∃ why, (u.head h).state = .out why) →
        exec (.headEnable i) s = .next
          (State.answer
            { u with heads := (u.heads.set h
                { u.head h with state := .probing, request := some ⟨.ident, false⟩ }) } .ok [])) ∧
      ((¬∃ why, (u.head h).state = .out why) →
        exec (.headEnable i) s = .next (u.answer .refusedState []))) ∧
  ∀ (s u : State) (i : Byte) (h : Head), i.toNat = (match h with | .a => 0 | .b => 1) →
    (∀ sel : Byte, s.Hands (.setHead i sel) u →
      exec (.setHead i sel) s = .next
        (if u.inService h = true ∨ (u.head h).state = .probing then u.answer .refusedState []
        else
          State.answer
            { u with heads := (u.heads.set h
                { u.head h with timeoutSelect := ⟨min sel.toNat 3, by omega⟩ }) }
            (if sel.toNat ≤ 3 then .ok else .clamped) [])) ∧
    (∀ (range : Byte) (offset gain : BitVec 16), s.Hands (.setHeadCal i range offset gain) u →
      exec (.setHeadCal i range offset gain) s = .next
        (if u.inService h = true ∨ (u.head h).state = .probing then u.answer .refusedState []
        else if 7 ≤ range.toNat then u.answer .badIndex []
        else
          State.answer
            { u with heads := (u.heads.set h
                { u.head h with
                  calibration :=
                    Vector.ofFn fun k : Fin 7 =>
                      if k.val = range.toNat then
                        ⟨max (-2000) (min 2000 offset.toInt), max (-5000) (min 5000 gain.toInt)⟩
                      else (u.head h).calibration[k.val] }) }
            (if -2000 ≤ offset.toInt ∧ offset.toInt ≤ 2000 ∧ -5000 ≤ gain.toInt ∧ gain.toInt ≤ 5000 then .ok
              else .clamped) [])) ∧
    (s.Hands (.forceDoubt i) u →
      exec (.forceDoubt i) s = .next
        (State.answer { u with heads := u.heads.set h { u.head h with forceDoubt := true } } .ok []))

/-- HEAD_DISABLE is answered OK in every head state: nothing from OUT; a probe is abandoned; a READY head goes
OUT as HOST, and the check-done test is made (R105); a measurement is abandoned, its station leaves the
busy set, and its record is PURGE_PENDING by its purge mark, or purged with RECALL when it carries
RECALL_PENDING, or PENDING at the other head when that is in service, without its open pair, and else at this
one, or CHECK_DONE, and the dwell may end (R3, R4, R59, R25, R85, R105, R146, R148).  That the quiet timer holds the whole response timeout,
and not what remained of it, is log entry 1; that only a PART record of the current lot is counted as recalled
is log entry 16. -/
def Obligations.HeadDisable : Prop :=
  ∀ (s u : State) (i : Byte), s.Hands (.headDisable i) u →
    (2 ≤ i.toNat → exec (.headDisable i) s = .next (u.answer .badIndex [])) ∧
    ∀ h : Head, i.toNat = (match h with | .a => 0 | .b => 1) →
      ((∃ why, (u.head h).state = .out why) → exec (.headDisable i) s = .next (u.answer .ok [])) ∧
      ((u.head h).state = .probing → ∀ sent, (u.head h).request = some ⟨.ident, sent⟩ →
        exec (.headDisable i) s = .next
          (State.answer
            { u with heads := u.heads.set h ((u.head h).afterAbandon sent (.out .host)) } .ok [])) ∧
      ((u.head h).state = .ready →
        exec (.headDisable i) s = .next
          ((u.departed h .host).answer .ok [])) ∧
      ((u.head h).state = .measuring → ∀ p range aperture sent r openPair mark,
        (u.head h).request = some ⟨.measure p range aperture, sent⟩ → u.pocket p = .live r →
        r.phase = .measuring h openPair mark →
        ∃ t, exec (.headDisable i) s = .next t ∧
          t.head h = (u.head h).afterAbandon sent (.out .host) ∧
          t.head h.other = u.head h.other ∧
          t.isBusy (.head h) = false ∧ (∀ st, st ≠ .head h → t.isBusy st = u.isBusy st) ∧
          (∃ r', t.pocket p = .live r' ∧
            r.AbandonedTo h mark (fun k => decide (k ≠ h) && u.inService k)
              (if u.inService h.other then h.other else h) (openPair && !u.inService h.other) r') ∧
          (∀ q, q ≠ p → t.pocket q = (u.departed h .host).pocket q) ∧
          (u.recallEnds h → t.lot = u.lot.recalledOne) ∧ (¬u.recallEnds h → t.lot = u.lot) ∧
          t.feed = u.feed ∧ t.gates = u.gates ∧ t.banks = u.banks ∧ t.forceClass = u.forceClass ∧
          t.check = u.check ∧ t.faults = u.faults ∧ t.lines = u.lines ∧
          t.dial = u.dial.afterWork t.dial.busy t.anySevere ∧
          t.link = { u.link with state := .response ⟨.ok, []⟩ })

/-- READ_HEAD is answered OK in every head state, changes no state, and returns 37 bytes in the order of R65; its
bit 'held unsent' is a request not sent while the quiet timer runs (log entry 17).  READ_HEAD_STATS returns
the five counters in 10 bytes and clears them (R66). -/
def Obligations.ReadHeadAndStats : Prop :=
  ∀ (s u : State) (i : Byte) (h : Head), i.toNat = (match h with | .a => 0 | .b => 1) →
    (s.Hands (.readHead i) u → ∃ b,
      exec (.readHead i) s = .next (u.answer .ok b) ∧ b.length = 37 ∧
      fieldAt b 0 1 =
        (match (u.head h).state with | .out _ => 0 | .probing => 1 | .ready => 2 | .measuring => 3) ∧
      fieldAt b 1 1 =
        (match (u.head h).state with
          | .out .host => 1 | .out .lost => 2 | .out .drift => 3 | .out .incapable => 4
          | .out .reset => 5 | _ => 0) ∧
      fieldAt b 2 1 = (match (u.head h).maxRange with | some m => m.val | none => 255) ∧
      fieldAt b 3 1 = (u.head h).timeoutSelect.val ∧
      fieldAt b 4 2 = (u.head h).epoch.toNat ∧
      fieldAt b 6 1 = (u.head h).noReplies % 256 ∧
      (fieldAt b 7 1).testBit 0 = (u.head h).forceDoubt ∧
      (fieldAt b 7 1).testBit 1 = (u.head h).quietTimer.isRunning ∧
      ((fieldAt b 7 1).testBit 2 = true ↔
        (∃ kind, (u.head h).request = some ⟨kind, false⟩) ∧ (u.head h).quietTimer.isRunning = true) ∧
      fieldAt b 7 1 < 8 ∧
      fieldAt b 8 1 =
        (match (u.head h).request with
          | some ⟨.measure p _ _, _⟩ => p.val | some ⟨.ident, _⟩ => 0xFF | none => 0xFE) ∧
      ∀ k : Fin 7,
        fieldAt b (9 + 4 * k.val) 2 = (BitVec.ofInt 16 ((u.head h).calibration[k.val]).offset).toNat ∧
        fieldAt b (11 + 4 * k.val) 2 = (BitVec.ofInt 16 ((u.head h).calibration[k.val]).gain).toNat) ∧
    (s.Hands (.readHeadStats i) u → ∃ b,
      exec (.readHeadStats i) s = .next
        (State.answer
          { u with heads := u.heads.set h { u.head h with counters := ⟨0, 0, 0, 0, 0⟩ } } .ok b) ∧
      b.length = 10 ∧
      fieldAt b 0 2 = (u.head h).counters.measurements % 65536 ∧
      fieldAt b 2 2 = (u.head h).counters.doubtful % 65536 ∧
      fieldAt b 4 2 = (u.head h).counters.noReplies % 65536 ∧
      fieldAt b 6 2 = (u.head h).counters.late % 65536 ∧
      fieldAt b 8 2 = (u.head h).counters.linkErrors % 65536)

/-! ## Deviations, doubt, retests and grading -/

/-- The conversion in whole numbers: the offset taken off and limited to the code range (R69), the quotient of
the exact numerator and denominator rounded to the nearest integer with a half rounded up (R70, R71, R72),
less one million (R73), limited above at 9,999,999 with the reading marked saturated (R74); so a stored
deviation is never outside R75.  The range of a recipe is its exponent plus 3 (R67). -/
def Obligations.ConversionRoundsOnce : Prop :=
  (∀ (m : Nat) (cal : Calibration) (code : BitVec 24), 1000 ≤ m → m ≤ 9999 → cal.InRange →
    ∃ c1 q : Int,
      c1 = (if (code.toNat : Int) - cal.offset < 0 then 0
        else if 16777215 < (code.toNat : Int) - cal.offset then 16777215
        else (code.toNat : Int) - cal.offset) ∧
      (2 * q - 1) * (m * 8388608) ≤ 2 * (c1 * (1000000 + cal.gain) * 10000) ∧
      2 * (c1 * (1000000 + cal.gain) * 10000) < (2 * q + 1) * (m * 8388608) ∧
      0 ≤ q ∧ q ≤ 20099999 ∧
      convert m cal code =
        (if 9999999 < q - 1000000 then (9999999, true) else (q - 1000000, false)) ∧
      deviationInRange (convert m cal code).1) ∧
  ∀ r : Recipe, -3 ≤ r.exponent → r.exponent ≤ 3 → (r.range.val : Int) = r.exponent + 3

/-- The walk stops at the lowest class index whose class matches: a catch-all, or a guarded window with both
ends included; it finds none exactly when none matches (R98, R99).  An armed force-class one-shot that
names a class of the ACTIVE list takes its place (R103). -/
def Obligations.WalkFindsTheFirstMatch : Prop :=
  (∀ (r : Recipe) (d : Int) (c : Fin 12),
    r.walk d = some c ↔
      (∃ k, r.cls c = some k ∧ (k.catchAll = true ∨ (k.lo + k.guardBand ≤ d ∧ d ≤ k.hi - k.guardBand))) ∧
      ∀ (j : Fin 12) (k : ClassDef), j < c → r.cls j = some k →
        k.catchAll = false ∧ (d < k.lo + k.guardBand ∨ k.hi - k.guardBand < d)) ∧
  (∀ (r : Recipe) (d : Int),
    r.walk d = none ↔
      ∀ (j : Fin 12) (k : ClassDef), r.cls j = some k →
        k.catchAll = false ∧ (d < k.lo + k.guardBand ∨ k.hi - k.guardBand < d)) ∧
  ∀ (s : State) (d : Int),
    s.gradeClass d =
      match s.forceClass with
      | some c => if s.banks.active.cls c ≠ none then (some c, true) else (s.banks.active.walk d, false)
      | none => (s.banks.active.walk d, false)

/-- RESULT for a kept reading of a PART record that is not doubtful and is an attempt alone: the head is READY,
the station leaves the busy set, the attempt is counted, and the record is CLASSIFIED in the class of the
walk or of the one-shot, or PURGE_PENDING with NO_CLASS, with its result; the one-shot is spent; an attempt
on another head than intended is marked DEGRADED and raises HEAD_SUBSTITUTED (R55, R57, R76, R84, R87,
R92, R99, R100, R103). -/
def Obligations.SingleReadingIsGraded : Prop :=
  ∀ (s : State) (h intended : Head) (p : Fin 24) (range : Fin 7) (r : LiveRecord) (openPair : Bool)
    (code : BitVec 24) (status : Byte) (d : Int),
    s.Awaits h p range → s.Keeps h p r openPair → r.kind = .part →
    s.SingleAttempt r h openPair intended → ¬s.statusDoubts status → (s.head h).forceDoubt = false →
    d = (convert s.banks.active.mantissa (s.head h).calibration[range.val] code).1 →
    exec (.result h (BitVec.ofNat 8 p.val) code status) s = .next
      (State.endDwellTest
        { s with
          heads := s.heads.set h ((s.head h).afterResult false false)
          dial := { s.dial with busy := s.dial.busy.set (Station.head h).index.val false }
          forceClass := none
          faults := s.faultsAfterSubstitution intended h
          pockets := (s.pockets.set p.val
            (.live
              { r with
                attempts := r.attempts + 1
                readings := r.readings ++ [s.readingOf h range code status false false]
                flags :=
                  { r.flags with
                    forced := r.flags.forced || (s.gradeClass d).2
                    degraded := r.flags.degraded || decide (intended ≠ h)
                    saturated := r.flags.saturated ||
                      (convert s.banks.active.mantissa (s.head h).calibration[range.val] code).2 }
                grading := some ⟨d, .one h (s.head h).epoch⟩
                cls := (s.gradeClass d).1
                phase := if (s.gradeClass d).1 = none then .purgePending .noClass else .classified })) })

/-- RESULT for a kept reading of a PART record that is doubtful, by its status flags or by the force-doubt
one-shot, and is an attempt alone: PENDING at the retest head while the attempts are within the ACTIVE
retest limit, with the lot's retest counted, and else PURGE_PENDING with NO_RESULT; the force-class
one-shot waits (R57, R64, R82, R83, R84, R87, R89, R92, R103). -/
def Obligations.DoubtfulReadingIsRetested : Prop :=
  ∀ (s : State) (h intended : Head) (p : Fin 24) (range : Fin 7) (r : LiveRecord) (openPair : Bool)
    (code : BitVec 24) (status : Byte),
    s.Awaits h p range → s.Keeps h p r openPair → r.kind = .part →
    s.SingleAttempt r h openPair intended → (s.statusDoubts status ∨ (s.head h).forceDoubt = true) →
    exec (.result h (BitVec.ofNat 8 p.val) code status) s = .next
      (State.endDwellTest
        { s with
          heads := s.heads.set h ((s.head h).afterResult true (s.head h).forceDoubt)
          dial := { s.dial with busy := s.dial.busy.set (Station.head h).index.val false }
          faults := s.faultsAfterSubstitution intended h
          lot :=
            if r.attempts + 1 ≤ s.banks.active.retestLimit ∧ s.isCurrentLot r.lot = true then
              { s.lot with counters :=
                { s.lot.counters with retests := min 4294967295 (s.lot.counters.retests + 1) } }
            else s.lot
          pockets := (s.pockets.set p.val
            (.live
              { r with
                attempts := r.attempts + 1
                readings := r.readings ++ [s.readingOf h range code status true (s.head h).forceDoubt]
                flags :=
                  { r.flags with
                    degraded := r.flags.degraded || decide (intended ≠ h)
                    saturated := r.flags.saturated ||
                      (convert s.banks.active.mantissa (s.head h).calibration[range.val] code).2 }
                phase :=
                  if r.attempts + 1 ≤ s.banks.active.retestLimit then
                    .pending (s.banks.active.retestsAt (r.attempts + 1) h) false
                  else .purgePending .noResult })) })

/-- CONFIRM mode: a kept reading at A with B in service opens a pair and completes no attempt, whatever it is;
the reading at B completes it, graded on the floor of the half-sum when neither is doubtful or saturated
and they differ by at most the agree limit, and else a doubtful attempt retested at A, counted for the current
lot, or purged with NO_RESULT; SATURATED and FORCED follow the reading and the grading; HB leaves the busy set
and the dwell may end (R3, R4, R74, R77, R78, R84, R85, R86, R87, R89, R103). -/
def Obligations.ConfirmPairs : Prop :=
  (∀ (s : State) (p : Fin 24) (range : Fin 7) (r : LiveRecord) (openPair : Bool) (code : BitVec 24)
    (status : Byte) (doubtful : Bool),
    s.Awaits .a p range → s.Keeps .a p r openPair → r.kind = .part → s.banks.active.mode = .confirm →
    s.inService .b = true →
    (doubtful = true ↔ s.statusDoubts status ∨ (s.head .a).forceDoubt = true) →
    exec (.result .a (BitVec.ofNat 8 p.val) code status) s = .next
      (State.endDwellTest
        { s with
          heads := s.heads.set .a ((s.head .a).afterResult doubtful (s.head .a).forceDoubt)
          dial := { s.dial with busy := s.dial.busy.set 1 false }
          pockets := (s.pockets.set p.val
            (.live
              { r with
                readings :=
                  r.readings ++ [s.readingOf .a range code status doubtful (s.head .a).forceDoubt]
                flags :=
                  { r.flags with
                    saturated := r.flags.saturated ||
                      (convert s.banks.active.mantissa (s.head .a).calibration[range.val] code).2 }
                phase := .pending .b true })) })) ∧
  ∀ (s : State) (p : Fin 24) (range : Fin 7) (r : LiveRecord) (code : BitVec 24) (status : Byte)
    (first : Reading) (doubtful : Bool) (dev : Int × Bool),
    s.Awaits .b p range → s.Keeps .b p r true → r.kind = .part → s.banks.active.mode = .confirm →
    r.readings.getLast? = some first →
    (doubtful = true ↔ s.statusDoubts status ∨ (s.head .b).forceDoubt = true) →
    dev = convert s.banks.active.mantissa (s.head .b).calibration[range.val] code →
    ∃ t, exec (.result .b (BitVec.ofNat 8 p.val) code status) s = .next t ∧
      t.heads = s.heads.set .b ((s.head .b).afterResult doubtful (s.head .b).forceDoubt) ∧
      t.isBusy (.head .b) = false ∧ (∀ st, st ≠ .head .b → t.isBusy st = s.isBusy st) ∧
      t.dial = s.dial.afterWork t.dial.busy t.anySevere ∧ t.lines = s.lines ∧ t.link = s.link ∧
      (∀ q, q ≠ p → t.pocket q = s.pocket q) ∧
      t.faults = s.faults ∧ t.gates = s.gates ∧ t.feed = s.feed ∧ t.check = s.check ∧ t.banks = s.banks ∧
      ∃ r' : LiveRecord, t.pocket p = .live r' ∧
        r'.attempts = r.attempts + 1 ∧
        r'.readings = r.readings ++ [s.readingOf .b range code status doubtful (s.head .b).forceDoubt] ∧
        r'.kind = r.kind ∧ r'.lot = r.lot ∧ r'.serial = r.serial ∧ r'.lap = r.lap ∧
        r'.flags.degraded = r.flags.degraded ∧ r'.flags.recalled = r.flags.recalled ∧
        r'.flags.recallPending = false ∧ r'.flags.saturated = (r.flags.saturated || dev.2) ∧
        (∀ v, first.doubtful = false → doubtful = false → first.sample = some v → v.saturated = false →
          dev.2 = false → v.deviation - dev.1 ≤ s.banks.active.agreeLimit →
          dev.1 - v.deviation ≤ s.banks.active.agreeLimit →
          r'.grading = some ⟨(v.deviation + dev.1) / 2, .both first.epoch (s.head .b).epoch⟩ ∧
          r'.cls = (s.gradeClass ((v.deviation + dev.1) / 2)).1 ∧
          r'.flags.forced = (r.flags.forced || (s.gradeClass ((v.deviation + dev.1) / 2)).2) ∧
          t.forceClass = none ∧ t.lot = s.lot ∧
          r'.phase = if r'.cls = none then .purgePending .noClass else .classified) ∧
        ((first.doubtful = true ∨ doubtful = true ∨
            ∀ v, first.sample = some v → v.saturated = true ∨ dev.2 = true ∨
              (s.banks.active.agreeLimit : Int) < v.deviation - dev.1 ∨
              (s.banks.active.agreeLimit : Int) < dev.1 - v.deviation) →
          t.forceClass = s.forceClass ∧ r'.flags.forced = r.flags.forced ∧ r'.grading = r.grading ∧
          r'.cls = r.cls ∧
          t.lot =
            (if r.attempts + 1 ≤ s.banks.active.retestLimit ∧ s.isCurrentLot r.lot = true then
              s.lot.retestedOne else s.lot) ∧
          r'.phase =
            if r.attempts + 1 ≤ s.banks.active.retestLimit then .pending .a false
            else .purgePending .noResult)

/-- RESULT for a record that carries a purge mark or RECALL_PENDING: the reading is discarded, the head is READY
with the measurement counted and its one-shot and doubtful count untouched, and the record is PURGE_PENDING
by its mark, or, with no mark, sent back to this head, or purged with RECALL if it was RECALLED, and counted
(R24, R55, R57, R146, R148; log entry 16 for the count). -/
def Obligations.MarkedAndRecalledReadings : Prop :=
  ∀ (s : State) (h : Head) (p : Fin 24) (range : Fin 7) (r : LiveRecord) (openPair : Bool)
    (mark : Option PurgeMark) (code : BitVec 24) (status : Byte),
    s.Awaits h p range → s.pocket p = .live r → r.phase = .measuring h openPair mark →
    (∀ v, mark = some v →
      exec (.result h (BitVec.ofNat 8 p.val) code status) s = .next
        (State.endDwellTest
          { s with
            heads := s.heads.set h ((s.head h).afterResult false false)
            dial := { s.dial with busy := s.dial.busy.set (Station.head h).index.val false }
            pockets := (s.pockets.set p.val
              (.live
                { r with
                  flags := { r.flags with recallPending := false }
                  phase := .purgePending (match v with | .voided => .voided | .abort => .abort) })) })) ∧
    (mark = none → r.flags.recallPending = true →
      exec (.result h (BitVec.ofNat 8 p.val) code status) s = .next
        (State.endDwellTest
          { s with
            heads := s.heads.set h ((s.head h).afterResult false false)
            dial := { s.dial with busy := s.dial.busy.set (Station.head h).index.val false }
            lot :=
              if r.kind = .part ∧ s.isCurrentLot r.lot = true then
                { s.lot with counters :=
                  { s.lot.counters with recalled := min 4294967295 (s.lot.counters.recalled + 1) } }
              else s.lot
            pockets := (s.pockets.set p.val
              (.live
                (if r.flags.recalled then
                  { r with
                    flags := { r.flags with recallPending := false }, phase := .purgePending .recall }
                else
                  { r with
                    readings := [], attempts := 0, grading := none, cls := none
                    flags := { r.flags with recallPending := false, recalled := true }
                    phase := .pending h false }))) }))

/-! ## Check standards and recall -/

/-- RESULT for a kept reading of a CHECK record: inconclusive when doubtful, with check-due set; a pass, within
the drift limit, advances the epoch and clears the exposure; a fail takes the head OUT as DRIFT, raises
HEAD_DRIFT with its capture, makes the check-done test, recalls, and then advances the epoch and clears the
exposure, after which no PENDING or CLASSIFIED PART record holds a reading of the head at the failed epoch.
The record goes on to B from A while B is in service, and else is CHECK_DONE, SATURATED by its reading; the
station leaves the busy set and the dwell may end (R3, R4, R74, R94, R104, R105, R140, R141, R142, R143, R145). -/
def Obligations.CheckReadingDecides : Prop :=
  ∀ (s : State) (h : Head) (p : Fin 24) (range : Fin 7) (r : LiveRecord) (openPair : Bool)
    (code : BitVec 24) (status : Byte) (drift : Int),
    s.Awaits h p range → s.Keeps h p r openPair → r.kind = .check →
    drift = (convert s.banks.active.mantissa (s.head h).calibration[range.val] code).1
      - s.banks.active.certified →
    ∃ t, exec (.result h (BitVec.ofNat 8 p.val) code status) s = .next t ∧
      t.isBusy (.head h) = false ∧ (∀ st, st ≠ .head h → t.isBusy st = s.isBusy st) ∧
      t.dial = s.dial.afterWork t.dial.busy t.anySevere ∧ t.lines = s.lines ∧ t.link = s.link ∧
      t.head h.other = s.head h.other ∧
      t.banks = s.banks ∧ t.gates = s.gates ∧ t.feed = s.feed ∧ t.forceClass = s.forceClass ∧
      (∃ doubtful, (doubtful = true ↔ s.statusDoubts status) ∧
        t.pocket p =
          .live
            { r with
              readings := r.readings ++ [s.readingOf h range code status doubtful false]
              flags :=
                { r.flags with
                  saturated := r.flags.saturated ||
                    (convert s.banks.active.mantissa (s.head h).calibration[range.val] code).2 }
              phase :=
                if h = .a ∧ s.inService .b = true ∧ (∀ x ∈ r.readings, x.head = .a) then .pending .b false
                else .checkDone }) ∧
      (s.statusDoubts status →
        t.check = { s.check with due := true } ∧ t.head h = (s.head h).afterResult true false ∧
        t.faults = s.faults ∧ t.lot = s.lot ∧ ∀ q, q ≠ p → t.pocket q = s.pocket q) ∧
      (¬s.statusDoubts status → -(s.banks.active.driftLimit : Int) ≤ drift →
        drift ≤ s.banks.active.driftLimit →
        t.check =
          { s.check with
            lastDrift := s.check.lastDrift.set h drift, exposure := s.check.exposure.set h 0 } ∧
        t.head h = { (s.head h).afterResult false false with epoch := (s.head h).epoch + 1#16 } ∧
        t.faults = s.faults ∧ t.lot = s.lot ∧ ∀ q, q ≠ p → t.pocket q = s.pocket q) ∧
      (¬s.statusDoubts status →
        (drift < -(s.banks.active.driftLimit : Int) ∨ (s.banks.active.driftLimit : Int) < drift) →
        t.check =
          { s.check with
            lastDrift := s.check.lastDrift.set h drift, exposure := s.check.exposure.set h 0 } ∧
        t.head h =
          { (s.head h).afterResult false false with
            state := .out .drift, epoch := (s.head h).epoch + 1#16 } ∧
        t.faults =
          { s.faults with
            events := s.faults.events ||| 0x200#19
            headCapture :=
              takeHeadOffer s.faults.headCapture
                { kind := .drift, head := h, epoch := (s.head h).epoch,
                  exposure := s.check.exposure.get h, drift := some drift } } ∧
        t.lot = ((s.departed h .drift).recall h (s.head h).epoch).lot ∧
        (∀ q, q ≠ p → t.pocket q = ((s.departed h .drift).recall h (s.head h).epoch).pocket q) ∧
        ∀ q r', t.pocket q = .live r' → r'.kind = .part →
          ((∃ hd o, r'.phase = .pending hd o) ∨ r'.phase = .classified) →
          ∀ x ∈ r'.readings, ¬(x.head = h ∧ x.epoch = (s.head h).epoch))

/-- The recall for a failed head and epoch, record by record: a PART record with such a reading is sent back to
the other head or purged with RECALL from PENDING and CLASSIFIED, marked RECALL_PENDING while MEASURING,
and left alone otherwise; every other record is left alone; the recalled count moves by the records sent back
or purged (R145, R146, R147, R148), those of the current lot only (R154; log entry 16). -/
def Obligations.RecallByRecordState : Prop :=
  ∀ (s : State) (failed : Head) (epoch : BitVec 16),
    (∀ (p : Fin 24) (r : LiveRecord), s.pocket p = .live r →
      (r.kind = .check ∨ (∀ x ∈ r.readings, ¬(x.head = failed ∧ x.epoch = epoch)) →
        (s.recall failed epoch).pocket p = .live r) ∧
      (r.kind = .part → (∃ x ∈ r.readings, x.head = failed ∧ x.epoch = epoch) →
        (((∃ hd o, r.phase = .pending hd o) ∨ r.phase = .classified) →
          (s.recall failed epoch).pocket p =
            .live
              (if r.flags.recalled = false ∧ s.inService failed.other = true then
                { r with
                  readings := [], attempts := 0, flags := { r.flags with recalled := true }
                  grading := none, cls := none, phase := .pending failed.other false }
              else { r with phase := .purgePending .recall })) ∧
        ((∃ hd o m, r.phase = .measuring hd o m) →
          (s.recall failed epoch).pocket p =
            .live { r with flags := { r.flags with recallPending := true } }) ∧
        (((∃ e, r.phase = .ejecting e) ∨ (∃ w, r.phase = .purgePending w) ∨ r.phase = .checkDone) →
          (s.recall failed epoch).pocket p = .live r))) ∧
    (∀ p, (∀ r, s.pocket p ≠ .live r) → (s.recall failed epoch).pocket p = s.pocket p) ∧
    ∃ n : Nat,
      n = s.countLive (fun r =>
        r.kind == .part && s.isCurrentLot r.lot &&
          (r.readings.any fun x => x.head == failed && x.epoch == epoch) &&
          (match r.phase with | .pending _ _ => true | .classified => true | _ => false)) ∧
      s.recall failed epoch =
        { s with
          pockets := (s.recall failed epoch).pockets
          lot := { s.lot with counters :=
            { s.lot.counters with recalled := min 4294967295 (s.lot.counters.recalled + n) } } }


/-! ## Gates, bins and the other ejecting stations -/

/-- The arrivals at the gates, CR, PG and EC: a CLASSIFIED record is taken by the gate that the routing rule
gives it (R107); CR fires for a CHECK_DONE record and lets a CLASSIFIED one pass unsorted, with
PASSED_UNSORTED (R111), and counted for a PART record of the current lot (R154; log entry 16); PG fires for
a PURGE_PENDING record and sweeps an UNKNOWN pocket (R36); EC reports a stray or a lost part, or finds an
UNKNOWN pocket empty (R33, R34); every other record passes (R118, R119). -/
def Obligations.EjectorAndEmptyCheckArrivals : Prop :=
  ∀ (s : State) (p : Fin 24),
    (∀ g : Fin 12, s.offsetOf p = 8 + g.val →
      (∀ r k c, s.pocket p = .live r → r.phase = .classified → r.cls = some k →
        s.banks.active.cls k = some c → s.takesClass g c →
        s.arriveGate g = s.afterFiring (.gate g) p false (.live { r with phase := .ejecting (.gate g) })) ∧
      ((¬∃ r k c, s.pocket p = .live r ∧ r.phase = .classified ∧ r.cls = some k ∧
        s.banks.active.cls k = some c ∧ s.takesClass g c) → s.arriveGate g = s)) ∧
    (s.offsetOf p = 20 →
      (∀ r, s.pocket p = .live r → r.phase = .checkDone →
        s.arriveCheckReturn =
          s.afterFiring .checkReturn p false (.live { r with phase := .ejecting .checkReturn })) ∧
      (∀ r, s.pocket p = .live r → r.phase = .classified →
        s.arriveCheckReturn =
          { s with
            lot :=
              if r.kind = .part ∧ s.isCurrentLot r.lot = true then
                { s.lot with counters :=
                  { s.lot.counters with
                    passedUnsorted := min 4294967295 (s.lot.counters.passedUnsorted + 1) } }
              else s.lot
            faults :=
              { s.faults with
                events := s.faults.events ||| 0x20000#19
                unsortedClasses :=
                  s.faults.unsortedClasses |||
                    (match r.cls with
                      | some k => 1#12 <<< k.val
                      | none => 0#12) } }) ∧
      ((∀ r, s.pocket p = .live r → r.phase ≠ .checkDone ∧ r.phase ≠ .classified) →
        s.arriveCheckReturn = s)) ∧
    (s.offsetOf p = 21 →
      (s.pocket p = .unknown → s.arrivePurge = s.afterFiring .purge p true .unknown) ∧
      (∀ r reason, s.pocket p = .live r → r.phase = .purgePending reason →
        s.arrivePurge =
          s.afterFiring .purge p false (.live { r with phase := .ejecting (.purge reason) })) ∧
      ((s.pocket p ≠ .unknown ∧ ∀ r reason, s.pocket p = .live r → r.phase ≠ .purgePending reason) →
        s.arrivePurge = s)) ∧
    (s.offsetOf p = 22 →
      (s.pocket p = .empty →
        s.arriveEmptyCheck true =
          State.drainTest
            { s with
              pockets := (s.pockets.set p.val .unknown)
              faults :=
                { s.faults with
                  events := s.faults.events ||| 4#19
                  pocketCapture :=
                    takePocketOffer s.faults.pocketCapture
                      { kind := .strayPart, pocket := p, lot := 0, serial := 0, station := 22,
                        cls := none } } }) ∧
      (∀ r, s.pocket p = .live r → (∀ hd o m, r.phase ≠ .measuring hd o m) → (∀ e, r.phase ≠ .ejecting e) →
        s.arriveEmptyCheck false =
          State.drainTest
            { s with
              pockets := (s.pockets.set p.val .empty)
              lot :=
                if r.kind = .part ∧ s.isCurrentLot r.lot = true then
                  { s.lot with counters :=
                    { s.lot.counters with lost := min 4294967295 (s.lot.counters.lost + 1) } }
                else s.lot
              faults :=
                { s.faults with
                  events := s.faults.events ||| 0x80#19
                  pocketCapture :=
                    takePocketOffer s.faults.pocketCapture
                      { kind := .lostPart, pocket := p, lot := r.lot, serial := r.serial, station := 22,
                        cls := r.cls } } }) ∧
      (s.pocket p = .unknown →
        s.arriveEmptyCheck false =
          State.drainTest { s with pockets := (s.pockets.set p.val .empty) }) ∧
      (s.pocket p = .empty → s.arriveEmptyCheck false = s) ∧
      (s.pocket p ≠ .empty → s.arriveEmptyCheck true = s) ∧
      (∀ r, s.pocket p = .live r → ((∃ hd o m, r.phase = .measuring hd o m) ∨ ∃ e, r.phase = .ejecting e) →
        s.arriveEmptyCheck false = s))

/-- CHUTE_PULSE: noise in IDLE, nothing in SETTLING; in FIRED it confirms: the ejector settles and leaves the
busy set, the pocket becomes EMPTY, and the part is binned, with the bin's fill, its thresholds and the
exposure of its deciding heads, or spilled with the canister absent; a CHECK is returned at CR; at PG the
purged or the swept count moves and the PG-miss count clears; the dwell and a drain may end (R3, R4, R121, R122,
R123, R124, R129, R144, R162). -/
def Obligations.ChutePulse : Prop :=
  ∀ (s : State) (c : Chute), s.lines.inReset = false →
    ((s.ejector c).state = .idle →
      exec (.chutePulse c) s = .next
        (State.endDwellTest
          { s with gates :=
            { s.gates with ejectors :=
              (s.gates.ejectors.set (chuteIndex c).val
                { s.ejector c with noise := min 65535 ((s.ejector c).noise + 1) }) } })) ∧
    ((s.ejector c).state = .settling → exec (.chutePulse c) s = .next s.endDwellTest) ∧
    ∀ (p : Fin 24) (sweep : Bool), (s.ejector c).state = .fired p sweep →
      ∃ t, exec (.chutePulse c) s = .next t ∧
        t.ejector c = { s.ejector c with state := .settling } ∧
        (∀ c', c' ≠ c → t.ejector c' = s.ejector c') ∧
        t.isBusy (.eject c) = false ∧ (∀ st, st ≠ .eject c → t.isBusy st = s.isBusy st) ∧
        (∀ q, q ≠ p → t.pocket q = s.pocket q) ∧ t.gates.settings = s.gates.settings ∧
        t.heads = s.heads ∧ t.banks = s.banks ∧ t.feed = s.feed ∧ t.link = s.link ∧ t.lines = s.lines ∧
        t.forceClass = s.forceClass ∧ t.dial = s.dial.afterWork t.dial.busy t.anySevere ∧
        t.lot = { s.lot with state := s.lotStateAfter t, counters := t.lot.counters } ∧
        (∀ g r, c = .gate g → s.pocket p = .live r → (s.bin g).present = true →
          ∃ b : Bin,
            b = { s.bin g with misses := 0, fill := min 65535 ((s.bin g).fill + 1) } ∧
            t.bin g = b ∧ (∀ g', g' ≠ g → t.bin g' = s.bin g') ∧
            t.gates.purgeMisses = s.gates.purgeMisses ∧ t.pocket p = .empty ∧
            t.faults = s.faults.afterFill g (s.bin g) b ∧
            t.check = { s.check with exposure := exposedBy s.check.exposure r.grading } ∧
            t.lot.counters =
              (if r.kind = .part ∧ s.isCurrentLot r.lot = true then
                { s.lot.counters with binned :=
                  s.lot.counters.binned.set g.val (min 4294967295 (s.lot.counters.binned[g.val] + 1)) }
              else s.lot.counters)) ∧
        (∀ g r, c = .gate g → s.pocket p = .live r → (s.bin g).present = false →
          t.bin g = { s.bin g with misses := 0, spills := min 65535 ((s.bin g).spills + 1) } ∧
          (∀ g', g' ≠ g → t.bin g' = s.bin g') ∧ t.gates.purgeMisses = s.gates.purgeMisses ∧
          t.pocket p = .empty ∧ t.check = s.check ∧
          t.faults =
            { s.faults with
              events := s.faults.events ||| 0x40#19
              pocketCapture :=
                takePocketOffer s.faults.pocketCapture
                  { kind := .spill, pocket := p, lot := r.lot, serial := r.serial,
                    station := 8 + g.val, cls := r.cls } } ∧
          t.lot.counters =
            (if r.kind = .part ∧ s.isCurrentLot r.lot = true then
              { s.lot.counters with spilled := min 4294967295 (s.lot.counters.spilled + 1) }
            else s.lot.counters)) ∧
        (∀ r, c = .checkReturn → s.pocket p = .live r →
          t.pocket p = .empty ∧ t.gates.bins = s.gates.bins ∧ t.gates.purgeMisses = s.gates.purgeMisses ∧
          t.faults = s.faults ∧ t.check = s.check ∧
          t.lot.counters =
            (if r.kind = .check ∧ s.isCurrentLot r.lot = true then
              { s.lot.counters with checkReturns := min 65535 (s.lot.counters.checkReturns + 1) }
            else s.lot.counters)) ∧
        (∀ r reason, c = .purge → sweep = false → s.pocket p = .live r →
          r.phase = .ejecting (.purge reason) →
          t.pocket p = .empty ∧ t.gates.bins = s.gates.bins ∧ t.gates.purgeMisses = 0 ∧
          t.faults = s.faults ∧ t.check = s.check ∧
          t.lot.counters =
            (if r.kind = .part ∧ s.isCurrentLot r.lot = true then
              { s.lot.counters with purged :=
                (s.lot.counters.purged.set reason.code.val
                  (min 4294967295 (s.lot.counters.purged[reason.code.val] + 1))) }
            else s.lot.counters)) ∧
        (c = .purge → sweep = true →
          t.pocket p = (if s.pocket p = .unknown then .empty else s.pocket p) ∧
          t.gates.bins = s.gates.bins ∧ t.gates.purgeMisses = 0 ∧ t.faults = s.faults ∧
          t.check = s.check ∧
          t.lot.counters =
            { s.lot.counters with swept := min 4294967295 (s.lot.counters.swept + 1) })

/-- WINDOW_TIMER_EXPIRY: nothing in IDLE (log entry 13), the end of SETTLING; in FIRED the ejection is
missed: the ejector is IDLE and leaves the busy set; at a gate the record is PURGE_PENDING with EJECT_MISS,
EJECT_MISS is raised with its capture and the bin counts a miss, blocked with GATE_BLOCKED at three; at CR
the record is CHECK_DONE again; at PG it is PURGE_PENDING as before and PURGE_BLOCKED is raised when the
count stands at three; a sweep changes no more; the dwell may end (R3, R4, R121, R125, R126, R127, R36). -/
def Obligations.WindowTimerExpiry : Prop :=
  ∀ (s : State) (c : Chute), s.lines.inReset = false →
    ((s.ejector c).state = .idle → exec (.windowTimerExpiry c) s = .next s.endDwellTest) ∧
    ((s.ejector c).state = .settling →
      exec (.windowTimerExpiry c) s = .next
        (State.endDwellTest
          { s with gates :=
            { s.gates with ejectors :=
              (s.gates.ejectors.set (chuteIndex c).val
                { s.ejector c with state := .idle, windowTimer := .stopped }) } })) ∧
    ∀ (p : Fin 24) (sweep : Bool), (s.ejector c).state = .fired p sweep →
      ∃ t, exec (.windowTimerExpiry c) s = .next t ∧
        t.ejector c = { s.ejector c with state := .idle, windowTimer := .stopped } ∧
        (∀ c', c' ≠ c → t.ejector c' = s.ejector c') ∧
        t.isBusy (.eject c) = false ∧ (∀ st, st ≠ .eject c → t.isBusy st = s.isBusy st) ∧
        (∀ q, q ≠ p → t.pocket q = s.pocket q) ∧ t.gates.settings = s.gates.settings ∧
        t.heads = s.heads ∧ t.banks = s.banks ∧ t.feed = s.feed ∧ t.link = s.link ∧ t.lines = s.lines ∧
        t.forceClass = s.forceClass ∧ t.lot = s.lot ∧ t.check = s.check ∧
        t.dial = s.dial.afterWork t.dial.busy t.anySevere ∧
        (∀ g r, c = .gate g → s.pocket p = .live r →
          t.pocket p = .live { r with phase := .purgePending .ejectMiss } ∧
          t.bin g =
            { s.bin g with
              misses := min 3 ((s.bin g).misses + 1)
              blocked := (s.bin g).blocked || decide (3 ≤ (s.bin g).misses + 1) } ∧
          (∀ g', g' ≠ g → t.bin g' = s.bin g') ∧ t.gates.purgeMisses = s.gates.purgeMisses ∧
          t.faults =
            { s.faults with
              events :=
                s.faults.events |||
                  (if 3 ≤ (s.bin g).misses + 1 then 0x4100#19 else 0x100#19)
              gateBlockedBins :=
                s.faults.gateBlockedBins |||
                  (if 3 ≤ (s.bin g).misses + 1 then 1#12 <<< g.val else 0#12)
              pocketCapture :=
                takePocketOffer s.faults.pocketCapture
                  { kind := .ejectMiss, pocket := p, lot := r.lot, serial := r.serial,
                    station := 8 + g.val, cls := r.cls } }) ∧
        (∀ r, c = .checkReturn → s.pocket p = .live r →
          t.pocket p = .live { r with phase := .checkDone } ∧ t.faults = s.faults ∧
          t.gates.bins = s.gates.bins ∧ t.gates.purgeMisses = s.gates.purgeMisses) ∧
        (∀ r reason, c = .purge → sweep = false → s.pocket p = .live r →
          r.phase = .ejecting (.purge reason) →
          t.pocket p = .live { r with phase := .purgePending reason } ∧ t.gates.bins = s.gates.bins ∧
          t.gates.purgeMisses = min 3 (s.gates.purgeMisses + 1) ∧
          t.faults =
            { s.faults with
              events :=
                s.faults.events ||| (if 3 ≤ s.gates.purgeMisses + 1 then 8#19 else 0#19) }) ∧
        (c = .purge → sweep = true →
          t.pockets = s.pockets ∧ t.gates.bins = s.gates.bins ∧
          t.gates.purgeMisses = s.gates.purgeMisses ∧ t.faults = s.faults)

/-- PULSE_TIMER_EXPIRY releases the gate output (R120).  CAN_REMOVED and CAN_INSERTED move the canister item
and its latch, and an insertion clears the fill and counts a swap (R132, R133; log entry 14).  SET_GATE and
SET_BIN clamp their fields, SET_BIN with the tests of R129 (R117, R130); STALL and UNSTALL (R131). -/
def Obligations.GateAndBinSettings : Prop :=
  (∀ (s : State) (c : Chute), s.lines.inReset = false →
    exec (.pulseTimerExpiry c) s = .next
      { s with gates :=
        { s.gates with ejectors :=
          (s.gates.ejectors.set (chuteIndex c).val
            { s.ejector c with driven := false, pulseTimer := .stopped }) } }) ∧
  (∀ (s : State) (g : Fin 12), s.lines.inReset = false →
    exec (.canRemoved g) s = .next
      { s with gates :=
        { s.gates with bins :=
          (s.gates.bins.set g.val { s.bin g with present := false, removedLatch := true }) } } ∧
    exec (.canInserted g) s = .next
      { s with gates :=
        { s.gates with bins :=
          (s.gates.bins.set g.val
            { s.bin g with
              present := true, fill := 0, swaps := (s.bin g).swaps + 1#16, insertedLatch := true }) } }) ∧
  (∀ (s u : State) (p w : Byte), s.Hands (.setGate p w) u →
    exec (.setGate p w) s = .next
      (State.answer
        { u with gates :=
          { u.gates with settings :=
            ⟨max 2 (min 20 p.toNat), max (max 2 (min 20 p.toNat)) (max 5 (min 50 w.toNat))⟩ } }
        (if 2 ≤ p.toNat ∧ p.toNat ≤ 20 ∧ 5 ≤ w.toNat ∧ w.toNat ≤ 50 ∧ p.toNat ≤ w.toNat then .ok
          else .clamped) [])) ∧
  ∀ (s u : State) (i : Byte) (g : Fin 12), i.toNat = g.val →
    (∀ cap thr : BitVec 16, s.Hands (.setBin i cap thr) u →
      ∃ b : Bin,
        b = { u.bin g with
          capacity := max 1 cap.toNat, threshold := min (max 1 cap.toNat) thr.toNat } ∧
        exec (.setBin i cap thr) s = .next
          (State.answer
            { u with
              gates := { u.gates with bins := u.gates.bins.set g.val b }
              faults := u.faults.afterFill g (u.bin g) b }
            (if 1 ≤ cap.toNat ∧ thr.toNat ≤ cap.toNat then .ok else .clamped) [])) ∧
    (s.Hands (.stall i) u →
      exec (.stall i) s = .next
        (State.answer
          { u with gates :=
            { u.gates with bins := u.gates.bins.set g.val { u.bin g with stalled := true } } } .ok [])) ∧
    (s.Hands (.unstall i) u →
      exec (.unstall i) s = .next
        (State.answer
          { u with gates :=
            { u.gates with bins :=
              (u.gates.bins.set g.val
                { u.bin g with stalled := false, blocked := false, misses := 0 }) } } .ok []))

/-- READ_BIN returns twenty bytes in the order of R134 for a bin, CR (index 12) and PG (index 13), and
clears the latches, the spill count and the noise count it has returned; an index above 13 is refused with
BAD_INDEX. -/
def Obligations.ReadBin : Prop :=
  (∀ (s u : State) (i : Byte), s.Hands (.readBin i) u → 14 ≤ i.toNat →
    exec (.readBin i) s = .next (u.answer .badIndex [])) ∧
  ∀ (s u : State) (i : Byte) (c : Chute), s.Hands (.readBin i) u → i.toNat = (chuteIndex c).val →
    ∃ b,
      exec (.readBin i) s = .next
        (State.answer
          { u with gates :=
            { u.gates with
              ejectors :=
                (u.gates.ejectors.set (chuteIndex c).val { u.ejector c with noise := 0 })
              bins :=
                match c with
                | .gate g =>
                  u.gates.bins.set g.val
                    { u.bin g with removedLatch := false, insertedLatch := false, spills := 0 }
                | _ => u.gates.bins } } .ok b) ∧
      b.length = 20 ∧ fieldAt b 0 1 = i.toNat ∧
      (∀ g, c = .gate g →
        fieldAt b 1 1 =
          (if (u.bin g).present = false then 4
          else if (u.bin g).blocked = true then 3
          else if (u.bin g).stalled = true then 2
          else if (u.bin g).capacity ≤ (u.bin g).fill then 1
          else 0) ∧
        (fieldAt b 2 1).testBit 0 = (u.bin g).present ∧ (fieldAt b 2 1).testBit 1 = (u.bin g).stalled ∧
        (fieldAt b 2 1).testBit 2 = (u.bin g).blocked ∧
        (fieldAt b 2 1).testBit 3 = (u.bin g).removedLatch ∧
        (fieldAt b 2 1).testBit 4 = (u.bin g).insertedLatch ∧
        (fieldAt b 2 1).testBit 5 = (u.bin g).nearFullNow ∧ fieldAt b 2 1 < 64 ∧
        fieldAt b 3 2 = (u.bin g).capacity % 65536 ∧ fieldAt b 5 2 = (u.bin g).threshold % 65536 ∧
        fieldAt b 7 2 = (u.bin g).fill % 65536 ∧ fieldAt b 9 1 = (u.bin g).misses % 256 ∧
        fieldAt b 10 2 = (u.bin g).swaps.toNat ∧ fieldAt b 16 2 = (u.bin g).spills % 65536) ∧
      ((∀ g, c ≠ .gate g) →
        fieldAt b 1 1 = 255 ∧ fieldAt b 2 1 = 0 ∧ fieldAt b 3 2 = 0 ∧ fieldAt b 5 2 = 0 ∧
        fieldAt b 7 2 = 0 ∧
        fieldAt b 9 1 = (if c = .purge then u.gates.purgeMisses % 256 else 0) ∧
        fieldAt b 10 2 = 0 ∧ fieldAt b 16 2 = 0) ∧
      fieldAt b 12 1 =
        (match (u.ejector c).state with
          | .idle => 0
          | .fired _ _ => 1
          | .settling => 2) ∧
      fieldAt b 13 1 =
        (match (u.ejector c).state with
          | .fired p _ => p.val
          | _ => 255) ∧
      fieldAt b 14 2 = (u.ejector c).noise % 65536 ∧
      fieldAt b 18 1 = u.gates.settings.pulseWidth % 256 ∧
      fieldAt b 19 1 = u.gates.settings.confirmWindow % 256

/-! ## The host's operations on records -/

/-- READ_POCKET is answered OK for every pocket, changes no state, and returns 29 bytes and 12 for each reading
in the order of the READ_POCKET payload of section 11.4; EMPTY and UNKNOWN have nothing present; a pocket
number above 23 is refused with BAD_INDEX (R37, R19, R20).  That the list may hold more than six readings is the model's choice, log
entry 27. -/
def Obligations.ReadPocket : Prop :=
  (∀ (s u : State) (i : Byte), s.Hands (.readPocket i) u → 24 ≤ i.toNat →
    exec (.readPocket i) s = .next (u.answer .badIndex [])) ∧
  ∀ (s u : State) (i : Byte) (p : Fin 24), s.Hands (.readPocket i) u → i.toNat = p.val →
    ∃ b, exec (.readPocket i) s = .next (u.answer .ok b) ∧
      fieldAt b 0 1 = p.val ∧ fieldAt b 1 1 = (u.dial.position.val + 24 - p.val) % 24 ∧
      (u.pocket p = .empty → b.drop 2 = List.replicate 27 0#8) ∧
      (u.pocket p = .unknown → b.drop 2 = 1#8 :: List.replicate 26 0#8) ∧
      ∀ r, u.pocket p = .live r →
        b.length = 29 + 12 * r.readings.length ∧
        fieldAt b 2 1 =
          (match r.phase with
            | .pending _ _ => 2
            | .measuring _ _ _ => 3
            | .classified => 4
            | .ejecting _ => 5
            | .purgePending _ => 6
            | .checkDone => 7) ∧
        (fieldAt b 3 2).testBit 0 = true ∧
        ((fieldAt b 3 2).testBit 1 = true ↔ ∃ hd o, r.phase = .pending hd o) ∧
        ((fieldAt b 3 2).testBit 2 = true ↔ ∃ hd o m, r.phase = .measuring hd o m) ∧
        ((fieldAt b 3 2).testBit 3 = true ↔ ∃ hd o m, r.phase = .measuring hd o (some m)) ∧
        (fieldAt b 3 2).testBit 4 = r.grading.isSome ∧ (fieldAt b 3 2).testBit 5 = r.grading.isSome ∧
        (fieldAt b 3 2).testBit 6 = r.cls.isSome ∧
        ((fieldAt b 3 2).testBit 7 = true ↔ ∃ e, r.phase = .ejecting e) ∧
        ((fieldAt b 3 2).testBit 8 = true ↔
          (∃ w, r.phase = .purgePending w) ∨ ∃ w, r.phase = .ejecting (.purge w)) ∧
        fieldAt b 3 2 < 512 ∧
        fieldAt b 5 1 =
          (match r.kind with
            | .part => 0
            | .check => 1) ∧
        fieldAt b 6 2 = r.lot % 65536 ∧ fieldAt b 8 3 = r.serial % 16777216 ∧
        fieldAt b 11 1 = r.lap % 256 ∧ fieldAt b 12 1 = r.attempts % 256 ∧
        (fieldAt b 13 1).testBit 0 = r.flags.forced ∧ (fieldAt b 13 1).testBit 1 = r.flags.recalled ∧
        (fieldAt b 13 1).testBit 2 = r.flags.recallPending ∧
        (fieldAt b 13 1).testBit 3 = r.flags.degraded ∧
        (fieldAt b 13 1).testBit 4 = r.flags.saturated ∧
        ((fieldAt b 13 1).testBit 5 = true ↔
          (∃ hd, r.phase = .pending hd true) ∨ ∃ hd m, r.phase = .measuring hd true m) ∧
        fieldAt b 13 1 < 64 ∧
        fieldAt b 14 1 =
          (match r.phase with
            | .pending .b _ => 1
            | .measuring .b _ _ => 1
            | _ => 0) ∧
        fieldAt b 15 1 =
          (match r.phase with
            | .measuring _ _ (some .abort) => 1
            | _ => 0) ∧
        fieldAt b 16 4 =
          (match r.grading with
            | some g => (BitVec.ofInt 32 g.deviation).toNat
            | none => 0) ∧
        fieldAt b 20 1 =
          (match r.grading with
            | some ⟨_, .one .a _⟩ => 1
            | some ⟨_, .one .b _⟩ => 2
            | some ⟨_, .both _ _⟩ => 3
            | none => 0) ∧
        fieldAt b 21 2 =
          (match r.grading with
            | some ⟨_, .one .a e⟩ => e.toNat
            | some ⟨_, .both e _⟩ => e.toNat
            | _ => 0) ∧
        fieldAt b 23 2 =
          (match r.grading with
            | some ⟨_, .one .b e⟩ => e.toNat
            | some ⟨_, .both _ e⟩ => e.toNat
            | _ => 0) ∧
        fieldAt b 25 1 =
          (match r.cls with
            | some k => k.val
            | none => 0) ∧
        fieldAt b 26 1 =
          (match r.phase with
            | .ejecting (.gate g) => 8 + g.val
            | .ejecting .checkReturn => 20
            | .ejecting (.purge _) => 21
            | _ => 0) ∧
        fieldAt b 27 1 =
          (match r.phase with
            | .purgePending w => w.code.val
            | .ejecting (.purge w) => w.code.val
            | _ => 0) ∧
        fieldAt b 28 1 = r.readings.length % 256 ∧
        ∀ (k : Nat) (x : Reading), r.readings[k]? = some x →
          fieldAt b (29 + 12 * k) 1 =
            (match x.head with
              | .a => 0
              | .b => 1) ∧
          (fieldAt b (30 + 12 * k) 1).testBit 0 = x.sample.isSome ∧
          (fieldAt b (30 + 12 * k) 1).testBit 1 = x.sample.isSome ∧
          (fieldAt b (30 + 12 * k) 1).testBit 2 =
            (match x.sample with
              | some v => v.saturated
              | none => false) ∧
          (fieldAt b (30 + 12 * k) 1).testBit 3 = x.doubtful ∧
          (fieldAt b (30 + 12 * k) 1).testBit 4 = x.forced ∧ fieldAt b (30 + 12 * k) 1 < 32 ∧
          (∀ v, x.sample = some v →
            fieldAt b (31 + 12 * k) 3 = v.code.toNat ∧ fieldAt b (34 + 12 * k) 1 = v.status.toNat ∧
            fieldAt b (35 + 12 * k) 4 = (BitVec.ofInt 32 v.deviation).toNat) ∧
          (x.sample = none →
            fieldAt b (31 + 12 * k) 3 = 0 ∧ fieldAt b (34 + 12 * k) 1 = 0 ∧
            fieldAt b (35 + 12 * k) 4 = 0) ∧
          fieldAt b (39 + 12 * k) 2 = x.epoch.toNat

/-- VOID_POCKET by the state of the record (R38); REROUTE_POCKET, the state before the class (R40); FORCE_CLASS,
refused when its index names a class of neither bank (R102). -/
def Obligations.VoidRerouteAndForce : Prop :=
  (∀ (s u : State) (i : Byte) (p : Fin 24), s.Hands (.voidPocket i) u → i.toNat = p.val →
    (u.pocket p = .empty → exec (.voidPocket i) s = .next (u.answer .notLive [])) ∧
    (u.pocket p = .unknown → exec (.voidPocket i) s = .next (u.answer .ok [])) ∧
    ∀ r, u.pocket p = .live r →
      ((∃ e, r.phase = .ejecting e) → exec (.voidPocket i) s = .next (u.answer .inFlight [])) ∧
      (∀ hd o m, r.phase = .measuring hd o m →
        exec (.voidPocket i) s = .next
          (State.answer
            { u with pockets :=
              (u.pockets.set p.val (.live { r with phase := .measuring hd o (some .voided) })) } .ok [])) ∧
      (((∃ hd o, r.phase = .pending hd o) ∨ r.phase = .classified ∨ (∃ w, r.phase = .purgePending w) ∨
          r.phase = .checkDone) →
        exec (.voidPocket i) s = .next
          (State.answer
            { u with pockets :=
              (u.pockets.set p.val (.live { r with phase := .purgePending .voided })) } .ok []))) ∧
  (∀ (s u : State) (i k : Byte) (p : Fin 24), s.Hands (.reroutePocket i k) u → i.toNat = p.val →
    ((∀ r, u.pocket p = .live r → r.phase ≠ .classified) →
      exec (.reroutePocket i k) s = .next (u.answer .refusedState [])) ∧
    ∀ r, u.pocket p = .live r → r.phase = .classified →
      (∀ (c : Fin 12) (d : ClassDef), k.toNat = c.val → u.banks.active.cls c = some d →
        exec (.reroutePocket i k) s = .next
          (State.answer
            { u with pockets :=
              (u.pockets.set p.val
                (.live { r with cls := some c, flags := { r.flags with forced := true } })) } .ok [])) ∧
      ((∀ c : Fin 12, k.toNat = c.val → u.banks.active.cls c = none) →
        exec (.reroutePocket i k) s = .next (u.answer .badIndex []))) ∧
  ∀ (s u : State) (k : Byte), s.Hands (.forceClass k) u →
    (∀ c : Fin 12, k.toNat = c.val →
      (u.banks.pending.cls c ≠ none ∨ u.banks.active.cls c ≠ none) →
      exec (.forceClass k) s = .next (State.answer { u with forceClass := some c } .ok [])) ∧
    ((∀ c : Fin 12, k.toNat = c.val → u.banks.pending.cls c = none ∧ u.banks.active.cls c = none) →
      exec (.forceClass k) s = .next (u.answer .badIndex []))

/-! ## Recipes and lots -/

/-- The editing commands write the PENDING bank alone, in any lot state, with each numeric field brought to the
nearer end of its range and the answer CLAMPED when one was; COPY_ACTIVE copies ACTIVE over PENDING
(R150, R151, R152, R153). -/
def Obligations.RecipeEditing : Prop :=
  (∀ (s u : State) (m : BitVec 16) (e : Byte), s.Hands (.setNominal m e) u →
    exec (.setNominal m e) s = .next
      (State.answer
        { u with banks :=
          { u.banks with pending :=
            { u.banks.pending with
              mantissa := max 1000 (min 9999 m.toNat), exponent := max (-3) (min 3 e.toInt) } } }
        (if 1000 ≤ m.toNat ∧ m.toNat ≤ 9999 ∧ -3 ≤ e.toInt ∧ e.toInt ≤ 3 then .ok else .clamped) [])) ∧
  (∀ (s u : State) (m ap : Byte) (l : BitVec 16), s.Hands (.setMeasure m ap l) u →
    (∀ mode : MeasureMode, m.toNat = (match mode with | .singleA => 0 | .singleB => 1 | .confirm => 2) →
      exec (.setMeasure m ap l) s = .next
        (State.answer
          { u with banks :=
            { u.banks with pending :=
              { u.banks.pending with
                mode := mode, aperture := ⟨min ap.toNat 3, by omega⟩
                agreeLimit := max 1 (min 10000 l.toNat) } } }
          (if ap.toNat ≤ 3 ∧ 1 ≤ l.toNat ∧ l.toNat ≤ 10000 then .ok else .clamped) [])) ∧
    (3 ≤ m.toNat → exec (.setMeasure m ap l) s = .next (u.answer .badIndex []))) ∧
  (∀ (s u : State) (d rt s1 s2 l : Byte), s.Hands (.setRetest d rt s1 s2 l) u →
    (∀ p1 p2 : Policy, s1.toNat = (match p1 with | .same => 0 | .alternate => 1) →
      s2.toNat = (match p2 with | .same => 0 | .alternate => 1) →
      exec (.setRetest d rt s1 s2 l) s = .next
        (State.answer
          { u with banks :=
            { u.banks with pending :=
              { u.banks.pending with
                doubtMask := d &&& 0x3E#8, retestLimit := min 2 rt.toNat, slot1 := p1, slot2 := p2
                lapLimit := max 1 (min 3 l.toNat) } } }
          (if rt.toNat ≤ 2 ∧ 1 ≤ l.toNat ∧ l.toNat ≤ 3 then .ok else .clamped) [])) ∧
    ((2 ≤ s1.toNat ∨ 2 ≤ s2.toNat) →
      exec (.setRetest d rt s1 s2 l) s = .next (u.answer .badIndex []))) ∧
  (∀ (s u : State) (i : Byte) (lo hi : BitVec 32) (g : BitVec 16) (p o c : Byte),
    s.Hands (.setClass i lo hi g p o c) u →
    (∀ (k pr : Fin 12) (ov : Option (Fin 12)), i.toNat = k.val → p.toNat = pr.val →
      o.toNat = (match ov with | some x => x.val | none => 255) →
      exec (.setClass i lo hi g p o c) s = .next
        (State.answer
          { u with banks :=
            { u.banks with pending :=
              { u.banks.pending with classes :=
                (u.banks.pending.classes.set k.val
                  (some
                    { lo := max (-999999) (min 999999 lo.toInt)
                      hi := max (-999999) (min 999999 hi.toInt)
                      guardBand := min 50000 g.toNat, primary := pr, overflow := ov
                      catchAll := decide (c.toNat ≠ 0) })) } } }
          (if -999999 ≤ lo.toInt ∧ lo.toInt ≤ 999999 ∧ -999999 ≤ hi.toInt ∧ hi.toInt ≤ 999999 ∧
              g.toNat ≤ 50000 then .ok else .clamped) [])) ∧
    ((12 ≤ i.toNat ∨ 12 ≤ p.toNat ∨ (12 ≤ o.toNat ∧ o.toNat ≠ 255)) →
      exec (.setClass i lo hi g p o c) s = .next (u.answer .badIndex []))) ∧
  (∀ s u : State, s.Hands .clearClasses u →
    exec .clearClasses s = .next
      (State.answer
        { u with banks :=
          { u.banks with pending := { u.banks.pending with classes := Vector.replicate 12 none } } }
        .ok [])) ∧
  (∀ (s u : State) (k : BitVec 16) (c : BitVec 32) (d : BitVec 16), s.Hands (.setCheck k c d) u →
    exec (.setCheck k c d) s = .next
      (State.answer
        { u with banks :=
          { u.banks with pending :=
            { u.banks.pending with
              checkInterval := if k.toNat = 0 then 0 else max 20 (min 5000 k.toNat)
              certified := max (-999999) (min 999999 c.toInt)
              driftLimit := max 1 (min 10000 d.toNat) } } }
        (if (k.toNat = 0 ∨ (20 ≤ k.toNat ∧ k.toNat ≤ 5000)) ∧ -999999 ≤ c.toInt ∧ c.toInt ≤ 999999 ∧
            1 ≤ d.toNat ∧ d.toNat ≤ 10000 then .ok else .clamped) [])) ∧
  ∀ s u : State, s.Hands .copyActive u →
    exec .copyActive s = .next
      (State.answer { u with banks := { u.banks with pending := u.banks.active } } .ok [])

/-- READ_RECIPE returns 179 bytes in the order of R153, for bank 0 PENDING and bank 1 ACTIVE; READ_LOT
returns 134 bytes in the order of R165.  Neither changes any state. -/
def Obligations.ReadRecipeAndLot : Prop :=
  (∀ (s u : State) (i : Byte), s.Hands (.readRecipe i) u → i.toNat ≤ 1 →
    ∃ (b : List Byte) (r : Recipe), r = (if i.toNat = 0 then u.banks.pending else u.banks.active) ∧
      exec (.readRecipe i) s = .next (u.answer .ok b) ∧ b.length = 179 ∧
      fieldAt b 0 1 = i.toNat ∧ fieldAt b 1 2 = r.mantissa % 65536 ∧
      fieldAt b 3 1 = (BitVec.ofInt 8 r.exponent).toNat ∧
      fieldAt b 4 1 =
        (match r.mode with
          | .singleA => 0
          | .singleB => 1
          | .confirm => 2) ∧
      fieldAt b 5 1 = r.aperture.val ∧ fieldAt b 6 2 = r.agreeLimit % 65536 ∧
      fieldAt b 8 1 = r.doubtMask.toNat ∧ fieldAt b 9 1 = r.retestLimit % 256 ∧
      fieldAt b 10 1 =
        (match r.slot1 with
          | .same => 0
          | .alternate => 1) ∧
      fieldAt b 11 1 =
        (match r.slot2 with
          | .same => 0
          | .alternate => 1) ∧
      fieldAt b 12 1 = r.lapLimit % 256 ∧ fieldAt b 13 2 = r.checkInterval % 65536 ∧
      fieldAt b 15 4 = (BitVec.ofInt 32 r.certified).toNat ∧ fieldAt b 19 2 = r.driftLimit % 65536 ∧
      (∀ k : Fin 12, (fieldAt b 21 2).testBit k.val = (r.cls k).isSome) ∧ fieldAt b 21 2 < 4096 ∧
      ∀ k : Fin 12,
        (r.cls k = none → (b.drop (23 + 13 * k.val)).take 13 = List.replicate 13 0#8) ∧
        ∀ d, r.cls k = some d →
          fieldAt b (23 + 13 * k.val) 4 = (BitVec.ofInt 32 d.lo).toNat ∧
          fieldAt b (27 + 13 * k.val) 4 = (BitVec.ofInt 32 d.hi).toNat ∧
          fieldAt b (31 + 13 * k.val) 2 = d.guardBand % 65536 ∧
          fieldAt b (33 + 13 * k.val) 1 = d.primary.val ∧
          fieldAt b (34 + 13 * k.val) 1 =
            (match d.overflow with
              | some o => o.val
              | none => 255) ∧
          fieldAt b (35 + 13 * k.val) 1 = (if d.catchAll = true then 1 else 0)) ∧
  ∀ s u : State, s.Hands .readLot u →
    ∃ b, exec .readLot s = .next (u.answer .ok b) ∧ b.length = 134 ∧
      fieldAt b 0 1 =
        (match u.lot.state with
          | .noLot => 0
          | .open_ => 1
          | .draining => 2) ∧
      fieldAt b 1 2 = u.lot.number % 65536 ∧
      fieldAt b 3 1 = (if u.check.due = true then 1 else 0) ∧ fieldAt b 4 2 = u.check.counter % 65536 ∧
      fieldAt b 6 4 = u.lot.counters.loaded % 4294967296 ∧
      fieldAt b 10 2 = u.lot.counters.checkLoads % 65536 ∧
      fieldAt b 12 2 = u.lot.counters.checkReturns % 65536 ∧
      (∀ g : Fin 12, fieldAt b (14 + 4 * g.val) 4 = u.lot.counters.binned[g.val] % 4294967296) ∧
      fieldAt b 62 4 = u.lot.counters.spilled % 4294967296 ∧
      (∀ k : Fin 8, fieldAt b (66 + 4 * k.val) 4 = u.lot.counters.purged[k.val] % 4294967296) ∧
      fieldAt b 98 4 = u.lot.counters.lost % 4294967296 ∧
      fieldAt b 102 4 = u.lot.counters.abandoned % 4294967296 ∧
      fieldAt b 106 4 = u.lot.counters.recalled % 4294967296 ∧
      fieldAt b 110 4 = u.lot.counters.retests % 4294967296 ∧
      fieldAt b 114 4 = u.lot.counters.passedUnsorted % 4294967296 ∧
      fieldAt b 118 4 = u.lot.counters.swept % 4294967296 ∧
      fieldAt b 122 2 = u.check.exposure.a % 65536 ∧ fieldAt b 124 2 = u.check.exposure.b % 65536 ∧
      fieldAt b 126 4 = (BitVec.ofInt 32 u.check.lastDrift.a).toNat ∧
      fieldAt b 130 4 = (BitVec.ofInt 32 u.check.lastDrift.b).toNat

/-- LOT_OPEN: refused in a lot, with a record that is not drained, or with a PURGE_PENDING record of the coming
lot number, and then by the validation with its item and subject (R156, R157); else the opening, with the
PENDING bank copied over ACTIVE, heads that do not reach its range OUT, the one-shots cleared, the check
unit started again, the laps lowered, and a new lot number with every counter 0 (R158).  Nothing changes the
ACTIVE bank but LOT_OPEN, as a row or as the frame of a write, and the power-on reset (R155). -/
def Obligations.LotOpening : Prop :=
  (∀ s u : State, s.Hands .lotOpen u →
    (u.lot.state ≠ .noLot → exec .lotOpen s = .next (u.answer .refusedState [])) ∧
    (u.lot.state = .noLot →
      (∃ p r, u.pocket p = .live r ∧ ((∀ w, r.phase ≠ .purgePending w) ∨
        r.lot = if u.lot.number = 65535 then 1 else u.lot.number + 1)) →
      exec .lotOpen s = .next (u.answer .notDrained [])) ∧
    (u.lot.state = .noLot →
      (∀ p r, u.pocket p = .live r → (∃ w, r.phase = .purgePending w) ∧
        r.lot ≠ if u.lot.number = 65535 then 1 else u.lot.number + 1) →
      (∀ item n, u.validate = some (item, n) →
        exec .lotOpen s = .next (u.answer .invalidRecipe [BitVec.ofNat 8 item.code, BitVec.ofNat 8 n])) ∧
      (u.validate = none →
        ∃ t, exec .lotOpen s = .next t ∧
          t.banks = ⟨u.banks.pending, u.banks.pending⟩ ∧ t.forceClass = none ∧
          t.check = { u.check with counter := 0, due := false } ∧
          t.lot =
            { state := .open_, number := if u.lot.number = 65535 then 1 else u.lot.number + 1
              counters := LotCounters.zero } ∧
          (∀ h, t.head h =
            { u.head h with
              forceDoubt := false
              state :=
                if (u.head h).state.inService && !(u.head h).reaches u.banks.pending.range then
                  .out .incapable
                else (u.head h).state }) ∧
          (∀ p, (∀ r, u.pocket p ≠ .live r) → t.pocket p = u.pocket p) ∧
          (∀ p r, u.pocket p = .live r →
            t.pocket p = .live { r with lap := min r.lap u.banks.pending.lapLimit }) ∧
          t.dial = u.dial ∧ t.feed = u.feed ∧ t.gates = u.gates ∧ t.faults = u.faults ∧
          t.lines = u.lines ∧ t.link = { u.link with state := .response ⟨.ok, []⟩ }))) ∧
  ∀ (i : Instr) (s t : State), exec i s = .next t → t.banks.active ≠ s.banks.active →
    ((i = .lotOpen ∨ riseOf i = some [0x20#8, 0x00#8]) ∧ t.banks.active = s.banks.pending) ∨
      ∃ e c, i = .powerOnReset e c

/-- The validation gives nothing exactly when no item fails; else it gives the first item of the table that
fails, with that item's subject (R157; log entry 9 for the subject of CATCHALL_PLACE, log entry 25 for that of
GATE_SHARED with several clashing pairs). -/
def Obligations.ValidationGivesTheFirstFailure : Prop :=
  (∀ s : State, s.validate = none ↔ ∀ item, ¬s.itemFails item) ∧
  ∀ (s : State) (item : Item) (n : Nat),
    s.validate = some (item, n) ↔
      s.itemFails item ∧ s.itemSubject item n ∧ ∀ j : Item, j.code < item.code → ¬s.itemFails j

/-- LOT_CLOSE in OPEN makes the lot DRAINING; LOT_ABORT in OPEN and DRAINING also purges or marks every record
that is not EJECTING and marks a feed in flight; then a drain may end and NO_HEAD may have cleared; both are
refused in every other lot state (R159, R160, R31, R162).  REQUEST_CHECK sets check-due in OPEN, and is
refused otherwise (R138). -/
def Obligations.LotCloseAbortAndCheckRequest : Prop :=
  (∀ s u : State, s.Hands .lotClose u →
    exec .lotClose s = .next
      (if u.lot.state = .open_ then
        ((State.drainTest { u with lot := { u.lot with state := .draining } }).reportSevere u).answer .ok []
      else u.answer .refusedState [])) ∧
  (∀ s u : State, s.Hands .lotAbort u →
    (u.lot.state = .noLot → exec .lotAbort s = .next (u.answer .refusedState [])) ∧
    (u.lot.state ≠ .noLot →
      ∃ v : State,
        (∀ p, (∀ r, u.pocket p ≠ .live r) → v.pocket p = u.pocket p) ∧
        (∀ p r, u.pocket p = .live r →
          (∀ e, r.phase = .ejecting e → v.pocket p = .live r) ∧
          (∀ hd o m, r.phase = .measuring hd o m →
            v.pocket p = .live { r with phase := .measuring hd o (some .abort) }) ∧
          (((∃ hd o, r.phase = .pending hd o) ∨ r.phase = .classified ∨ (∃ w, r.phase = .purgePending w) ∨
              r.phase = .checkDone) →
            v.pocket p = .live { r with phase := .purgePending .abort })) ∧
        v =
          { u with
            pockets := v.pockets
            feed :=
              { u.feed with inFlight :=
                match u.feed.inFlight with
                | some f => some { f with aborted := true }
                | none => none }
            lot := { u.lot with state := .draining } } ∧
        exec .lotAbort s = .next ((v.drainTest.reportSevere u).answer .ok []))) ∧
  ∀ s u : State, s.Hands .requestCheck u →
    exec .requestCheck s = .next
      (if u.lot.state = .open_ then State.answer { u with check := { u.check with due := true } } .ok []
      else u.answer .refusedState [])

/-! ## Faults and captures -/

/-- READ_FAULTS returns seventeen bytes in the order of R172.  ACK_FAULTS clears the event flags it names, with
their sets, and the PG-miss count when it names PURGE_BLOCKED, and makes the test of R5 when the last severe
flag has cleared (R168, R167).  SET_ATTN_MASK writes the thirteen enables (R171).  READ_CAPTURE and
ACK_CAPTURE (R170); that a filled head capture with no drift sends 0 in the drift bytes is the model's choice,
log entry 26; an offer fills a capture that is empty or of lower rank (R169). -/
def Obligations.FaultCommands : Prop :=
  (∀ s u : State, s.Hands .readFaults u →
    ∃ b, exec .readFaults s = .next (u.answer .ok b) ∧ b.length = 17 ∧
      fieldAt b 0 4 = u.flags.toNat ∧ fieldAt b 4 4 = u.faults.attnMask.toNat ∧
      fieldAt b 8 2 = u.faults.gateBlockedBins.toNat ∧ fieldAt b 10 2 = u.faults.nearFullBins.toNat ∧
      fieldAt b 12 2 = u.faults.fullBins.toNat ∧ fieldAt b 14 2 = u.faults.unsortedClasses.toNat ∧
      (fieldAt b 16 1).testBit 0 = u.holdLine ∧ (fieldAt b 16 1).testBit 1 = u.attnLine ∧
      (fieldAt b 16 1).testBit 2 = u.dial.hostHold ∧
      (fieldAt b 16 1).testBit 3 = u.faults.pocketCapture.isSome ∧
      (fieldAt b 16 1).testBit 4 = u.faults.headCapture.isSome ∧ fieldAt b 16 1 < 32) ∧
  (∀ (s u : State) (x : BitVec 32), s.Hands (.ackFaults x) u →
    ∃ v : State,
      v =
        { u with
          faults :=
            { u.faults with
              events := u.faults.events &&& ~~~(x.setWidth 19)
              gateBlockedBins := if x.getLsbD 14 = true then 0#12 else u.faults.gateBlockedBins
              nearFullBins := if x.getLsbD 15 = true then 0#12 else u.faults.nearFullBins
              fullBins := if x.getLsbD 16 = true then 0#12 else u.faults.fullBins
              unsortedClasses := if x.getLsbD 17 = true then 0#12 else u.faults.unsortedClasses }
          gates :=
            if x.getLsbD 3 = true then { u.gates with purgeMisses := 0 } else u.gates } ∧
      exec (.ackFaults x) s = .next ((v.reportSevere u).answer .ok [])) ∧
  (∀ (s u : State) (x : BitVec 32), s.Hands (.setAttnMask x) u →
    exec (.setAttnMask x) s = .next
      (State.answer
        { u with faults := { u.faults with attnMask := x.setWidth 19 &&& 0x7FFC0#19 } } .ok [])) ∧
  (∀ (s u : State) (i : Byte), s.Hands (.readCapture i) u →
    (i.toNat = 0 → ∃ b, exec (.readCapture i) s = .next (u.answer .ok b) ∧ b.length = 11 ∧
      fieldAt b 0 1 = 0 ∧
      (u.faults.pocketCapture = none → b.drop 1 = [0#8, 0xFF#8] ++ List.replicate 8 0#8) ∧
      ∀ c, u.faults.pocketCapture = some c →
        fieldAt b 1 1 = 1 ∧ fieldAt b 2 1 = c.kind.flag.number ∧ fieldAt b 3 1 = c.pocket.val ∧
        fieldAt b 4 2 = c.lot % 65536 ∧ fieldAt b 6 3 = c.serial % 16777216 ∧
        fieldAt b 9 1 = c.station % 256 ∧
        fieldAt b 10 1 =
          (match c.cls with
            | some k => k.val
            | none => 255)) ∧
    (i.toNat = 1 → ∃ b, exec (.readCapture i) s = .next (u.answer .ok b) ∧ b.length = 13 ∧
      fieldAt b 0 1 = 1 ∧
      (u.faults.headCapture = none → b.drop 1 = [0#8, 0xFF#8] ++ List.replicate 10 0#8) ∧
      ∀ c, u.faults.headCapture = some c →
        fieldAt b 1 1 = 1 ∧ fieldAt b 2 1 = c.kind.flag.number ∧
        fieldAt b 3 1 =
          (match c.head with
            | .a => 0
            | .b => 1) ∧
        fieldAt b 4 2 = c.epoch.toNat ∧ fieldAt b 6 2 = c.exposure % 65536 ∧
        fieldAt b 8 1 = (if c.drift = none then 0 else 1) ∧
        fieldAt b 9 4 =
          (match c.drift with
            | some d => (BitVec.ofInt 32 d).toNat
            | none => 0))) ∧
  (∀ (s u : State) (i : Byte), s.Hands (.ackCapture i) u →
    (i.toNat = 0 →
      exec (.ackCapture i) s = .next
        (State.answer { u with faults := { u.faults with pocketCapture := none } } .ok [])) ∧
    (i.toNat = 1 →
      exec (.ackCapture i) s = .next
        (State.answer { u with faults := { u.faults with headCapture := none } } .ok []))) ∧
  (∀ offer : PocketCapture,
    takePocketOffer none offer = some offer ∧
    ∀ held : PocketCapture,
      takePocketOffer (some held) offer =
        some (if (held.kind = .ejectMiss ∧ offer.kind ≠ .ejectMiss) ∨
            (held.kind = .lostPart ∧ (offer.kind = .spill ∨ offer.kind = .strayPart)) ∨
            (held.kind = .spill ∧ offer.kind = .strayPart) then offer else held)) ∧
  ∀ offer : HeadCapture,
    takeHeadOffer none offer = some offer ∧
    ∀ held : HeadCapture,
      takeHeadOffer (some held) offer =
        some (if (held.kind = .substituted ∧ offer.kind ≠ .substituted) ∨
            (held.kind = .lost ∧ offer.kind = .drift) then offer else held)

/-- RESET_SORT is refused with the dial in DWELL, HELD or MOVING; in IDLE, ESTOPPED and JAMMED every block takes
its soft reset: settings, banks, positions, epochs and counters kept, records that are not EJECTING purged
with RESET, holds, one-shots, miss counts, event flags, sets and captures cleared, the lot ended (R17, R42,
R135, R173). -/
def Obligations.ResetSort : Prop :=
  ∀ s u : State, s.Hands .resetSort u →
    ((u.dial.state = .dwell ∨ u.dial.state = .held ∨ u.dial.state = .moving) →
      exec .resetSort s = .next (u.answer .refusedState [])) ∧
    ((u.dial.state = .idle ∨ u.dial.state = .estopped ∨ u.dial.state = .jammed) →
      ∃ t, exec .resetSort s = .next t ∧
        t.dial =
          { u.dial with
            state := if u.dial.state = .jammed then .idle else u.dial.state
            hostHold := false, stopPending := false } ∧
        (∀ p, (∀ r, u.pocket p ≠ .live r) → t.pocket p = u.pocket p) ∧
        (∀ p r, u.pocket p = .live r →
          ((∃ e, r.phase = .ejecting e) → t.pocket p = .live r) ∧
          ((∀ e, r.phase ≠ .ejecting e) →
            t.pocket p = .live { r with phase := .purgePending .reset })) ∧
        t.feed =
          { u.feed with
            misses := 0, checkMisses := 0
            inFlight :=
              match u.feed.inFlight with
              | some f => some { f with reset := true }
              | none => none } ∧
        (∀ h, t.head h = { u.head h with forceDoubt := false }) ∧ t.forceClass = none ∧
        t.check = { u.check with counter := 0, due := false } ∧
        (∀ g, t.bin g = { u.bin g with misses := 0 }) ∧ t.gates.ejectors = u.gates.ejectors ∧
        t.gates.settings = u.gates.settings ∧ t.gates.purgeMisses = 0 ∧ t.banks = u.banks ∧
        t.lot = { u.lot with state := .noLot } ∧
        t.faults =
          { events := 0#19, gateBlockedBins := 0#12, nearFullBins := 0#12, fullBins := 0#12,
            unsortedClasses := 0#12, pocketCapture := none, headCapture := none,
            attnMask := u.faults.attnMask } ∧
        t.lines = u.lines ∧ t.link = { u.link with state := .response ⟨.ok, []⟩ })

/-! ## The command link -/

/-- The transactions: the fall of CS_N takes the link state and shifts out its byte; at the rise, fewer than two
bytes change nothing, two or more in READY are tested, and answered, or taken and handed in the same moment to
the block, whose act is that of the command's row (R176; log entry 7 for the answer kept in BUSY); any in BUSY
are discarded, also when the response came before the rise, which stays in the slot (R177); in RESPONSE a whole
read empties the slot (R178).  While RESET_N is asserted, and in a transaction begun then, nothing is shifted
in or out (R174).  The four rows are one event (log entry 6); the level of POCKET_SENSE that a written START
samples is free (log entry 12). -/
def Obligations.LinkTransactions : Prop :=
  (∀ s : State,
    (s.lines.inReset = false → s.link.transaction = .idle →
      exec .transactionBegin s = .next
        { s with link :=
          { s.link with
            transaction := .taken s.link.state.phase
            shiftedOut :=
              [match s.link.state with
                | .ready => 0xA0#8
                | .busy _ _ => 0xA1#8
                | .response _ => 0xA2#8] } }) ∧
    (s.lines.inReset = true → s.link.transaction = .idle →
      exec .transactionBegin s = .next
        { s with link := { s.link with transaction := .notTaken, shiftedOut := [] } }) ∧
    (s.link.transaction ≠ .idle → exec .transactionBegin s = .next s)) ∧
  (∀ (s : State) (b : List Byte),
    exec (.poll b) s = exec (.writeTransaction b) s ∧
    exec (.discard b) s = exec (.writeTransaction b) s ∧
    exec (.readTransaction b) s = exec (.writeTransaction b) s) ∧
  (∀ (s : State) (b : List Byte), (s.lines.inReset = true ∨ s.link.transaction = .notTaken) →
    exec (.writeTransaction b) s = .next
      { s with link := { s.link with transaction := .idle, shiftedOut := [] } }) ∧
  (∀ (s : State) (b : List Byte), s.lines.inReset = false → s.link.state = .ready →
    (s.link.transaction = .taken .ready ∨ s.link.transaction = .idle) →
    ∃ ended : Link,
      ended =
        { s.link with
          transaction := .idle
          shiftedOut := if b.length = 0 then [] else 0xA0#8 :: List.replicate (b.length - 1) 0#8 } ∧
      (b.length < 2 → exec (.poll b) s = .next { s with link := ended }) ∧
      ∀ code len payload, b = code :: len :: payload →
        ((40 < len.toNat ∨ payload.length ≠ len.toNat) →
          exec (.writeTransaction b) s = .next
            { s with link := { ended with state := .response ⟨.badLength, []⟩ } }) ∧
        (len.toNat ≤ 40 → payload.length = len.toNat → requestLength code = none →
          exec (.writeTransaction b) s = .next
            { s with link := { ended with state := .response ⟨.unknownCommand, []⟩ } }) ∧
        (∀ n, len.toNat ≤ 40 → payload.length = len.toNat → requestLength code = some n →
          len.toNat ≠ n →
          exec (.writeTransaction b) s = .next
            { s with link := { ended with state := .response ⟨.badLength, []⟩ } }) ∧
        (payload.length = len.toNat → requestLength code = some len.toNat →
          ∃ i t r, decodeFrame (Config.pocketSenseAtWrite s.link.writes) ⟨code, payload⟩ = some i ∧
            exec i s = .next t ∧ t.link.state = .response r ∧
            exec (.writeTransaction b) s = .next
              { t with link :=
                { ended with state := .busy ⟨code, payload⟩ r, writes := s.link.writes + 1 } })) ∧
  (∀ (s : State) (b : List Byte), s.lines.inReset = false →
    ∃ ended : Link,
      ended =
        { s.link with
          transaction := .idle
          shiftedOut := if b.length = 0 then [] else 0xA1#8 :: List.replicate (b.length - 1) 0#8 } ∧
      (∀ f r, s.link.state = .busy f r →
        (s.link.transaction = .taken .busy ∨ s.link.transaction = .idle) →
        exec (.discard b) s = .next { s with link := ended }) ∧
      ∀ r, s.link.state = .response r → s.link.transaction = .taken .busy →
        exec (.discard b) s = .next { s with link := ended }) ∧
  ∀ (s : State) (b : List Byte) (r : Response), s.lines.inReset = false →
    s.link.state = .response r →
    (s.link.transaction = .taken .response ∨ s.link.transaction = .idle) →
    exec (.readTransaction b) s = .next
      { s with link :=
        { s.link with
          state := if 3 + r.payload.length ≤ b.length then .ready else .response r
          transaction := .idle
          shiftedOut :=
            ((0xA2#8 :: r.status.byte :: BitVec.ofNat 8 r.payload.length :: r.payload) ++
              List.replicate b.length 0#8).take b.length } }

/-- Which command rows the part takes (the model's reading, log entry 7): in READY any command, with the write
that carries it, its block's act and its answer; in BUSY the command in the slot, whose block has acted when
it was handed the frame, so that the row is the return of its answer and nothing else; a command written in
RESPONSE, in BUSY, or outside a write is lost.  Writing a command's frame in READY does at once what the row
does but for the answer, and the row in BUSY then returns that (R174, R175, R176, R177); a START row with the
level of POCKET_SENSE that stands at the write, which is free (log entry 12). -/
def Obligations.CommandsAreTakenOrLost : Prop :=
  (∀ (i : Instr) (f : Frame) (s : State), frameOf i = some f → s.lines.inReset = false →
    (∀ r, s.link.state = .busy f r →
      exec i s = .next { s with link := { s.link with state := .response r } }) ∧
    (s.link.state = .ready → (s.link.transaction = .idle ∨ s.link.transaction = .taken .ready) →
      s.Hands i
        { s with link :=
          { s.link with
            transaction := .idle
            shiftedOut := 0xA0#8 :: List.replicate (f.payload.length + 1) 0#8
            writes := s.link.writes + 1 } }) ∧
    (((∃ r, s.link.state = .response r) ∨ (∃ f' r, f' ≠ f ∧ s.link.state = .busy f' r) ∨
        (s.link.state = .ready ∧ (s.link.transaction = .notTaken ∨ s.link.transaction = .taken .busy ∨
          s.link.transaction = .taken .response))) →
      exec i s = .next s)) ∧
  ∀ (i : Instr) (f : Frame) (s : State), frameOf i = some f →
    (∀ sense, i = .start sense → sense = Config.pocketSenseAtWrite s.link.writes) →
    s.lines.inReset = false → s.link.state = .ready →
    (s.link.transaction = .idle ∨ s.link.transaction = .taken .ready) →
    ∃ t r w, exec i s = .next t ∧ t.link.state = .response r ∧
      w = { t with link := { t.link with state := .busy f r } } ∧
      exec (.writeTransaction f.bytes) s = .next w ∧ exec i w = .next t

/-- A command answered with anything but OK and CLAMPED has had no effect but its answer (R179).  An index out
of its range is refused with BAD_INDEX, whatever the state (R37, R38, R40, R48, R130, R131, R134, R153,
R170). -/
def Obligations.RefusedCommandsLeaveTheState : Prop :=
  (∀ (i : Instr) (s u t : State) (status : Status) (payload : List Byte), s.Hands i u →
    exec i s = .next t → t.link.state = .response ⟨status, payload⟩ → status ≠ .ok →
    status ≠ .clamped → t = u.answer status payload) ∧
  ∀ (s u : State) (i : Byte) (c : Instr), s.Hands c u →
    ((2 ≤ i.toNat ∧
        (c = .headEnable i ∨ c = .headDisable i ∨ (∃ sel, c = .setHead i sel) ∨
          (∃ range offset gain, c = .setHeadCal i range offset gain) ∨ c = .readHead i ∨
          c = .readHeadStats i ∨ c = .forceDoubt i ∨ c = .readRecipe i ∨ c = .readCapture i ∨
          c = .ackCapture i)) ∨
      (12 ≤ i.toNat ∧ ((∃ cap thr, c = .setBin i cap thr) ∨ c = .stall i ∨ c = .unstall i)) ∨
      (14 ≤ i.toNat ∧ c = .readBin i) ∨
      (24 ≤ i.toNat ∧ (c = .readPocket i ∨ c = .voidPocket i ∨ ∃ k, c = .reroutePocket i k))) →
    exec c s = .next (u.answer .badIndex [])

/-- Every command's frame passes the tests of R176 and reads back as the command, a frame that reads as a
command is that command's frame, and whatever passes the tests reads as a command (spec 11, command
codes). -/
def Obligations.FrameRoundTrip : Prop :=
  (∀ (i : Instr) (f : Frame), frameOf i = some f →
    (∃ sense, decodeFrame sense f = some i) ∧ testFrame f.bytes = .ok f) ∧
  (∀ (sense : Bool) (f : Frame) (i : Instr), decodeFrame sense f = some i → frameOf i = some f) ∧
  ∀ (sense : Bool) (b : List Byte) (f : Frame), testFrame b = .ok f →
    b = f.bytes ∧ ∃ i, decodeFrame sense f = some i

/-! ## What every step keeps -/

/-- Every step keeps every setting of the blocks within its range, and every count and last drift of the blocks
within its own, the check counter below K while check-due is clear (R15, R32, R60, R61, R66, R97, R114, R116,
R136, R137, R149, R163, R171). -/
def Obligations.SettingsAndCountsStayInRange : Prop :=
  ∀ s t : State, s.SettingsInRange → s.CountsInRange → step s = .next t →
    t.SettingsInRange ∧ t.CountsInRange

/-- Every step keeps the blocks agreed on the work in flight, and never leaves a dwell that is over in DWELL
(R3, R4, R5, R8, R36, R44, R53, R119). -/
def Obligations.BlocksStayCoherent : Prop :=
  ∀ s t : State, s.Coherent → s.dwellOver = false → step s = .next t →
    t.Coherent ∧ t.dwellOver = false

/-- In a part whose blocks agree, every step keeps each lap within the ACTIVE lap limit, below it until the
record is purged (R27, R158), and each stored deviation within its range (R75). -/
def Obligations.RecordsStayInBounds : Prop :=
  ∀ s t : State, s.Coherent → s.SettingsInRange → s.LapsBounded → s.DeviationsInRange →
    step s = .next t → t.LapsBounded ∧ t.DeviationsInRange

/-- The balance of a lot: loaded equals the retirements plus the live parts of the lot, at every step
(R163, R164). -/
def Obligations.LotStaysBalanced : Prop :=
  ∀ s t : State, s.Coherent → s.Balanced → step s = .next t → t.Balanced

/-- The conditions that every step keeps hold right after the reset. -/
def Obligations.InvariantsHoldAtReset : Prop :=
  State.reset.SettingsInRange ∧ State.reset.CountsInRange ∧ State.reset.Coherent ∧
    State.reset.dwellOver = false ∧ State.reset.LapsBounded ∧ State.reset.DeviationsInRange ∧
    State.reset.Balanced

/-- STEP is issued only to end a DWELL or to leave HELD, with no work in flight, the host hold clear and no
severe flag set; issuing it starts the move timer with the move timeout and leaves D as it is
(R3, R4, R5, R6). -/
def Obligations.StepIssuedOnlyWhenClear : Prop :=
  ∀ s t : State, s.Coherent → step s = .next t → s.dial.state ≠ .moving → t.dial.state = .moving →
    (s.dial.state = .dwell ∨ s.dial.state = .held) ∧ t.busyEmpty = true ∧ t.dial.hostHold = false ∧
    t.anySevere = false ∧ t.dial.moveTimer = .running t.dial.moveTimeout ∧
    t.dial.dwellTimer = .stopped ∧ t.dial.position = s.dial.position
end

