-- ==== Sys2Proof/Laws/State.lean ====
section
/-! SUPPORT. What each named update of the state does to each field and to each read of it: one lemma per
field per update, all true by definition. -/

namespace Sys2Proof.Machine

theorem State.dial_ofPockets (s : State) (v : Vector PocketRecord 24) :
    (({ s with pockets := v } : State)).dial = s.dial := rfl
theorem State.feed_ofPockets (s : State) (v : Vector PocketRecord 24) :
    (({ s with pockets := v } : State)).feed = s.feed := rfl
theorem State.heads_ofPockets (s : State) (v : Vector PocketRecord 24) :
    (({ s with pockets := v } : State)).heads = s.heads := rfl
theorem State.forceClass_ofPockets (s : State) (v : Vector PocketRecord 24) :
    (({ s with pockets := v } : State)).forceClass = s.forceClass := rfl
theorem State.check_ofPockets (s : State) (v : Vector PocketRecord 24) :
    (({ s with pockets := v } : State)).check = s.check := rfl
theorem State.gates_ofPockets (s : State) (v : Vector PocketRecord 24) :
    (({ s with pockets := v } : State)).gates = s.gates := rfl
theorem State.banks_ofPockets (s : State) (v : Vector PocketRecord 24) :
    (({ s with pockets := v } : State)).banks = s.banks := rfl
theorem State.lot_ofPockets (s : State) (v : Vector PocketRecord 24) :
    (({ s with pockets := v } : State)).lot = s.lot := rfl
theorem State.faults_ofPockets (s : State) (v : Vector PocketRecord 24) :
    (({ s with pockets := v } : State)).faults = s.faults := rfl
theorem State.link_ofPockets (s : State) (v : Vector PocketRecord 24) :
    (({ s with pockets := v } : State)).link = s.link := rfl
theorem State.lines_ofPockets (s : State) (v : Vector PocketRecord 24) :
    (({ s with pockets := v } : State)).lines = s.lines := rfl
theorem State.pending_ofPockets (s : State) (v : Vector PocketRecord 24) :
    (({ s with pockets := v } : State)).pending = s.pending := rfl
theorem State.head_ofPockets (s : State) (v : Vector PocketRecord 24) (h : Head) :
    (({ s with pockets := v } : State)).head h = s.head h := rfl
theorem State.inService_ofPockets (s : State) (v : Vector PocketRecord 24) (h : Head) :
    (({ s with pockets := v } : State)).inService h = s.inService h := rfl
theorem State.bin_ofPockets (s : State) (v : Vector PocketRecord 24) (g : Fin 12) :
    (({ s with pockets := v } : State)).bin g = s.bin g := rfl
theorem State.ejector_ofPockets (s : State) (v : Vector PocketRecord 24) (c : Chute) :
    (({ s with pockets := v } : State)).ejector c = s.ejector c := rfl
theorem State.isBusy_ofPockets (s : State) (v : Vector PocketRecord 24) (st : Station) :
    (({ s with pockets := v } : State)).isBusy st = s.isBusy st := rfl
theorem State.busyEmpty_ofPockets (s : State) (v : Vector PocketRecord 24) :
    (({ s with pockets := v } : State)).busyEmpty = s.busyEmpty := rfl
theorem State.isCurrentLot_ofPockets (s : State) (v : Vector PocketRecord 24) (n : Nat) :
    (({ s with pockets := v } : State)).isCurrentLot n = s.isCurrentLot n := rfl
theorem State.isCurrentPart_ofPockets (s : State) (v : Vector PocketRecord 24) (r : LiveRecord) :
    (({ s with pockets := v } : State)).isCurrentPart r = s.isCurrentPart r := rfl
theorem State.noHead_ofPockets (s : State) (v : Vector PocketRecord 24) :
    (({ s with pockets := v } : State)).noHead = s.noHead := rfl
theorem State.dwellOver_ofPockets (s : State) (v : Vector PocketRecord 24) :
    (({ s with pockets := v } : State)).dwellOver = s.dwellOver := rfl

/-! ### `onDial` -/

@[simp] theorem State.onDial_dial (s : State) (f : Dial → Dial) : (s.onDial f).dial = f s.dial := rfl
@[simp] theorem State.onDial_pockets (s : State) (f : Dial → Dial) : (s.onDial f).pockets = s.pockets := rfl
@[simp] theorem State.onDial_feed (s : State) (f : Dial → Dial) : (s.onDial f).feed = s.feed := rfl
@[simp] theorem State.onDial_heads (s : State) (f : Dial → Dial) : (s.onDial f).heads = s.heads := rfl
@[simp] theorem State.onDial_forceClass (s : State) (f : Dial → Dial) :
    (s.onDial f).forceClass = s.forceClass := rfl
@[simp] theorem State.onDial_check (s : State) (f : Dial → Dial) : (s.onDial f).check = s.check := rfl
@[simp] theorem State.onDial_gates (s : State) (f : Dial → Dial) : (s.onDial f).gates = s.gates := rfl
@[simp] theorem State.onDial_banks (s : State) (f : Dial → Dial) : (s.onDial f).banks = s.banks := rfl
@[simp] theorem State.onDial_lot (s : State) (f : Dial → Dial) : (s.onDial f).lot = s.lot := rfl
@[simp] theorem State.onDial_faults (s : State) (f : Dial → Dial) : (s.onDial f).faults = s.faults := rfl
@[simp] theorem State.onDial_link (s : State) (f : Dial → Dial) : (s.onDial f).link = s.link := rfl
@[simp] theorem State.onDial_lines (s : State) (f : Dial → Dial) : (s.onDial f).lines = s.lines := rfl
@[simp] theorem State.onDial_pending (s : State) (f : Dial → Dial) : (s.onDial f).pending = s.pending := rfl
@[simp] theorem State.onDial_pocket (s : State) (f : Dial → Dial) (p : Fin 24) :
    (s.onDial f).pocket p = s.pocket p := rfl
@[simp] theorem State.onDial_head (s : State) (f : Dial → Dial) (h : Head) :
    (s.onDial f).head h = s.head h := rfl
@[simp] theorem State.onDial_inService (s : State) (f : Dial → Dial) (h : Head) :
    (s.onDial f).inService h = s.inService h := rfl
@[simp] theorem State.onDial_bin (s : State) (f : Dial → Dial) (g : Fin 12) :
    (s.onDial f).bin g = s.bin g := rfl
@[simp] theorem State.onDial_ejector (s : State) (f : Dial → Dial) (c : Chute) :
    (s.onDial f).ejector c = s.ejector c := rfl
@[simp] theorem State.onDial_isCurrentLot (s : State) (f : Dial → Dial) (n : Nat) :
    (s.onDial f).isCurrentLot n = s.isCurrentLot n := rfl
@[simp] theorem State.onDial_isCurrentPart (s : State) (f : Dial → Dial) (r : LiveRecord) :
    (s.onDial f).isCurrentPart r = s.isCurrentPart r := rfl
@[simp] theorem State.onDial_noHead (s : State) (f : Dial → Dial) : (s.onDial f).noHead = s.noHead := rfl
@[simp] theorem State.onDial_recordsUnknown (s : State) (f : Dial → Dial) :
    (s.onDial f).recordsUnknown = s.recordsUnknown := rfl
@[simp] theorem State.onDial_flags (s : State) (f : Dial → Dial) : (s.onDial f).flags = s.flags := rfl
@[simp] theorem State.onDial_anySevere (s : State) (f : Dial → Dial) :
    (s.onDial f).anySevere = s.anySevere := rfl

/-! ### `onFeed` -/

@[simp] theorem State.onFeed_dial (s : State) (f : FeedUnit → FeedUnit) : (s.onFeed f).dial = s.dial := rfl
@[simp] theorem State.onFeed_pockets (s : State) (f : FeedUnit → FeedUnit) :
    (s.onFeed f).pockets = s.pockets := rfl
@[simp] theorem State.onFeed_feed (s : State) (f : FeedUnit → FeedUnit) : (s.onFeed f).feed = f s.feed := rfl
@[simp] theorem State.onFeed_heads (s : State) (f : FeedUnit → FeedUnit) : (s.onFeed f).heads = s.heads := rfl
@[simp] theorem State.onFeed_forceClass (s : State) (f : FeedUnit → FeedUnit) :
    (s.onFeed f).forceClass = s.forceClass := rfl
@[simp] theorem State.onFeed_check (s : State) (f : FeedUnit → FeedUnit) : (s.onFeed f).check = s.check := rfl
@[simp] theorem State.onFeed_gates (s : State) (f : FeedUnit → FeedUnit) : (s.onFeed f).gates = s.gates := rfl
@[simp] theorem State.onFeed_banks (s : State) (f : FeedUnit → FeedUnit) : (s.onFeed f).banks = s.banks := rfl
@[simp] theorem State.onFeed_lot (s : State) (f : FeedUnit → FeedUnit) : (s.onFeed f).lot = s.lot := rfl
@[simp] theorem State.onFeed_faults (s : State) (f : FeedUnit → FeedUnit) :
    (s.onFeed f).faults = s.faults := rfl
@[simp] theorem State.onFeed_link (s : State) (f : FeedUnit → FeedUnit) : (s.onFeed f).link = s.link := rfl
@[simp] theorem State.onFeed_lines (s : State) (f : FeedUnit → FeedUnit) : (s.onFeed f).lines = s.lines := rfl
@[simp] theorem State.onFeed_pending (s : State) (f : FeedUnit → FeedUnit) :
    (s.onFeed f).pending = s.pending := rfl
@[simp] theorem State.onFeed_pocket (s : State) (f : FeedUnit → FeedUnit) (p : Fin 24) :
    (s.onFeed f).pocket p = s.pocket p := rfl
@[simp] theorem State.onFeed_head (s : State) (f : FeedUnit → FeedUnit) (h : Head) :
    (s.onFeed f).head h = s.head h := rfl
@[simp] theorem State.onFeed_inService (s : State) (f : FeedUnit → FeedUnit) (h : Head) :
    (s.onFeed f).inService h = s.inService h := rfl
@[simp] theorem State.onFeed_bin (s : State) (f : FeedUnit → FeedUnit) (g : Fin 12) :
    (s.onFeed f).bin g = s.bin g := rfl
@[simp] theorem State.onFeed_ejector (s : State) (f : FeedUnit → FeedUnit) (c : Chute) :
    (s.onFeed f).ejector c = s.ejector c := rfl
@[simp] theorem State.onFeed_isBusy (s : State) (f : FeedUnit → FeedUnit) (st : Station) :
    (s.onFeed f).isBusy st = s.isBusy st := rfl
@[simp] theorem State.onFeed_busyEmpty (s : State) (f : FeedUnit → FeedUnit) :
    (s.onFeed f).busyEmpty = s.busyEmpty := rfl
@[simp] theorem State.onFeed_isCurrentLot (s : State) (f : FeedUnit → FeedUnit) (n : Nat) :
    (s.onFeed f).isCurrentLot n = s.isCurrentLot n := rfl
@[simp] theorem State.onFeed_isCurrentPart (s : State) (f : FeedUnit → FeedUnit) (r : LiveRecord) :
    (s.onFeed f).isCurrentPart r = s.isCurrentPart r := rfl
@[simp] theorem State.onFeed_noHead (s : State) (f : FeedUnit → FeedUnit) :
    (s.onFeed f).noHead = s.noHead := rfl
@[simp] theorem State.onFeed_recordsUnknown (s : State) (f : FeedUnit → FeedUnit) :
    (s.onFeed f).recordsUnknown = s.recordsUnknown := rfl
@[simp] theorem State.onFeed_flags (s : State) (f : FeedUnit → FeedUnit) : (s.onFeed f).flags = s.flags := rfl
@[simp] theorem State.onFeed_anySevere (s : State) (f : FeedUnit → FeedUnit) :
    (s.onFeed f).anySevere = s.anySevere := rfl
@[simp] theorem State.onFeed_dwellOver (s : State) (f : FeedUnit → FeedUnit) :
    (s.onFeed f).dwellOver = s.dwellOver := rfl

/-! ### `onCheck` -/

@[simp] theorem State.onCheck_dial (s : State) (f : CheckUnit → CheckUnit) :
    (s.onCheck f).dial = s.dial := rfl
@[simp] theorem State.onCheck_pockets (s : State) (f : CheckUnit → CheckUnit) :
    (s.onCheck f).pockets = s.pockets := rfl
@[simp] theorem State.onCheck_feed (s : State) (f : CheckUnit → CheckUnit) :
    (s.onCheck f).feed = s.feed := rfl
@[simp] theorem State.onCheck_heads (s : State) (f : CheckUnit → CheckUnit) :
    (s.onCheck f).heads = s.heads := rfl
@[simp] theorem State.onCheck_forceClass (s : State) (f : CheckUnit → CheckUnit) :
    (s.onCheck f).forceClass = s.forceClass := rfl
@[simp] theorem State.onCheck_check (s : State) (f : CheckUnit → CheckUnit) :
    (s.onCheck f).check = f s.check := rfl
@[simp] theorem State.onCheck_gates (s : State) (f : CheckUnit → CheckUnit) :
    (s.onCheck f).gates = s.gates := rfl
@[simp] theorem State.onCheck_banks (s : State) (f : CheckUnit → CheckUnit) :
    (s.onCheck f).banks = s.banks := rfl
@[simp] theorem State.onCheck_lot (s : State) (f : CheckUnit → CheckUnit) : (s.onCheck f).lot = s.lot := rfl
@[simp] theorem State.onCheck_faults (s : State) (f : CheckUnit → CheckUnit) :
    (s.onCheck f).faults = s.faults := rfl
@[simp] theorem State.onCheck_link (s : State) (f : CheckUnit → CheckUnit) :
    (s.onCheck f).link = s.link := rfl
@[simp] theorem State.onCheck_lines (s : State) (f : CheckUnit → CheckUnit) :
    (s.onCheck f).lines = s.lines := rfl
@[simp] theorem State.onCheck_pending (s : State) (f : CheckUnit → CheckUnit) :
    (s.onCheck f).pending = s.pending := rfl
@[simp] theorem State.onCheck_pocket (s : State) (f : CheckUnit → CheckUnit) (p : Fin 24) :
    (s.onCheck f).pocket p = s.pocket p := rfl
@[simp] theorem State.onCheck_head (s : State) (f : CheckUnit → CheckUnit) (h : Head) :
    (s.onCheck f).head h = s.head h := rfl
@[simp] theorem State.onCheck_inService (s : State) (f : CheckUnit → CheckUnit) (h : Head) :
    (s.onCheck f).inService h = s.inService h := rfl
@[simp] theorem State.onCheck_bin (s : State) (f : CheckUnit → CheckUnit) (g : Fin 12) :
    (s.onCheck f).bin g = s.bin g := rfl
@[simp] theorem State.onCheck_ejector (s : State) (f : CheckUnit → CheckUnit) (c : Chute) :
    (s.onCheck f).ejector c = s.ejector c := rfl
@[simp] theorem State.onCheck_isBusy (s : State) (f : CheckUnit → CheckUnit) (st : Station) :
    (s.onCheck f).isBusy st = s.isBusy st := rfl
@[simp] theorem State.onCheck_busyEmpty (s : State) (f : CheckUnit → CheckUnit) :
    (s.onCheck f).busyEmpty = s.busyEmpty := rfl
@[simp] theorem State.onCheck_isCurrentLot (s : State) (f : CheckUnit → CheckUnit) (n : Nat) :
    (s.onCheck f).isCurrentLot n = s.isCurrentLot n := rfl
@[simp] theorem State.onCheck_isCurrentPart (s : State) (f : CheckUnit → CheckUnit) (r : LiveRecord) :
    (s.onCheck f).isCurrentPart r = s.isCurrentPart r := rfl
@[simp] theorem State.onCheck_noHead (s : State) (f : CheckUnit → CheckUnit) :
    (s.onCheck f).noHead = s.noHead := rfl
@[simp] theorem State.onCheck_recordsUnknown (s : State) (f : CheckUnit → CheckUnit) :
    (s.onCheck f).recordsUnknown = s.recordsUnknown := rfl
@[simp] theorem State.onCheck_flags (s : State) (f : CheckUnit → CheckUnit) :
    (s.onCheck f).flags = s.flags := rfl
@[simp] theorem State.onCheck_anySevere (s : State) (f : CheckUnit → CheckUnit) :
    (s.onCheck f).anySevere = s.anySevere := rfl
@[simp] theorem State.onCheck_dwellOver (s : State) (f : CheckUnit → CheckUnit) :
    (s.onCheck f).dwellOver = s.dwellOver := rfl

/-! ### `onGates` -/

@[simp] theorem State.onGates_dial (s : State) (f : GateUnit → GateUnit) : (s.onGates f).dial = s.dial := rfl
@[simp] theorem State.onGates_pockets (s : State) (f : GateUnit → GateUnit) :
    (s.onGates f).pockets = s.pockets := rfl
@[simp] theorem State.onGates_feed (s : State) (f : GateUnit → GateUnit) : (s.onGates f).feed = s.feed := rfl
@[simp] theorem State.onGates_heads (s : State) (f : GateUnit → GateUnit) :
    (s.onGates f).heads = s.heads := rfl
@[simp] theorem State.onGates_forceClass (s : State) (f : GateUnit → GateUnit) :
    (s.onGates f).forceClass = s.forceClass := rfl
@[simp] theorem State.onGates_check (s : State) (f : GateUnit → GateUnit) :
    (s.onGates f).check = s.check := rfl
@[simp] theorem State.onGates_gates (s : State) (f : GateUnit → GateUnit) :
    (s.onGates f).gates = f s.gates := rfl
@[simp] theorem State.onGates_banks (s : State) (f : GateUnit → GateUnit) :
    (s.onGates f).banks = s.banks := rfl
@[simp] theorem State.onGates_lot (s : State) (f : GateUnit → GateUnit) : (s.onGates f).lot = s.lot := rfl
@[simp] theorem State.onGates_faults (s : State) (f : GateUnit → GateUnit) :
    (s.onGates f).faults = s.faults := rfl
@[simp] theorem State.onGates_link (s : State) (f : GateUnit → GateUnit) : (s.onGates f).link = s.link := rfl
@[simp] theorem State.onGates_lines (s : State) (f : GateUnit → GateUnit) :
    (s.onGates f).lines = s.lines := rfl
@[simp] theorem State.onGates_pending (s : State) (f : GateUnit → GateUnit) :
    (s.onGates f).pending = s.pending := rfl
@[simp] theorem State.onGates_pocket (s : State) (f : GateUnit → GateUnit) (p : Fin 24) :
    (s.onGates f).pocket p = s.pocket p := rfl
@[simp] theorem State.onGates_head (s : State) (f : GateUnit → GateUnit) (h : Head) :
    (s.onGates f).head h = s.head h := rfl
@[simp] theorem State.onGates_inService (s : State) (f : GateUnit → GateUnit) (h : Head) :
    (s.onGates f).inService h = s.inService h := rfl
@[simp] theorem State.onGates_isBusy (s : State) (f : GateUnit → GateUnit) (st : Station) :
    (s.onGates f).isBusy st = s.isBusy st := rfl
@[simp] theorem State.onGates_busyEmpty (s : State) (f : GateUnit → GateUnit) :
    (s.onGates f).busyEmpty = s.busyEmpty := rfl
@[simp] theorem State.onGates_isCurrentLot (s : State) (f : GateUnit → GateUnit) (n : Nat) :
    (s.onGates f).isCurrentLot n = s.isCurrentLot n := rfl
@[simp] theorem State.onGates_isCurrentPart (s : State) (f : GateUnit → GateUnit) (r : LiveRecord) :
    (s.onGates f).isCurrentPart r = s.isCurrentPart r := rfl
@[simp] theorem State.onGates_noHead (s : State) (f : GateUnit → GateUnit) :
    (s.onGates f).noHead = s.noHead := rfl
@[simp] theorem State.onGates_recordsUnknown (s : State) (f : GateUnit → GateUnit) :
    (s.onGates f).recordsUnknown = s.recordsUnknown := rfl
@[simp] theorem State.onGates_flags (s : State) (f : GateUnit → GateUnit) :
    (s.onGates f).flags = s.flags := rfl
@[simp] theorem State.onGates_anySevere (s : State) (f : GateUnit → GateUnit) :
    (s.onGates f).anySevere = s.anySevere := rfl
@[simp] theorem State.onGates_dwellOver (s : State) (f : GateUnit → GateUnit) :
    (s.onGates f).dwellOver = s.dwellOver := rfl

/-! ### `onLot` -/

@[simp] theorem State.onLot_dial (s : State) (f : Lot → Lot) : (s.onLot f).dial = s.dial := rfl
@[simp] theorem State.onLot_pockets (s : State) (f : Lot → Lot) : (s.onLot f).pockets = s.pockets := rfl
@[simp] theorem State.onLot_feed (s : State) (f : Lot → Lot) : (s.onLot f).feed = s.feed := rfl
@[simp] theorem State.onLot_heads (s : State) (f : Lot → Lot) : (s.onLot f).heads = s.heads := rfl
@[simp] theorem State.onLot_forceClass (s : State) (f : Lot → Lot) :
    (s.onLot f).forceClass = s.forceClass := rfl
@[simp] theorem State.onLot_check (s : State) (f : Lot → Lot) : (s.onLot f).check = s.check := rfl
@[simp] theorem State.onLot_gates (s : State) (f : Lot → Lot) : (s.onLot f).gates = s.gates := rfl
@[simp] theorem State.onLot_banks (s : State) (f : Lot → Lot) : (s.onLot f).banks = s.banks := rfl
@[simp] theorem State.onLot_lot (s : State) (f : Lot → Lot) : (s.onLot f).lot = f s.lot := rfl
@[simp] theorem State.onLot_faults (s : State) (f : Lot → Lot) : (s.onLot f).faults = s.faults := rfl
@[simp] theorem State.onLot_link (s : State) (f : Lot → Lot) : (s.onLot f).link = s.link := rfl
@[simp] theorem State.onLot_lines (s : State) (f : Lot → Lot) : (s.onLot f).lines = s.lines := rfl
@[simp] theorem State.onLot_pending (s : State) (f : Lot → Lot) : (s.onLot f).pending = s.pending := rfl
@[simp] theorem State.onLot_pocket (s : State) (f : Lot → Lot) (p : Fin 24) :
    (s.onLot f).pocket p = s.pocket p := rfl
@[simp] theorem State.onLot_head (s : State) (f : Lot → Lot) (h : Head) : (s.onLot f).head h = s.head h := rfl
@[simp] theorem State.onLot_inService (s : State) (f : Lot → Lot) (h : Head) :
    (s.onLot f).inService h = s.inService h := rfl
@[simp] theorem State.onLot_bin (s : State) (f : Lot → Lot) (g : Fin 12) : (s.onLot f).bin g = s.bin g := rfl
@[simp] theorem State.onLot_ejector (s : State) (f : Lot → Lot) (c : Chute) :
    (s.onLot f).ejector c = s.ejector c := rfl
@[simp] theorem State.onLot_isBusy (s : State) (f : Lot → Lot) (st : Station) :
    (s.onLot f).isBusy st = s.isBusy st := rfl
@[simp] theorem State.onLot_busyEmpty (s : State) (f : Lot → Lot) : (s.onLot f).busyEmpty = s.busyEmpty := rfl
@[simp] theorem State.onLot_recordsUnknown (s : State) (f : Lot → Lot) :
    (s.onLot f).recordsUnknown = s.recordsUnknown := rfl
@[simp] theorem State.onLot_dwellOver (s : State) (f : Lot → Lot) : (s.onLot f).dwellOver = s.dwellOver := rfl

/-! ### `onFaults` -/

@[simp] theorem State.onFaults_dial (s : State) (f : FaultUnit → FaultUnit) :
    (s.onFaults f).dial = s.dial := rfl
@[simp] theorem State.onFaults_pockets (s : State) (f : FaultUnit → FaultUnit) :
    (s.onFaults f).pockets = s.pockets := rfl
@[simp] theorem State.onFaults_feed (s : State) (f : FaultUnit → FaultUnit) :
    (s.onFaults f).feed = s.feed := rfl
@[simp] theorem State.onFaults_heads (s : State) (f : FaultUnit → FaultUnit) :
    (s.onFaults f).heads = s.heads := rfl
@[simp] theorem State.onFaults_forceClass (s : State) (f : FaultUnit → FaultUnit) :
    (s.onFaults f).forceClass = s.forceClass := rfl
@[simp] theorem State.onFaults_check (s : State) (f : FaultUnit → FaultUnit) :
    (s.onFaults f).check = s.check := rfl
@[simp] theorem State.onFaults_gates (s : State) (f : FaultUnit → FaultUnit) :
    (s.onFaults f).gates = s.gates := rfl
@[simp] theorem State.onFaults_banks (s : State) (f : FaultUnit → FaultUnit) :
    (s.onFaults f).banks = s.banks := rfl
@[simp] theorem State.onFaults_lot (s : State) (f : FaultUnit → FaultUnit) : (s.onFaults f).lot = s.lot := rfl
@[simp] theorem State.onFaults_faults (s : State) (f : FaultUnit → FaultUnit) :
    (s.onFaults f).faults = f s.faults := rfl
@[simp] theorem State.onFaults_link (s : State) (f : FaultUnit → FaultUnit) :
    (s.onFaults f).link = s.link := rfl
@[simp] theorem State.onFaults_lines (s : State) (f : FaultUnit → FaultUnit) :
    (s.onFaults f).lines = s.lines := rfl
@[simp] theorem State.onFaults_pending (s : State) (f : FaultUnit → FaultUnit) :
    (s.onFaults f).pending = s.pending := rfl
@[simp] theorem State.onFaults_pocket (s : State) (f : FaultUnit → FaultUnit) (p : Fin 24) :
    (s.onFaults f).pocket p = s.pocket p := rfl
@[simp] theorem State.onFaults_head (s : State) (f : FaultUnit → FaultUnit) (h : Head) :
    (s.onFaults f).head h = s.head h := rfl
@[simp] theorem State.onFaults_inService (s : State) (f : FaultUnit → FaultUnit) (h : Head) :
    (s.onFaults f).inService h = s.inService h := rfl
@[simp] theorem State.onFaults_bin (s : State) (f : FaultUnit → FaultUnit) (g : Fin 12) :
    (s.onFaults f).bin g = s.bin g := rfl
@[simp] theorem State.onFaults_ejector (s : State) (f : FaultUnit → FaultUnit) (c : Chute) :
    (s.onFaults f).ejector c = s.ejector c := rfl
@[simp] theorem State.onFaults_isBusy (s : State) (f : FaultUnit → FaultUnit) (st : Station) :
    (s.onFaults f).isBusy st = s.isBusy st := rfl
@[simp] theorem State.onFaults_busyEmpty (s : State) (f : FaultUnit → FaultUnit) :
    (s.onFaults f).busyEmpty = s.busyEmpty := rfl
@[simp] theorem State.onFaults_isCurrentLot (s : State) (f : FaultUnit → FaultUnit) (n : Nat) :
    (s.onFaults f).isCurrentLot n = s.isCurrentLot n := rfl
@[simp] theorem State.onFaults_isCurrentPart (s : State) (f : FaultUnit → FaultUnit) (r : LiveRecord) :
    (s.onFaults f).isCurrentPart r = s.isCurrentPart r := rfl
@[simp] theorem State.onFaults_noHead (s : State) (f : FaultUnit → FaultUnit) :
    (s.onFaults f).noHead = s.noHead := rfl
@[simp] theorem State.onFaults_recordsUnknown (s : State) (f : FaultUnit → FaultUnit) :
    (s.onFaults f).recordsUnknown = s.recordsUnknown := rfl
@[simp] theorem State.onFaults_dwellOver (s : State) (f : FaultUnit → FaultUnit) :
    (s.onFaults f).dwellOver = s.dwellOver := rfl

/-! ### `onLink` -/

@[simp] theorem State.onLink_dial (s : State) (f : Link → Link) : (s.onLink f).dial = s.dial := rfl
@[simp] theorem State.onLink_pockets (s : State) (f : Link → Link) : (s.onLink f).pockets = s.pockets := rfl
@[simp] theorem State.onLink_feed (s : State) (f : Link → Link) : (s.onLink f).feed = s.feed := rfl
@[simp] theorem State.onLink_heads (s : State) (f : Link → Link) : (s.onLink f).heads = s.heads := rfl
@[simp] theorem State.onLink_forceClass (s : State) (f : Link → Link) :
    (s.onLink f).forceClass = s.forceClass := rfl
@[simp] theorem State.onLink_check (s : State) (f : Link → Link) : (s.onLink f).check = s.check := rfl
@[simp] theorem State.onLink_gates (s : State) (f : Link → Link) : (s.onLink f).gates = s.gates := rfl
@[simp] theorem State.onLink_banks (s : State) (f : Link → Link) : (s.onLink f).banks = s.banks := rfl
@[simp] theorem State.onLink_lot (s : State) (f : Link → Link) : (s.onLink f).lot = s.lot := rfl
@[simp] theorem State.onLink_faults (s : State) (f : Link → Link) : (s.onLink f).faults = s.faults := rfl
@[simp] theorem State.onLink_link (s : State) (f : Link → Link) : (s.onLink f).link = f s.link := rfl
@[simp] theorem State.onLink_lines (s : State) (f : Link → Link) : (s.onLink f).lines = s.lines := rfl
@[simp] theorem State.onLink_pending (s : State) (f : Link → Link) : (s.onLink f).pending = s.pending := rfl
@[simp] theorem State.onLink_pocket (s : State) (f : Link → Link) (p : Fin 24) :
    (s.onLink f).pocket p = s.pocket p := rfl
@[simp] theorem State.onLink_head (s : State) (f : Link → Link) (h : Head) :
    (s.onLink f).head h = s.head h := rfl
@[simp] theorem State.onLink_inService (s : State) (f : Link → Link) (h : Head) :
    (s.onLink f).inService h = s.inService h := rfl
@[simp] theorem State.onLink_bin (s : State) (f : Link → Link) (g : Fin 12) :
    (s.onLink f).bin g = s.bin g := rfl
@[simp] theorem State.onLink_ejector (s : State) (f : Link → Link) (c : Chute) :
    (s.onLink f).ejector c = s.ejector c := rfl
@[simp] theorem State.onLink_isBusy (s : State) (f : Link → Link) (st : Station) :
    (s.onLink f).isBusy st = s.isBusy st := rfl
@[simp] theorem State.onLink_busyEmpty (s : State) (f : Link → Link) :
    (s.onLink f).busyEmpty = s.busyEmpty := rfl
@[simp] theorem State.onLink_isCurrentLot (s : State) (f : Link → Link) (n : Nat) :
    (s.onLink f).isCurrentLot n = s.isCurrentLot n := rfl
@[simp] theorem State.onLink_isCurrentPart (s : State) (f : Link → Link) (r : LiveRecord) :
    (s.onLink f).isCurrentPart r = s.isCurrentPart r := rfl
@[simp] theorem State.onLink_noHead (s : State) (f : Link → Link) : (s.onLink f).noHead = s.noHead := rfl
@[simp] theorem State.onLink_recordsUnknown (s : State) (f : Link → Link) :
    (s.onLink f).recordsUnknown = s.recordsUnknown := rfl
@[simp] theorem State.onLink_flags (s : State) (f : Link → Link) : (s.onLink f).flags = s.flags := rfl
@[simp] theorem State.onLink_anySevere (s : State) (f : Link → Link) :
    (s.onLink f).anySevere = s.anySevere := rfl
@[simp] theorem State.onLink_dwellOver (s : State) (f : Link → Link) :
    (s.onLink f).dwellOver = s.dwellOver := rfl

/-! ### `onPendingBank` -/

@[simp] theorem State.onPendingBank_dial (s : State) (f : Recipe → Recipe) :
    (s.onPendingBank f).dial = s.dial := rfl
@[simp] theorem State.onPendingBank_pockets (s : State) (f : Recipe → Recipe) :
    (s.onPendingBank f).pockets = s.pockets := rfl
@[simp] theorem State.onPendingBank_feed (s : State) (f : Recipe → Recipe) :
    (s.onPendingBank f).feed = s.feed := rfl
@[simp] theorem State.onPendingBank_heads (s : State) (f : Recipe → Recipe) :
    (s.onPendingBank f).heads = s.heads := rfl
@[simp] theorem State.onPendingBank_forceClass (s : State) (f : Recipe → Recipe) :
    (s.onPendingBank f).forceClass = s.forceClass := rfl
@[simp] theorem State.onPendingBank_check (s : State) (f : Recipe → Recipe) :
    (s.onPendingBank f).check = s.check := rfl
@[simp] theorem State.onPendingBank_gates (s : State) (f : Recipe → Recipe) :
    (s.onPendingBank f).gates = s.gates := rfl
@[simp] theorem State.onPendingBank_banks (s : State) (f : Recipe → Recipe) :
    (s.onPendingBank f).banks = { s.banks with pending := f s.banks.pending } := rfl
@[simp] theorem State.onPendingBank_lot (s : State) (f : Recipe → Recipe) :
    (s.onPendingBank f).lot = s.lot := rfl
@[simp] theorem State.onPendingBank_faults (s : State) (f : Recipe → Recipe) :
    (s.onPendingBank f).faults = s.faults := rfl
@[simp] theorem State.onPendingBank_link (s : State) (f : Recipe → Recipe) :
    (s.onPendingBank f).link = s.link := rfl
@[simp] theorem State.onPendingBank_lines (s : State) (f : Recipe → Recipe) :
    (s.onPendingBank f).lines = s.lines := rfl
@[simp] theorem State.onPendingBank_pending (s : State) (f : Recipe → Recipe) :
    (s.onPendingBank f).pending = s.pending := rfl
@[simp] theorem State.onPendingBank_pocket (s : State) (f : Recipe → Recipe) (p : Fin 24) :
    (s.onPendingBank f).pocket p = s.pocket p := rfl
@[simp] theorem State.onPendingBank_head (s : State) (f : Recipe → Recipe) (h : Head) :
    (s.onPendingBank f).head h = s.head h := rfl
@[simp] theorem State.onPendingBank_inService (s : State) (f : Recipe → Recipe) (h : Head) :
    (s.onPendingBank f).inService h = s.inService h := rfl
@[simp] theorem State.onPendingBank_bin (s : State) (f : Recipe → Recipe) (g : Fin 12) :
    (s.onPendingBank f).bin g = s.bin g := rfl
@[simp] theorem State.onPendingBank_ejector (s : State) (f : Recipe → Recipe) (c : Chute) :
    (s.onPendingBank f).ejector c = s.ejector c := rfl
@[simp] theorem State.onPendingBank_isBusy (s : State) (f : Recipe → Recipe) (st : Station) :
    (s.onPendingBank f).isBusy st = s.isBusy st := rfl
@[simp] theorem State.onPendingBank_busyEmpty (s : State) (f : Recipe → Recipe) :
    (s.onPendingBank f).busyEmpty = s.busyEmpty := rfl
@[simp] theorem State.onPendingBank_isCurrentLot (s : State) (f : Recipe → Recipe) (n : Nat) :
    (s.onPendingBank f).isCurrentLot n = s.isCurrentLot n := rfl
@[simp] theorem State.onPendingBank_isCurrentPart (s : State) (f : Recipe → Recipe) (r : LiveRecord) :
    (s.onPendingBank f).isCurrentPart r = s.isCurrentPart r := rfl
@[simp] theorem State.onPendingBank_noHead (s : State) (f : Recipe → Recipe) :
    (s.onPendingBank f).noHead = s.noHead := rfl
@[simp] theorem State.onPendingBank_recordsUnknown (s : State) (f : Recipe → Recipe) :
    (s.onPendingBank f).recordsUnknown = s.recordsUnknown := rfl
@[simp] theorem State.onPendingBank_flags (s : State) (f : Recipe → Recipe) :
    (s.onPendingBank f).flags = s.flags := rfl
@[simp] theorem State.onPendingBank_anySevere (s : State) (f : Recipe → Recipe) :
    (s.onPendingBank f).anySevere = s.anySevere := rfl
@[simp] theorem State.onPendingBank_dwellOver (s : State) (f : Recipe → Recipe) :
    (s.onPendingBank f).dwellOver = s.dwellOver := rfl

/-! ### `onCounters` -/

@[simp] theorem State.onCounters_dial (s : State) (f : LotCounters → LotCounters) :
    (s.onCounters f).dial = s.dial := rfl
@[simp] theorem State.onCounters_pockets (s : State) (f : LotCounters → LotCounters) :
    (s.onCounters f).pockets = s.pockets := rfl
@[simp] theorem State.onCounters_feed (s : State) (f : LotCounters → LotCounters) :
    (s.onCounters f).feed = s.feed := rfl
@[simp] theorem State.onCounters_heads (s : State) (f : LotCounters → LotCounters) :
    (s.onCounters f).heads = s.heads := rfl
@[simp] theorem State.onCounters_forceClass (s : State) (f : LotCounters → LotCounters) :
    (s.onCounters f).forceClass = s.forceClass := rfl
@[simp] theorem State.onCounters_check (s : State) (f : LotCounters → LotCounters) :
    (s.onCounters f).check = s.check := rfl
@[simp] theorem State.onCounters_gates (s : State) (f : LotCounters → LotCounters) :
    (s.onCounters f).gates = s.gates := rfl
@[simp] theorem State.onCounters_banks (s : State) (f : LotCounters → LotCounters) :
    (s.onCounters f).banks = s.banks := rfl
@[simp] theorem State.onCounters_lot (s : State) (f : LotCounters → LotCounters) :
    (s.onCounters f).lot = { s.lot with counters := f s.lot.counters } := rfl
@[simp] theorem State.onCounters_faults (s : State) (f : LotCounters → LotCounters) :
    (s.onCounters f).faults = s.faults := rfl
@[simp] theorem State.onCounters_link (s : State) (f : LotCounters → LotCounters) :
    (s.onCounters f).link = s.link := rfl
@[simp] theorem State.onCounters_lines (s : State) (f : LotCounters → LotCounters) :
    (s.onCounters f).lines = s.lines := rfl
@[simp] theorem State.onCounters_pending (s : State) (f : LotCounters → LotCounters) :
    (s.onCounters f).pending = s.pending := rfl
@[simp] theorem State.onCounters_pocket (s : State) (f : LotCounters → LotCounters) (p : Fin 24) :
    (s.onCounters f).pocket p = s.pocket p := rfl
@[simp] theorem State.onCounters_head (s : State) (f : LotCounters → LotCounters) (h : Head) :
    (s.onCounters f).head h = s.head h := rfl
@[simp] theorem State.onCounters_inService (s : State) (f : LotCounters → LotCounters) (h : Head) :
    (s.onCounters f).inService h = s.inService h := rfl
@[simp] theorem State.onCounters_bin (s : State) (f : LotCounters → LotCounters) (g : Fin 12) :
    (s.onCounters f).bin g = s.bin g := rfl
@[simp] theorem State.onCounters_ejector (s : State) (f : LotCounters → LotCounters) (c : Chute) :
    (s.onCounters f).ejector c = s.ejector c := rfl
@[simp] theorem State.onCounters_isBusy (s : State) (f : LotCounters → LotCounters) (st : Station) :
    (s.onCounters f).isBusy st = s.isBusy st := rfl
@[simp] theorem State.onCounters_busyEmpty (s : State) (f : LotCounters → LotCounters) :
    (s.onCounters f).busyEmpty = s.busyEmpty := rfl
@[simp] theorem State.onCounters_recordsUnknown (s : State) (f : LotCounters → LotCounters) :
    (s.onCounters f).recordsUnknown = s.recordsUnknown := rfl
@[simp] theorem State.onCounters_dwellOver (s : State) (f : LotCounters → LotCounters) :
    (s.onCounters f).dwellOver = s.dwellOver := rfl

/-! ### `joinBusy` -/

@[simp] theorem State.joinBusy_dial (s : State) (x : Station) :
    (s.joinBusy x).dial = { s.dial with busy := s.dial.busy.set x.index.val true } := rfl
@[simp] theorem State.joinBusy_pockets (s : State) (x : Station) : (s.joinBusy x).pockets = s.pockets := rfl
@[simp] theorem State.joinBusy_feed (s : State) (x : Station) : (s.joinBusy x).feed = s.feed := rfl
@[simp] theorem State.joinBusy_heads (s : State) (x : Station) : (s.joinBusy x).heads = s.heads := rfl
@[simp] theorem State.joinBusy_forceClass (s : State) (x : Station) :
    (s.joinBusy x).forceClass = s.forceClass := rfl
@[simp] theorem State.joinBusy_check (s : State) (x : Station) : (s.joinBusy x).check = s.check := rfl
@[simp] theorem State.joinBusy_gates (s : State) (x : Station) : (s.joinBusy x).gates = s.gates := rfl
@[simp] theorem State.joinBusy_banks (s : State) (x : Station) : (s.joinBusy x).banks = s.banks := rfl
@[simp] theorem State.joinBusy_lot (s : State) (x : Station) : (s.joinBusy x).lot = s.lot := rfl
@[simp] theorem State.joinBusy_faults (s : State) (x : Station) : (s.joinBusy x).faults = s.faults := rfl
@[simp] theorem State.joinBusy_link (s : State) (x : Station) : (s.joinBusy x).link = s.link := rfl
@[simp] theorem State.joinBusy_lines (s : State) (x : Station) : (s.joinBusy x).lines = s.lines := rfl
@[simp] theorem State.joinBusy_pending (s : State) (x : Station) : (s.joinBusy x).pending = s.pending := rfl
@[simp] theorem State.joinBusy_pocket (s : State) (x : Station) (p : Fin 24) :
    (s.joinBusy x).pocket p = s.pocket p := rfl
@[simp] theorem State.joinBusy_head (s : State) (x : Station) (h : Head) :
    (s.joinBusy x).head h = s.head h := rfl
@[simp] theorem State.joinBusy_inService (s : State) (x : Station) (h : Head) :
    (s.joinBusy x).inService h = s.inService h := rfl
@[simp] theorem State.joinBusy_bin (s : State) (x : Station) (g : Fin 12) :
    (s.joinBusy x).bin g = s.bin g := rfl
@[simp] theorem State.joinBusy_ejector (s : State) (x : Station) (c : Chute) :
    (s.joinBusy x).ejector c = s.ejector c := rfl
@[simp] theorem State.joinBusy_isCurrentLot (s : State) (x : Station) (n : Nat) :
    (s.joinBusy x).isCurrentLot n = s.isCurrentLot n := rfl
@[simp] theorem State.joinBusy_isCurrentPart (s : State) (x : Station) (r : LiveRecord) :
    (s.joinBusy x).isCurrentPart r = s.isCurrentPart r := rfl
@[simp] theorem State.joinBusy_noHead (s : State) (x : Station) : (s.joinBusy x).noHead = s.noHead := rfl
@[simp] theorem State.joinBusy_recordsUnknown (s : State) (x : Station) :
    (s.joinBusy x).recordsUnknown = s.recordsUnknown := rfl
@[simp] theorem State.joinBusy_flags (s : State) (x : Station) : (s.joinBusy x).flags = s.flags := rfl
@[simp] theorem State.joinBusy_anySevere (s : State) (x : Station) :
    (s.joinBusy x).anySevere = s.anySevere := rfl

/-! ### `leaveBusy` -/

@[simp] theorem State.leaveBusy_dial (s : State) (x : Station) :
    (s.leaveBusy x).dial = { s.dial with busy := s.dial.busy.set x.index.val false } := rfl
@[simp] theorem State.leaveBusy_pockets (s : State) (x : Station) : (s.leaveBusy x).pockets = s.pockets := rfl
@[simp] theorem State.leaveBusy_feed (s : State) (x : Station) : (s.leaveBusy x).feed = s.feed := rfl
@[simp] theorem State.leaveBusy_heads (s : State) (x : Station) : (s.leaveBusy x).heads = s.heads := rfl
@[simp] theorem State.leaveBusy_forceClass (s : State) (x : Station) :
    (s.leaveBusy x).forceClass = s.forceClass := rfl
@[simp] theorem State.leaveBusy_check (s : State) (x : Station) : (s.leaveBusy x).check = s.check := rfl
@[simp] theorem State.leaveBusy_gates (s : State) (x : Station) : (s.leaveBusy x).gates = s.gates := rfl
@[simp] theorem State.leaveBusy_banks (s : State) (x : Station) : (s.leaveBusy x).banks = s.banks := rfl
@[simp] theorem State.leaveBusy_lot (s : State) (x : Station) : (s.leaveBusy x).lot = s.lot := rfl
@[simp] theorem State.leaveBusy_faults (s : State) (x : Station) : (s.leaveBusy x).faults = s.faults := rfl
@[simp] theorem State.leaveBusy_link (s : State) (x : Station) : (s.leaveBusy x).link = s.link := rfl
@[simp] theorem State.leaveBusy_lines (s : State) (x : Station) : (s.leaveBusy x).lines = s.lines := rfl
@[simp] theorem State.leaveBusy_pending (s : State) (x : Station) : (s.leaveBusy x).pending = s.pending := rfl
@[simp] theorem State.leaveBusy_pocket (s : State) (x : Station) (p : Fin 24) :
    (s.leaveBusy x).pocket p = s.pocket p := rfl
@[simp] theorem State.leaveBusy_head (s : State) (x : Station) (h : Head) :
    (s.leaveBusy x).head h = s.head h := rfl
@[simp] theorem State.leaveBusy_inService (s : State) (x : Station) (h : Head) :
    (s.leaveBusy x).inService h = s.inService h := rfl
@[simp] theorem State.leaveBusy_bin (s : State) (x : Station) (g : Fin 12) :
    (s.leaveBusy x).bin g = s.bin g := rfl
@[simp] theorem State.leaveBusy_ejector (s : State) (x : Station) (c : Chute) :
    (s.leaveBusy x).ejector c = s.ejector c := rfl
@[simp] theorem State.leaveBusy_isCurrentLot (s : State) (x : Station) (n : Nat) :
    (s.leaveBusy x).isCurrentLot n = s.isCurrentLot n := rfl
@[simp] theorem State.leaveBusy_isCurrentPart (s : State) (x : Station) (r : LiveRecord) :
    (s.leaveBusy x).isCurrentPart r = s.isCurrentPart r := rfl
@[simp] theorem State.leaveBusy_noHead (s : State) (x : Station) : (s.leaveBusy x).noHead = s.noHead := rfl
@[simp] theorem State.leaveBusy_recordsUnknown (s : State) (x : Station) :
    (s.leaveBusy x).recordsUnknown = s.recordsUnknown := rfl
@[simp] theorem State.leaveBusy_flags (s : State) (x : Station) : (s.leaveBusy x).flags = s.flags := rfl
@[simp] theorem State.leaveBusy_anySevere (s : State) (x : Station) :
    (s.leaveBusy x).anySevere = s.anySevere := rfl

/-! ### `setPocket` -/

@[simp] theorem State.setPocket_dial (s : State) (k : Fin 24) (x : PocketRecord) :
    (s.setPocket k x).dial = s.dial := rfl
@[simp] theorem State.setPocket_pockets (s : State) (k : Fin 24) (x : PocketRecord) :
    (s.setPocket k x).pockets = s.pockets.set k.val x := rfl
@[simp] theorem State.setPocket_feed (s : State) (k : Fin 24) (x : PocketRecord) :
    (s.setPocket k x).feed = s.feed := rfl
@[simp] theorem State.setPocket_heads (s : State) (k : Fin 24) (x : PocketRecord) :
    (s.setPocket k x).heads = s.heads := rfl
@[simp] theorem State.setPocket_forceClass (s : State) (k : Fin 24) (x : PocketRecord) :
    (s.setPocket k x).forceClass = s.forceClass := rfl
@[simp] theorem State.setPocket_check (s : State) (k : Fin 24) (x : PocketRecord) :
    (s.setPocket k x).check = s.check := rfl
@[simp] theorem State.setPocket_gates (s : State) (k : Fin 24) (x : PocketRecord) :
    (s.setPocket k x).gates = s.gates := rfl
@[simp] theorem State.setPocket_banks (s : State) (k : Fin 24) (x : PocketRecord) :
    (s.setPocket k x).banks = s.banks := rfl
@[simp] theorem State.setPocket_lot (s : State) (k : Fin 24) (x : PocketRecord) :
    (s.setPocket k x).lot = s.lot := rfl
@[simp] theorem State.setPocket_faults (s : State) (k : Fin 24) (x : PocketRecord) :
    (s.setPocket k x).faults = s.faults := rfl
@[simp] theorem State.setPocket_link (s : State) (k : Fin 24) (x : PocketRecord) :
    (s.setPocket k x).link = s.link := rfl
@[simp] theorem State.setPocket_lines (s : State) (k : Fin 24) (x : PocketRecord) :
    (s.setPocket k x).lines = s.lines := rfl
@[simp] theorem State.setPocket_pending (s : State) (k : Fin 24) (x : PocketRecord) :
    (s.setPocket k x).pending = s.pending := rfl
@[simp] theorem State.setPocket_head (s : State) (k : Fin 24) (x : PocketRecord) (h : Head) :
    (s.setPocket k x).head h = s.head h := rfl
@[simp] theorem State.setPocket_inService (s : State) (k : Fin 24) (x : PocketRecord) (h : Head) :
    (s.setPocket k x).inService h = s.inService h := rfl
@[simp] theorem State.setPocket_bin (s : State) (k : Fin 24) (x : PocketRecord) (g : Fin 12) :
    (s.setPocket k x).bin g = s.bin g := rfl
@[simp] theorem State.setPocket_ejector (s : State) (k : Fin 24) (x : PocketRecord) (c : Chute) :
    (s.setPocket k x).ejector c = s.ejector c := rfl
@[simp] theorem State.setPocket_isBusy (s : State) (k : Fin 24) (x : PocketRecord) (st : Station) :
    (s.setPocket k x).isBusy st = s.isBusy st := rfl
@[simp] theorem State.setPocket_busyEmpty (s : State) (k : Fin 24) (x : PocketRecord) :
    (s.setPocket k x).busyEmpty = s.busyEmpty := rfl
@[simp] theorem State.setPocket_isCurrentLot (s : State) (k : Fin 24) (x : PocketRecord) (n : Nat) :
    (s.setPocket k x).isCurrentLot n = s.isCurrentLot n := rfl
@[simp] theorem State.setPocket_isCurrentPart (s : State) (k : Fin 24) (x : PocketRecord) (r : LiveRecord) :
    (s.setPocket k x).isCurrentPart r = s.isCurrentPart r := rfl
@[simp] theorem State.setPocket_noHead (s : State) (k : Fin 24) (x : PocketRecord) :
    (s.setPocket k x).noHead = s.noHead := rfl
@[simp] theorem State.setPocket_dwellOver (s : State) (k : Fin 24) (x : PocketRecord) :
    (s.setPocket k x).dwellOver = s.dwellOver := rfl

/-! ### `setLive` -/

@[simp] theorem State.setLive_dial (s : State) (k : Fin 24) (x : LiveRecord) :
    (s.setLive k x).dial = s.dial := rfl
@[simp] theorem State.setLive_pockets (s : State) (k : Fin 24) (x : LiveRecord) :
    (s.setLive k x).pockets = s.pockets.set k.val (.live x) := rfl
@[simp] theorem State.setLive_feed (s : State) (k : Fin 24) (x : LiveRecord) :
    (s.setLive k x).feed = s.feed := rfl
@[simp] theorem State.setLive_heads (s : State) (k : Fin 24) (x : LiveRecord) :
    (s.setLive k x).heads = s.heads := rfl
@[simp] theorem State.setLive_forceClass (s : State) (k : Fin 24) (x : LiveRecord) :
    (s.setLive k x).forceClass = s.forceClass := rfl
@[simp] theorem State.setLive_check (s : State) (k : Fin 24) (x : LiveRecord) :
    (s.setLive k x).check = s.check := rfl
@[simp] theorem State.setLive_gates (s : State) (k : Fin 24) (x : LiveRecord) :
    (s.setLive k x).gates = s.gates := rfl
@[simp] theorem State.setLive_banks (s : State) (k : Fin 24) (x : LiveRecord) :
    (s.setLive k x).banks = s.banks := rfl
@[simp] theorem State.setLive_lot (s : State) (k : Fin 24) (x : LiveRecord) :
    (s.setLive k x).lot = s.lot := rfl
@[simp] theorem State.setLive_faults (s : State) (k : Fin 24) (x : LiveRecord) :
    (s.setLive k x).faults = s.faults := rfl
@[simp] theorem State.setLive_link (s : State) (k : Fin 24) (x : LiveRecord) :
    (s.setLive k x).link = s.link := rfl
@[simp] theorem State.setLive_lines (s : State) (k : Fin 24) (x : LiveRecord) :
    (s.setLive k x).lines = s.lines := rfl
@[simp] theorem State.setLive_pending (s : State) (k : Fin 24) (x : LiveRecord) :
    (s.setLive k x).pending = s.pending := rfl
@[simp] theorem State.setLive_head (s : State) (k : Fin 24) (x : LiveRecord) (h : Head) :
    (s.setLive k x).head h = s.head h := rfl
@[simp] theorem State.setLive_inService (s : State) (k : Fin 24) (x : LiveRecord) (h : Head) :
    (s.setLive k x).inService h = s.inService h := rfl
@[simp] theorem State.setLive_bin (s : State) (k : Fin 24) (x : LiveRecord) (g : Fin 12) :
    (s.setLive k x).bin g = s.bin g := rfl
@[simp] theorem State.setLive_ejector (s : State) (k : Fin 24) (x : LiveRecord) (c : Chute) :
    (s.setLive k x).ejector c = s.ejector c := rfl
@[simp] theorem State.setLive_isBusy (s : State) (k : Fin 24) (x : LiveRecord) (st : Station) :
    (s.setLive k x).isBusy st = s.isBusy st := rfl
@[simp] theorem State.setLive_busyEmpty (s : State) (k : Fin 24) (x : LiveRecord) :
    (s.setLive k x).busyEmpty = s.busyEmpty := rfl
@[simp] theorem State.setLive_isCurrentLot (s : State) (k : Fin 24) (x : LiveRecord) (n : Nat) :
    (s.setLive k x).isCurrentLot n = s.isCurrentLot n := rfl
@[simp] theorem State.setLive_isCurrentPart (s : State) (k : Fin 24) (x : LiveRecord) (r : LiveRecord) :
    (s.setLive k x).isCurrentPart r = s.isCurrentPart r := rfl
@[simp] theorem State.setLive_noHead (s : State) (k : Fin 24) (x : LiveRecord) :
    (s.setLive k x).noHead = s.noHead := rfl
@[simp] theorem State.setLive_dwellOver (s : State) (k : Fin 24) (x : LiveRecord) :
    (s.setLive k x).dwellOver = s.dwellOver := rfl

/-! ### `mapLive` -/

@[simp] theorem State.mapLive_dial (s : State) (f : LiveRecord → PocketRecord) :
    (s.mapLive f).dial = s.dial := State.dial_ofPockets s _
@[simp] theorem State.mapLive_feed (s : State) (f : LiveRecord → PocketRecord) :
    (s.mapLive f).feed = s.feed := State.feed_ofPockets s _
@[simp] theorem State.mapLive_heads (s : State) (f : LiveRecord → PocketRecord) :
    (s.mapLive f).heads = s.heads := State.heads_ofPockets s _
@[simp] theorem State.mapLive_forceClass (s : State) (f : LiveRecord → PocketRecord) :
    (s.mapLive f).forceClass = s.forceClass := State.forceClass_ofPockets s _
@[simp] theorem State.mapLive_check (s : State) (f : LiveRecord → PocketRecord) :
    (s.mapLive f).check = s.check := State.check_ofPockets s _
@[simp] theorem State.mapLive_gates (s : State) (f : LiveRecord → PocketRecord) :
    (s.mapLive f).gates = s.gates := State.gates_ofPockets s _
@[simp] theorem State.mapLive_banks (s : State) (f : LiveRecord → PocketRecord) :
    (s.mapLive f).banks = s.banks := State.banks_ofPockets s _
@[simp] theorem State.mapLive_lot (s : State) (f : LiveRecord → PocketRecord) :
    (s.mapLive f).lot = s.lot := State.lot_ofPockets s _
@[simp] theorem State.mapLive_faults (s : State) (f : LiveRecord → PocketRecord) :
    (s.mapLive f).faults = s.faults := State.faults_ofPockets s _
@[simp] theorem State.mapLive_link (s : State) (f : LiveRecord → PocketRecord) :
    (s.mapLive f).link = s.link := State.link_ofPockets s _
@[simp] theorem State.mapLive_lines (s : State) (f : LiveRecord → PocketRecord) :
    (s.mapLive f).lines = s.lines := State.lines_ofPockets s _
@[simp] theorem State.mapLive_pending (s : State) (f : LiveRecord → PocketRecord) :
    (s.mapLive f).pending = s.pending := State.pending_ofPockets s _
@[simp] theorem State.mapLive_head (s : State) (f : LiveRecord → PocketRecord) (h : Head) :
    (s.mapLive f).head h = s.head h := State.head_ofPockets s _ h
@[simp] theorem State.mapLive_inService (s : State) (f : LiveRecord → PocketRecord) (h : Head) :
    (s.mapLive f).inService h = s.inService h := State.inService_ofPockets s _ h
@[simp] theorem State.mapLive_bin (s : State) (f : LiveRecord → PocketRecord) (g : Fin 12) :
    (s.mapLive f).bin g = s.bin g := State.bin_ofPockets s _ g
@[simp] theorem State.mapLive_ejector (s : State) (f : LiveRecord → PocketRecord) (c : Chute) :
    (s.mapLive f).ejector c = s.ejector c := State.ejector_ofPockets s _ c
@[simp] theorem State.mapLive_isBusy (s : State) (f : LiveRecord → PocketRecord) (st : Station) :
    (s.mapLive f).isBusy st = s.isBusy st := State.isBusy_ofPockets s _ st
@[simp] theorem State.mapLive_busyEmpty (s : State) (f : LiveRecord → PocketRecord) :
    (s.mapLive f).busyEmpty = s.busyEmpty := State.busyEmpty_ofPockets s _
@[simp] theorem State.mapLive_isCurrentLot (s : State) (f : LiveRecord → PocketRecord) (n : Nat) :
    (s.mapLive f).isCurrentLot n = s.isCurrentLot n := State.isCurrentLot_ofPockets s _ n
@[simp] theorem State.mapLive_isCurrentPart (s : State) (f : LiveRecord → PocketRecord) (r : LiveRecord) :
    (s.mapLive f).isCurrentPart r = s.isCurrentPart r := State.isCurrentPart_ofPockets s _ r
@[simp] theorem State.mapLive_noHead (s : State) (f : LiveRecord → PocketRecord) :
    (s.mapLive f).noHead = s.noHead := State.noHead_ofPockets s _
@[simp] theorem State.mapLive_dwellOver (s : State) (f : LiveRecord → PocketRecord) :
    (s.mapLive f).dwellOver = s.dwellOver := State.dwellOver_ofPockets s _

/-! ### `onHead` -/

@[simp] theorem State.onHead_dial (s : State) (k : Head) (f : HeadUnit → HeadUnit) :
    (s.onHead k f).dial = s.dial := rfl
@[simp] theorem State.onHead_pockets (s : State) (k : Head) (f : HeadUnit → HeadUnit) :
    (s.onHead k f).pockets = s.pockets := rfl
@[simp] theorem State.onHead_feed (s : State) (k : Head) (f : HeadUnit → HeadUnit) :
    (s.onHead k f).feed = s.feed := rfl
@[simp] theorem State.onHead_heads (s : State) (k : Head) (f : HeadUnit → HeadUnit) :
    (s.onHead k f).heads = s.heads.set k (f (s.head k)) := rfl
@[simp] theorem State.onHead_forceClass (s : State) (k : Head) (f : HeadUnit → HeadUnit) :
    (s.onHead k f).forceClass = s.forceClass := rfl
@[simp] theorem State.onHead_check (s : State) (k : Head) (f : HeadUnit → HeadUnit) :
    (s.onHead k f).check = s.check := rfl
@[simp] theorem State.onHead_gates (s : State) (k : Head) (f : HeadUnit → HeadUnit) :
    (s.onHead k f).gates = s.gates := rfl
@[simp] theorem State.onHead_banks (s : State) (k : Head) (f : HeadUnit → HeadUnit) :
    (s.onHead k f).banks = s.banks := rfl
@[simp] theorem State.onHead_lot (s : State) (k : Head) (f : HeadUnit → HeadUnit) :
    (s.onHead k f).lot = s.lot := rfl
@[simp] theorem State.onHead_faults (s : State) (k : Head) (f : HeadUnit → HeadUnit) :
    (s.onHead k f).faults = s.faults := rfl
@[simp] theorem State.onHead_link (s : State) (k : Head) (f : HeadUnit → HeadUnit) :
    (s.onHead k f).link = s.link := rfl
@[simp] theorem State.onHead_lines (s : State) (k : Head) (f : HeadUnit → HeadUnit) :
    (s.onHead k f).lines = s.lines := rfl
@[simp] theorem State.onHead_pending (s : State) (k : Head) (f : HeadUnit → HeadUnit) :
    (s.onHead k f).pending = s.pending := rfl
@[simp] theorem State.onHead_pocket (s : State) (k : Head) (f : HeadUnit → HeadUnit) (p : Fin 24) :
    (s.onHead k f).pocket p = s.pocket p := rfl
@[simp] theorem State.onHead_bin (s : State) (k : Head) (f : HeadUnit → HeadUnit) (g : Fin 12) :
    (s.onHead k f).bin g = s.bin g := rfl
@[simp] theorem State.onHead_ejector (s : State) (k : Head) (f : HeadUnit → HeadUnit) (c : Chute) :
    (s.onHead k f).ejector c = s.ejector c := rfl
@[simp] theorem State.onHead_isBusy (s : State) (k : Head) (f : HeadUnit → HeadUnit) (st : Station) :
    (s.onHead k f).isBusy st = s.isBusy st := rfl
@[simp] theorem State.onHead_busyEmpty (s : State) (k : Head) (f : HeadUnit → HeadUnit) :
    (s.onHead k f).busyEmpty = s.busyEmpty := rfl
@[simp] theorem State.onHead_isCurrentLot (s : State) (k : Head) (f : HeadUnit → HeadUnit) (n : Nat) :
    (s.onHead k f).isCurrentLot n = s.isCurrentLot n := rfl
@[simp] theorem State.onHead_isCurrentPart (s : State) (k : Head) (f : HeadUnit → HeadUnit) (r : LiveRecord) :
    (s.onHead k f).isCurrentPart r = s.isCurrentPart r := rfl
@[simp] theorem State.onHead_recordsUnknown (s : State) (k : Head) (f : HeadUnit → HeadUnit) :
    (s.onHead k f).recordsUnknown = s.recordsUnknown := rfl
@[simp] theorem State.onHead_dwellOver (s : State) (k : Head) (f : HeadUnit → HeadUnit) :
    (s.onHead k f).dwellOver = s.dwellOver := rfl

/-! ### `onBin` -/

@[simp] theorem State.onBin_dial (s : State) (k : Fin 12) (f : Bin → Bin) : (s.onBin k f).dial = s.dial := rfl
@[simp] theorem State.onBin_pockets (s : State) (k : Fin 12) (f : Bin → Bin) :
    (s.onBin k f).pockets = s.pockets := rfl
@[simp] theorem State.onBin_feed (s : State) (k : Fin 12) (f : Bin → Bin) : (s.onBin k f).feed = s.feed := rfl
@[simp] theorem State.onBin_heads (s : State) (k : Fin 12) (f : Bin → Bin) :
    (s.onBin k f).heads = s.heads := rfl
@[simp] theorem State.onBin_forceClass (s : State) (k : Fin 12) (f : Bin → Bin) :
    (s.onBin k f).forceClass = s.forceClass := rfl
@[simp] theorem State.onBin_check (s : State) (k : Fin 12) (f : Bin → Bin) :
    (s.onBin k f).check = s.check := rfl
@[simp] theorem State.onBin_gates (s : State) (k : Fin 12) (f : Bin → Bin) :
    (s.onBin k f).gates = { s.gates with bins := s.gates.bins.set k.val (f (s.bin k)) } := rfl
@[simp] theorem State.onBin_banks (s : State) (k : Fin 12) (f : Bin → Bin) :
    (s.onBin k f).banks = s.banks := rfl
@[simp] theorem State.onBin_lot (s : State) (k : Fin 12) (f : Bin → Bin) : (s.onBin k f).lot = s.lot := rfl
@[simp] theorem State.onBin_faults (s : State) (k : Fin 12) (f : Bin → Bin) :
    (s.onBin k f).faults = s.faults := rfl
@[simp] theorem State.onBin_link (s : State) (k : Fin 12) (f : Bin → Bin) : (s.onBin k f).link = s.link := rfl
@[simp] theorem State.onBin_lines (s : State) (k : Fin 12) (f : Bin → Bin) :
    (s.onBin k f).lines = s.lines := rfl
@[simp] theorem State.onBin_pending (s : State) (k : Fin 12) (f : Bin → Bin) :
    (s.onBin k f).pending = s.pending := rfl
@[simp] theorem State.onBin_pocket (s : State) (k : Fin 12) (f : Bin → Bin) (p : Fin 24) :
    (s.onBin k f).pocket p = s.pocket p := rfl
@[simp] theorem State.onBin_head (s : State) (k : Fin 12) (f : Bin → Bin) (h : Head) :
    (s.onBin k f).head h = s.head h := rfl
@[simp] theorem State.onBin_inService (s : State) (k : Fin 12) (f : Bin → Bin) (h : Head) :
    (s.onBin k f).inService h = s.inService h := rfl
@[simp] theorem State.onBin_isBusy (s : State) (k : Fin 12) (f : Bin → Bin) (st : Station) :
    (s.onBin k f).isBusy st = s.isBusy st := rfl
@[simp] theorem State.onBin_busyEmpty (s : State) (k : Fin 12) (f : Bin → Bin) :
    (s.onBin k f).busyEmpty = s.busyEmpty := rfl
@[simp] theorem State.onBin_isCurrentLot (s : State) (k : Fin 12) (f : Bin → Bin) (n : Nat) :
    (s.onBin k f).isCurrentLot n = s.isCurrentLot n := rfl
@[simp] theorem State.onBin_isCurrentPart (s : State) (k : Fin 12) (f : Bin → Bin) (r : LiveRecord) :
    (s.onBin k f).isCurrentPart r = s.isCurrentPart r := rfl
@[simp] theorem State.onBin_noHead (s : State) (k : Fin 12) (f : Bin → Bin) :
    (s.onBin k f).noHead = s.noHead := rfl
@[simp] theorem State.onBin_recordsUnknown (s : State) (k : Fin 12) (f : Bin → Bin) :
    (s.onBin k f).recordsUnknown = s.recordsUnknown := rfl
@[simp] theorem State.onBin_flags (s : State) (k : Fin 12) (f : Bin → Bin) :
    (s.onBin k f).flags = s.flags := rfl
@[simp] theorem State.onBin_anySevere (s : State) (k : Fin 12) (f : Bin → Bin) :
    (s.onBin k f).anySevere = s.anySevere := rfl
@[simp] theorem State.onBin_dwellOver (s : State) (k : Fin 12) (f : Bin → Bin) :
    (s.onBin k f).dwellOver = s.dwellOver := rfl

/-! ### `onEjector` -/

@[simp] theorem State.onEjector_dial (s : State) (k : Chute) (f : Ejector → Ejector) :
    (s.onEjector k f).dial = s.dial := rfl
@[simp] theorem State.onEjector_pockets (s : State) (k : Chute) (f : Ejector → Ejector) :
    (s.onEjector k f).pockets = s.pockets := rfl
@[simp] theorem State.onEjector_feed (s : State) (k : Chute) (f : Ejector → Ejector) :
    (s.onEjector k f).feed = s.feed := rfl
@[simp] theorem State.onEjector_heads (s : State) (k : Chute) (f : Ejector → Ejector) :
    (s.onEjector k f).heads = s.heads := rfl
@[simp] theorem State.onEjector_forceClass (s : State) (k : Chute) (f : Ejector → Ejector) :
    (s.onEjector k f).forceClass = s.forceClass := rfl
@[simp] theorem State.onEjector_check (s : State) (k : Chute) (f : Ejector → Ejector) :
    (s.onEjector k f).check = s.check := rfl
@[simp] theorem State.onEjector_gates (s : State) (k : Chute) (f : Ejector → Ejector) :
    (s.onEjector k f).gates =
      { s.gates with ejectors := s.gates.ejectors.set (chuteIndex k).val (f (s.ejector k)) } := rfl
@[simp] theorem State.onEjector_banks (s : State) (k : Chute) (f : Ejector → Ejector) :
    (s.onEjector k f).banks = s.banks := rfl
@[simp] theorem State.onEjector_lot (s : State) (k : Chute) (f : Ejector → Ejector) :
    (s.onEjector k f).lot = s.lot := rfl
@[simp] theorem State.onEjector_faults (s : State) (k : Chute) (f : Ejector → Ejector) :
    (s.onEjector k f).faults = s.faults := rfl
@[simp] theorem State.onEjector_link (s : State) (k : Chute) (f : Ejector → Ejector) :
    (s.onEjector k f).link = s.link := rfl
@[simp] theorem State.onEjector_lines (s : State) (k : Chute) (f : Ejector → Ejector) :
    (s.onEjector k f).lines = s.lines := rfl
@[simp] theorem State.onEjector_pending (s : State) (k : Chute) (f : Ejector → Ejector) :
    (s.onEjector k f).pending = s.pending := rfl
@[simp] theorem State.onEjector_pocket (s : State) (k : Chute) (f : Ejector → Ejector) (p : Fin 24) :
    (s.onEjector k f).pocket p = s.pocket p := rfl
@[simp] theorem State.onEjector_head (s : State) (k : Chute) (f : Ejector → Ejector) (h : Head) :
    (s.onEjector k f).head h = s.head h := rfl
@[simp] theorem State.onEjector_inService (s : State) (k : Chute) (f : Ejector → Ejector) (h : Head) :
    (s.onEjector k f).inService h = s.inService h := rfl
@[simp] theorem State.onEjector_isBusy (s : State) (k : Chute) (f : Ejector → Ejector) (st : Station) :
    (s.onEjector k f).isBusy st = s.isBusy st := rfl
@[simp] theorem State.onEjector_busyEmpty (s : State) (k : Chute) (f : Ejector → Ejector) :
    (s.onEjector k f).busyEmpty = s.busyEmpty := rfl
@[simp] theorem State.onEjector_isCurrentLot (s : State) (k : Chute) (f : Ejector → Ejector) (n : Nat) :
    (s.onEjector k f).isCurrentLot n = s.isCurrentLot n := rfl
@[simp] theorem State.onEjector_isCurrentPart (s : State) (k : Chute) (f : Ejector → Ejector) (r : LiveRecord) :
    (s.onEjector k f).isCurrentPart r =
      s.isCurrentPart r := rfl
@[simp] theorem State.onEjector_noHead (s : State) (k : Chute) (f : Ejector → Ejector) :
    (s.onEjector k f).noHead = s.noHead := rfl
@[simp] theorem State.onEjector_recordsUnknown (s : State) (k : Chute) (f : Ejector → Ejector) :
    (s.onEjector k f).recordsUnknown = s.recordsUnknown := rfl
@[simp] theorem State.onEjector_flags (s : State) (k : Chute) (f : Ejector → Ejector) :
    (s.onEjector k f).flags = s.flags := rfl
@[simp] theorem State.onEjector_anySevere (s : State) (k : Chute) (f : Ejector → Ejector) :
    (s.onEjector k f).anySevere = s.anySevere := rfl
@[simp] theorem State.onEjector_dwellOver (s : State) (k : Chute) (f : Ejector → Ejector) :
    (s.onEjector k f).dwellOver = s.dwellOver := rfl

/-! ### `raise` -/

@[simp] theorem State.raise_dial (s : State) (f : Flag) : (s.raise f).dial = s.dial := rfl
@[simp] theorem State.raise_pockets (s : State) (f : Flag) : (s.raise f).pockets = s.pockets := rfl
@[simp] theorem State.raise_feed (s : State) (f : Flag) : (s.raise f).feed = s.feed := rfl
@[simp] theorem State.raise_heads (s : State) (f : Flag) : (s.raise f).heads = s.heads := rfl
@[simp] theorem State.raise_forceClass (s : State) (f : Flag) : (s.raise f).forceClass = s.forceClass := rfl
@[simp] theorem State.raise_check (s : State) (f : Flag) : (s.raise f).check = s.check := rfl
@[simp] theorem State.raise_gates (s : State) (f : Flag) : (s.raise f).gates = s.gates := rfl
@[simp] theorem State.raise_banks (s : State) (f : Flag) : (s.raise f).banks = s.banks := rfl
@[simp] theorem State.raise_lot (s : State) (f : Flag) : (s.raise f).lot = s.lot := rfl
@[simp] theorem State.raise_faults (s : State) (f : Flag) :
    (s.raise f).faults = { s.faults with events := s.faults.events ||| f.bit } := rfl
@[simp] theorem State.raise_link (s : State) (f : Flag) : (s.raise f).link = s.link := rfl
@[simp] theorem State.raise_lines (s : State) (f : Flag) : (s.raise f).lines = s.lines := rfl
@[simp] theorem State.raise_pending (s : State) (f : Flag) : (s.raise f).pending = s.pending := rfl
@[simp] theorem State.raise_pocket (s : State) (f : Flag) (p : Fin 24) :
    (s.raise f).pocket p = s.pocket p := rfl
@[simp] theorem State.raise_head (s : State) (f : Flag) (h : Head) : (s.raise f).head h = s.head h := rfl
@[simp] theorem State.raise_inService (s : State) (f : Flag) (h : Head) :
    (s.raise f).inService h = s.inService h := rfl
@[simp] theorem State.raise_bin (s : State) (f : Flag) (g : Fin 12) : (s.raise f).bin g = s.bin g := rfl
@[simp] theorem State.raise_ejector (s : State) (f : Flag) (c : Chute) :
    (s.raise f).ejector c = s.ejector c := rfl
@[simp] theorem State.raise_isBusy (s : State) (f : Flag) (st : Station) :
    (s.raise f).isBusy st = s.isBusy st := rfl
@[simp] theorem State.raise_busyEmpty (s : State) (f : Flag) : (s.raise f).busyEmpty = s.busyEmpty := rfl
@[simp] theorem State.raise_isCurrentLot (s : State) (f : Flag) (n : Nat) :
    (s.raise f).isCurrentLot n = s.isCurrentLot n := rfl
@[simp] theorem State.raise_isCurrentPart (s : State) (f : Flag) (r : LiveRecord) :
    (s.raise f).isCurrentPart r = s.isCurrentPart r := rfl
@[simp] theorem State.raise_noHead (s : State) (f : Flag) : (s.raise f).noHead = s.noHead := rfl
@[simp] theorem State.raise_recordsUnknown (s : State) (f : Flag) :
    (s.raise f).recordsUnknown = s.recordsUnknown := rfl
@[simp] theorem State.raise_dwellOver (s : State) (f : Flag) : (s.raise f).dwellOver = s.dwellOver := rfl

/-! ### `raiseGateBlocked` -/

@[simp] theorem State.raiseGateBlocked_dial (s : State) (k : Fin 12) :
    (s.raiseGateBlocked k).dial = s.dial := rfl
@[simp] theorem State.raiseGateBlocked_pockets (s : State) (k : Fin 12) :
    (s.raiseGateBlocked k).pockets = s.pockets := rfl
@[simp] theorem State.raiseGateBlocked_feed (s : State) (k : Fin 12) :
    (s.raiseGateBlocked k).feed = s.feed := rfl
@[simp] theorem State.raiseGateBlocked_heads (s : State) (k : Fin 12) :
    (s.raiseGateBlocked k).heads = s.heads := rfl
@[simp] theorem State.raiseGateBlocked_forceClass (s : State) (k : Fin 12) :
    (s.raiseGateBlocked k).forceClass = s.forceClass := rfl
@[simp] theorem State.raiseGateBlocked_check (s : State) (k : Fin 12) :
    (s.raiseGateBlocked k).check = s.check := rfl
@[simp] theorem State.raiseGateBlocked_gates (s : State) (k : Fin 12) :
    (s.raiseGateBlocked k).gates = s.gates := rfl
@[simp] theorem State.raiseGateBlocked_banks (s : State) (k : Fin 12) :
    (s.raiseGateBlocked k).banks = s.banks := rfl
@[simp] theorem State.raiseGateBlocked_lot (s : State) (k : Fin 12) :
    (s.raiseGateBlocked k).lot = s.lot := rfl
@[simp] theorem State.raiseGateBlocked_faults (s : State) (k : Fin 12) :
    (s.raiseGateBlocked k).faults =
      { s.faults with
        events := s.faults.events ||| Flag.gateBlocked.bit
        gateBlockedBins := s.faults.gateBlockedBins ||| (1#12 <<< k.val) } := rfl
@[simp] theorem State.raiseGateBlocked_link (s : State) (k : Fin 12) :
    (s.raiseGateBlocked k).link = s.link := rfl
@[simp] theorem State.raiseGateBlocked_lines (s : State) (k : Fin 12) :
    (s.raiseGateBlocked k).lines = s.lines := rfl
@[simp] theorem State.raiseGateBlocked_pending (s : State) (k : Fin 12) :
    (s.raiseGateBlocked k).pending = s.pending := rfl
@[simp] theorem State.raiseGateBlocked_pocket (s : State) (k : Fin 12) (p : Fin 24) :
    (s.raiseGateBlocked k).pocket p = s.pocket p := rfl
@[simp] theorem State.raiseGateBlocked_head (s : State) (k : Fin 12) (h : Head) :
    (s.raiseGateBlocked k).head h = s.head h := rfl
@[simp] theorem State.raiseGateBlocked_inService (s : State) (k : Fin 12) (h : Head) :
    (s.raiseGateBlocked k).inService h = s.inService h := rfl
@[simp] theorem State.raiseGateBlocked_bin (s : State) (k : Fin 12) (g : Fin 12) :
    (s.raiseGateBlocked k).bin g = s.bin g := rfl
@[simp] theorem State.raiseGateBlocked_ejector (s : State) (k : Fin 12) (c : Chute) :
    (s.raiseGateBlocked k).ejector c = s.ejector c := rfl
@[simp] theorem State.raiseGateBlocked_isBusy (s : State) (k : Fin 12) (st : Station) :
    (s.raiseGateBlocked k).isBusy st = s.isBusy st := rfl
@[simp] theorem State.raiseGateBlocked_busyEmpty (s : State) (k : Fin 12) :
    (s.raiseGateBlocked k).busyEmpty = s.busyEmpty := rfl
@[simp] theorem State.raiseGateBlocked_isCurrentLot (s : State) (k : Fin 12) (n : Nat) :
    (s.raiseGateBlocked k).isCurrentLot n = s.isCurrentLot n := rfl
@[simp] theorem State.raiseGateBlocked_isCurrentPart (s : State) (k : Fin 12) (r : LiveRecord) :
    (s.raiseGateBlocked k).isCurrentPart r = s.isCurrentPart r := rfl
@[simp] theorem State.raiseGateBlocked_noHead (s : State) (k : Fin 12) :
    (s.raiseGateBlocked k).noHead = s.noHead := rfl
@[simp] theorem State.raiseGateBlocked_recordsUnknown (s : State) (k : Fin 12) :
    (s.raiseGateBlocked k).recordsUnknown = s.recordsUnknown := rfl
@[simp] theorem State.raiseGateBlocked_dwellOver (s : State) (k : Fin 12) :
    (s.raiseGateBlocked k).dwellOver = s.dwellOver := rfl

/-! ### `raiseNearFull` -/

@[simp] theorem State.raiseNearFull_dial (s : State) (k : Fin 12) : (s.raiseNearFull k).dial = s.dial := rfl
@[simp] theorem State.raiseNearFull_pockets (s : State) (k : Fin 12) :
    (s.raiseNearFull k).pockets = s.pockets := rfl
@[simp] theorem State.raiseNearFull_feed (s : State) (k : Fin 12) : (s.raiseNearFull k).feed = s.feed := rfl
@[simp] theorem State.raiseNearFull_heads (s : State) (k : Fin 12) :
    (s.raiseNearFull k).heads = s.heads := rfl
@[simp] theorem State.raiseNearFull_forceClass (s : State) (k : Fin 12) :
    (s.raiseNearFull k).forceClass = s.forceClass := rfl
@[simp] theorem State.raiseNearFull_check (s : State) (k : Fin 12) :
    (s.raiseNearFull k).check = s.check := rfl
@[simp] theorem State.raiseNearFull_gates (s : State) (k : Fin 12) :
    (s.raiseNearFull k).gates = s.gates := rfl
@[simp] theorem State.raiseNearFull_banks (s : State) (k : Fin 12) :
    (s.raiseNearFull k).banks = s.banks := rfl
@[simp] theorem State.raiseNearFull_lot (s : State) (k : Fin 12) : (s.raiseNearFull k).lot = s.lot := rfl
@[simp] theorem State.raiseNearFull_faults (s : State) (k : Fin 12) :
    (s.raiseNearFull k).faults =
      { s.faults with
        events := s.faults.events ||| Flag.binNearFull.bit
        nearFullBins := s.faults.nearFullBins ||| (1#12 <<< k.val) } := rfl
@[simp] theorem State.raiseNearFull_link (s : State) (k : Fin 12) : (s.raiseNearFull k).link = s.link := rfl
@[simp] theorem State.raiseNearFull_lines (s : State) (k : Fin 12) :
    (s.raiseNearFull k).lines = s.lines := rfl
@[simp] theorem State.raiseNearFull_pending (s : State) (k : Fin 12) :
    (s.raiseNearFull k).pending = s.pending := rfl
@[simp] theorem State.raiseNearFull_pocket (s : State) (k : Fin 12) (p : Fin 24) :
    (s.raiseNearFull k).pocket p = s.pocket p := rfl
@[simp] theorem State.raiseNearFull_head (s : State) (k : Fin 12) (h : Head) :
    (s.raiseNearFull k).head h = s.head h := rfl
@[simp] theorem State.raiseNearFull_inService (s : State) (k : Fin 12) (h : Head) :
    (s.raiseNearFull k).inService h = s.inService h := rfl
@[simp] theorem State.raiseNearFull_bin (s : State) (k : Fin 12) (g : Fin 12) :
    (s.raiseNearFull k).bin g = s.bin g := rfl
@[simp] theorem State.raiseNearFull_ejector (s : State) (k : Fin 12) (c : Chute) :
    (s.raiseNearFull k).ejector c = s.ejector c := rfl
@[simp] theorem State.raiseNearFull_isBusy (s : State) (k : Fin 12) (st : Station) :
    (s.raiseNearFull k).isBusy st = s.isBusy st := rfl
@[simp] theorem State.raiseNearFull_busyEmpty (s : State) (k : Fin 12) :
    (s.raiseNearFull k).busyEmpty = s.busyEmpty := rfl
@[simp] theorem State.raiseNearFull_isCurrentLot (s : State) (k : Fin 12) (n : Nat) :
    (s.raiseNearFull k).isCurrentLot n = s.isCurrentLot n := rfl
@[simp] theorem State.raiseNearFull_isCurrentPart (s : State) (k : Fin 12) (r : LiveRecord) :
    (s.raiseNearFull k).isCurrentPart r = s.isCurrentPart r := rfl
@[simp] theorem State.raiseNearFull_noHead (s : State) (k : Fin 12) :
    (s.raiseNearFull k).noHead = s.noHead := rfl
@[simp] theorem State.raiseNearFull_recordsUnknown (s : State) (k : Fin 12) :
    (s.raiseNearFull k).recordsUnknown = s.recordsUnknown := rfl
@[simp] theorem State.raiseNearFull_dwellOver (s : State) (k : Fin 12) :
    (s.raiseNearFull k).dwellOver = s.dwellOver := rfl

/-! ### `raiseFull` -/

@[simp] theorem State.raiseFull_dial (s : State) (k : Fin 12) : (s.raiseFull k).dial = s.dial := rfl
@[simp] theorem State.raiseFull_pockets (s : State) (k : Fin 12) : (s.raiseFull k).pockets = s.pockets := rfl
@[simp] theorem State.raiseFull_feed (s : State) (k : Fin 12) : (s.raiseFull k).feed = s.feed := rfl
@[simp] theorem State.raiseFull_heads (s : State) (k : Fin 12) : (s.raiseFull k).heads = s.heads := rfl
@[simp] theorem State.raiseFull_forceClass (s : State) (k : Fin 12) :
    (s.raiseFull k).forceClass = s.forceClass := rfl
@[simp] theorem State.raiseFull_check (s : State) (k : Fin 12) : (s.raiseFull k).check = s.check := rfl
@[simp] theorem State.raiseFull_gates (s : State) (k : Fin 12) : (s.raiseFull k).gates = s.gates := rfl
@[simp] theorem State.raiseFull_banks (s : State) (k : Fin 12) : (s.raiseFull k).banks = s.banks := rfl
@[simp] theorem State.raiseFull_lot (s : State) (k : Fin 12) : (s.raiseFull k).lot = s.lot := rfl
@[simp] theorem State.raiseFull_faults (s : State) (k : Fin 12) :
    (s.raiseFull k).faults =
      { s.faults with
        events := s.faults.events ||| Flag.binFull.bit
        fullBins := s.faults.fullBins ||| (1#12 <<< k.val) } := rfl
@[simp] theorem State.raiseFull_link (s : State) (k : Fin 12) : (s.raiseFull k).link = s.link := rfl
@[simp] theorem State.raiseFull_lines (s : State) (k : Fin 12) : (s.raiseFull k).lines = s.lines := rfl
@[simp] theorem State.raiseFull_pending (s : State) (k : Fin 12) : (s.raiseFull k).pending = s.pending := rfl
@[simp] theorem State.raiseFull_pocket (s : State) (k : Fin 12) (p : Fin 24) :
    (s.raiseFull k).pocket p = s.pocket p := rfl
@[simp] theorem State.raiseFull_head (s : State) (k : Fin 12) (h : Head) :
    (s.raiseFull k).head h = s.head h := rfl
@[simp] theorem State.raiseFull_inService (s : State) (k : Fin 12) (h : Head) :
    (s.raiseFull k).inService h = s.inService h := rfl
@[simp] theorem State.raiseFull_bin (s : State) (k : Fin 12) (g : Fin 12) :
    (s.raiseFull k).bin g = s.bin g := rfl
@[simp] theorem State.raiseFull_ejector (s : State) (k : Fin 12) (c : Chute) :
    (s.raiseFull k).ejector c = s.ejector c := rfl
@[simp] theorem State.raiseFull_isBusy (s : State) (k : Fin 12) (st : Station) :
    (s.raiseFull k).isBusy st = s.isBusy st := rfl
@[simp] theorem State.raiseFull_busyEmpty (s : State) (k : Fin 12) :
    (s.raiseFull k).busyEmpty = s.busyEmpty := rfl
@[simp] theorem State.raiseFull_isCurrentLot (s : State) (k : Fin 12) (n : Nat) :
    (s.raiseFull k).isCurrentLot n = s.isCurrentLot n := rfl
@[simp] theorem State.raiseFull_isCurrentPart (s : State) (k : Fin 12) (r : LiveRecord) :
    (s.raiseFull k).isCurrentPart r = s.isCurrentPart r := rfl
@[simp] theorem State.raiseFull_noHead (s : State) (k : Fin 12) : (s.raiseFull k).noHead = s.noHead := rfl
@[simp] theorem State.raiseFull_recordsUnknown (s : State) (k : Fin 12) :
    (s.raiseFull k).recordsUnknown = s.recordsUnknown := rfl
@[simp] theorem State.raiseFull_dwellOver (s : State) (k : Fin 12) :
    (s.raiseFull k).dwellOver = s.dwellOver := rfl

/-! ### `raiseUnsorted` -/

@[simp] theorem State.raiseUnsorted_dial (s : State) (x : Option (Fin 12)) :
    (s.raiseUnsorted x).dial = s.dial := rfl
@[simp] theorem State.raiseUnsorted_pockets (s : State) (x : Option (Fin 12)) :
    (s.raiseUnsorted x).pockets = s.pockets := rfl
@[simp] theorem State.raiseUnsorted_feed (s : State) (x : Option (Fin 12)) :
    (s.raiseUnsorted x).feed = s.feed := rfl
@[simp] theorem State.raiseUnsorted_heads (s : State) (x : Option (Fin 12)) :
    (s.raiseUnsorted x).heads = s.heads := rfl
@[simp] theorem State.raiseUnsorted_forceClass (s : State) (x : Option (Fin 12)) :
    (s.raiseUnsorted x).forceClass = s.forceClass := rfl
@[simp] theorem State.raiseUnsorted_check (s : State) (x : Option (Fin 12)) :
    (s.raiseUnsorted x).check = s.check := rfl
@[simp] theorem State.raiseUnsorted_gates (s : State) (x : Option (Fin 12)) :
    (s.raiseUnsorted x).gates = s.gates := rfl
@[simp] theorem State.raiseUnsorted_banks (s : State) (x : Option (Fin 12)) :
    (s.raiseUnsorted x).banks = s.banks := rfl
@[simp] theorem State.raiseUnsorted_lot (s : State) (x : Option (Fin 12)) :
    (s.raiseUnsorted x).lot = s.lot := rfl
@[simp] theorem State.raiseUnsorted_link (s : State) (x : Option (Fin 12)) :
    (s.raiseUnsorted x).link = s.link := rfl
@[simp] theorem State.raiseUnsorted_lines (s : State) (x : Option (Fin 12)) :
    (s.raiseUnsorted x).lines = s.lines := rfl
@[simp] theorem State.raiseUnsorted_pending (s : State) (x : Option (Fin 12)) :
    (s.raiseUnsorted x).pending = s.pending := rfl
@[simp] theorem State.raiseUnsorted_pocket (s : State) (x : Option (Fin 12)) (p : Fin 24) :
    (s.raiseUnsorted x).pocket p = s.pocket p := rfl
@[simp] theorem State.raiseUnsorted_head (s : State) (x : Option (Fin 12)) (h : Head) :
    (s.raiseUnsorted x).head h = s.head h := rfl
@[simp] theorem State.raiseUnsorted_inService (s : State) (x : Option (Fin 12)) (h : Head) :
    (s.raiseUnsorted x).inService h = s.inService h := rfl
@[simp] theorem State.raiseUnsorted_bin (s : State) (x : Option (Fin 12)) (g : Fin 12) :
    (s.raiseUnsorted x).bin g = s.bin g := rfl
@[simp] theorem State.raiseUnsorted_ejector (s : State) (x : Option (Fin 12)) (c : Chute) :
    (s.raiseUnsorted x).ejector c = s.ejector c := rfl
@[simp] theorem State.raiseUnsorted_isBusy (s : State) (x : Option (Fin 12)) (st : Station) :
    (s.raiseUnsorted x).isBusy st = s.isBusy st := rfl
@[simp] theorem State.raiseUnsorted_busyEmpty (s : State) (x : Option (Fin 12)) :
    (s.raiseUnsorted x).busyEmpty = s.busyEmpty := rfl
@[simp] theorem State.raiseUnsorted_isCurrentLot (s : State) (x : Option (Fin 12)) (n : Nat) :
    (s.raiseUnsorted x).isCurrentLot n = s.isCurrentLot n := rfl
@[simp] theorem State.raiseUnsorted_isCurrentPart (s : State) (x : Option (Fin 12)) (r : LiveRecord) :
    (s.raiseUnsorted x).isCurrentPart r = s.isCurrentPart r := rfl
@[simp] theorem State.raiseUnsorted_noHead (s : State) (x : Option (Fin 12)) :
    (s.raiseUnsorted x).noHead = s.noHead := rfl
@[simp] theorem State.raiseUnsorted_recordsUnknown (s : State) (x : Option (Fin 12)) :
    (s.raiseUnsorted x).recordsUnknown = s.recordsUnknown := rfl
@[simp] theorem State.raiseUnsorted_dwellOver (s : State) (x : Option (Fin 12)) :
    (s.raiseUnsorted x).dwellOver = s.dwellOver := rfl

/-! ### `raisePocket` -/

@[simp] theorem State.raisePocket_dial (s : State) (x : PocketCapture) :
    (s.raisePocket x).dial = s.dial := rfl
@[simp] theorem State.raisePocket_pockets (s : State) (x : PocketCapture) :
    (s.raisePocket x).pockets = s.pockets := rfl
@[simp] theorem State.raisePocket_feed (s : State) (x : PocketCapture) :
    (s.raisePocket x).feed = s.feed := rfl
@[simp] theorem State.raisePocket_heads (s : State) (x : PocketCapture) :
    (s.raisePocket x).heads = s.heads := rfl
@[simp] theorem State.raisePocket_forceClass (s : State) (x : PocketCapture) :
    (s.raisePocket x).forceClass = s.forceClass := rfl
@[simp] theorem State.raisePocket_check (s : State) (x : PocketCapture) :
    (s.raisePocket x).check = s.check := rfl
@[simp] theorem State.raisePocket_gates (s : State) (x : PocketCapture) :
    (s.raisePocket x).gates = s.gates := rfl
@[simp] theorem State.raisePocket_banks (s : State) (x : PocketCapture) :
    (s.raisePocket x).banks = s.banks := rfl
@[simp] theorem State.raisePocket_lot (s : State) (x : PocketCapture) : (s.raisePocket x).lot = s.lot := rfl
@[simp] theorem State.raisePocket_faults (s : State) (x : PocketCapture) :
    (s.raisePocket x).faults =
      { s.faults with
        events := s.faults.events ||| x.kind.flag.bit
        pocketCapture := takePocketOffer s.faults.pocketCapture x } := rfl
@[simp] theorem State.raisePocket_link (s : State) (x : PocketCapture) :
    (s.raisePocket x).link = s.link := rfl
@[simp] theorem State.raisePocket_lines (s : State) (x : PocketCapture) :
    (s.raisePocket x).lines = s.lines := rfl
@[simp] theorem State.raisePocket_pending (s : State) (x : PocketCapture) :
    (s.raisePocket x).pending = s.pending := rfl
@[simp] theorem State.raisePocket_pocket (s : State) (x : PocketCapture) (p : Fin 24) :
    (s.raisePocket x).pocket p = s.pocket p := rfl
@[simp] theorem State.raisePocket_head (s : State) (x : PocketCapture) (h : Head) :
    (s.raisePocket x).head h = s.head h := rfl
@[simp] theorem State.raisePocket_inService (s : State) (x : PocketCapture) (h : Head) :
    (s.raisePocket x).inService h = s.inService h := rfl
@[simp] theorem State.raisePocket_bin (s : State) (x : PocketCapture) (g : Fin 12) :
    (s.raisePocket x).bin g = s.bin g := rfl
@[simp] theorem State.raisePocket_ejector (s : State) (x : PocketCapture) (c : Chute) :
    (s.raisePocket x).ejector c = s.ejector c := rfl
@[simp] theorem State.raisePocket_isBusy (s : State) (x : PocketCapture) (st : Station) :
    (s.raisePocket x).isBusy st = s.isBusy st := rfl
@[simp] theorem State.raisePocket_busyEmpty (s : State) (x : PocketCapture) :
    (s.raisePocket x).busyEmpty = s.busyEmpty := rfl
@[simp] theorem State.raisePocket_isCurrentLot (s : State) (x : PocketCapture) (n : Nat) :
    (s.raisePocket x).isCurrentLot n = s.isCurrentLot n := rfl
@[simp] theorem State.raisePocket_isCurrentPart (s : State) (x : PocketCapture) (r : LiveRecord) :
    (s.raisePocket x).isCurrentPart r = s.isCurrentPart r := rfl
@[simp] theorem State.raisePocket_noHead (s : State) (x : PocketCapture) :
    (s.raisePocket x).noHead = s.noHead := rfl
@[simp] theorem State.raisePocket_recordsUnknown (s : State) (x : PocketCapture) :
    (s.raisePocket x).recordsUnknown = s.recordsUnknown := rfl
@[simp] theorem State.raisePocket_dwellOver (s : State) (x : PocketCapture) :
    (s.raisePocket x).dwellOver = s.dwellOver := rfl

/-! ### `raiseHead` -/

@[simp] theorem State.raiseHead_dial (s : State) (x : HeadCapture) : (s.raiseHead x).dial = s.dial := rfl
@[simp] theorem State.raiseHead_pockets (s : State) (x : HeadCapture) :
    (s.raiseHead x).pockets = s.pockets := rfl
@[simp] theorem State.raiseHead_feed (s : State) (x : HeadCapture) : (s.raiseHead x).feed = s.feed := rfl
@[simp] theorem State.raiseHead_heads (s : State) (x : HeadCapture) : (s.raiseHead x).heads = s.heads := rfl
@[simp] theorem State.raiseHead_forceClass (s : State) (x : HeadCapture) :
    (s.raiseHead x).forceClass = s.forceClass := rfl
@[simp] theorem State.raiseHead_check (s : State) (x : HeadCapture) : (s.raiseHead x).check = s.check := rfl
@[simp] theorem State.raiseHead_gates (s : State) (x : HeadCapture) : (s.raiseHead x).gates = s.gates := rfl
@[simp] theorem State.raiseHead_banks (s : State) (x : HeadCapture) : (s.raiseHead x).banks = s.banks := rfl
@[simp] theorem State.raiseHead_lot (s : State) (x : HeadCapture) : (s.raiseHead x).lot = s.lot := rfl
@[simp] theorem State.raiseHead_faults (s : State) (x : HeadCapture) :
    (s.raiseHead x).faults =
      { s.faults with
        events := s.faults.events ||| x.kind.flag.bit
        headCapture := takeHeadOffer s.faults.headCapture x } := rfl
@[simp] theorem State.raiseHead_link (s : State) (x : HeadCapture) : (s.raiseHead x).link = s.link := rfl
@[simp] theorem State.raiseHead_lines (s : State) (x : HeadCapture) : (s.raiseHead x).lines = s.lines := rfl
@[simp] theorem State.raiseHead_pending (s : State) (x : HeadCapture) :
    (s.raiseHead x).pending = s.pending := rfl
@[simp] theorem State.raiseHead_pocket (s : State) (x : HeadCapture) (p : Fin 24) :
    (s.raiseHead x).pocket p = s.pocket p := rfl
@[simp] theorem State.raiseHead_head (s : State) (x : HeadCapture) (h : Head) :
    (s.raiseHead x).head h = s.head h := rfl
@[simp] theorem State.raiseHead_inService (s : State) (x : HeadCapture) (h : Head) :
    (s.raiseHead x).inService h = s.inService h := rfl
@[simp] theorem State.raiseHead_bin (s : State) (x : HeadCapture) (g : Fin 12) :
    (s.raiseHead x).bin g = s.bin g := rfl
@[simp] theorem State.raiseHead_ejector (s : State) (x : HeadCapture) (c : Chute) :
    (s.raiseHead x).ejector c = s.ejector c := rfl
@[simp] theorem State.raiseHead_isBusy (s : State) (x : HeadCapture) (st : Station) :
    (s.raiseHead x).isBusy st = s.isBusy st := rfl
@[simp] theorem State.raiseHead_busyEmpty (s : State) (x : HeadCapture) :
    (s.raiseHead x).busyEmpty = s.busyEmpty := rfl
@[simp] theorem State.raiseHead_isCurrentLot (s : State) (x : HeadCapture) (n : Nat) :
    (s.raiseHead x).isCurrentLot n = s.isCurrentLot n := rfl
@[simp] theorem State.raiseHead_isCurrentPart (s : State) (x : HeadCapture) (r : LiveRecord) :
    (s.raiseHead x).isCurrentPart r = s.isCurrentPart r := rfl
@[simp] theorem State.raiseHead_noHead (s : State) (x : HeadCapture) :
    (s.raiseHead x).noHead = s.noHead := rfl
@[simp] theorem State.raiseHead_recordsUnknown (s : State) (x : HeadCapture) :
    (s.raiseHead x).recordsUnknown = s.recordsUnknown := rfl
@[simp] theorem State.raiseHead_dwellOver (s : State) (x : HeadCapture) :
    (s.raiseHead x).dwellOver = s.dwellOver := rfl

/-! ### `nextEpoch` -/

@[simp] theorem State.nextEpoch_dial (s : State) (k : Head) : (s.nextEpoch k).dial = s.dial := rfl
@[simp] theorem State.nextEpoch_pockets (s : State) (k : Head) : (s.nextEpoch k).pockets = s.pockets := rfl
@[simp] theorem State.nextEpoch_feed (s : State) (k : Head) : (s.nextEpoch k).feed = s.feed := rfl
@[simp] theorem State.nextEpoch_heads (s : State) (k : Head) :
    (s.nextEpoch k).heads = s.heads.set k { s.head k with epoch := (s.head k).epoch + 1#16 } := rfl
@[simp] theorem State.nextEpoch_forceClass (s : State) (k : Head) :
    (s.nextEpoch k).forceClass = s.forceClass := rfl
@[simp] theorem State.nextEpoch_check (s : State) (k : Head) :
    (s.nextEpoch k).check = { s.check with exposure := s.check.exposure.set k 0 } := rfl
@[simp] theorem State.nextEpoch_gates (s : State) (k : Head) : (s.nextEpoch k).gates = s.gates := rfl
@[simp] theorem State.nextEpoch_banks (s : State) (k : Head) : (s.nextEpoch k).banks = s.banks := rfl
@[simp] theorem State.nextEpoch_lot (s : State) (k : Head) : (s.nextEpoch k).lot = s.lot := rfl
@[simp] theorem State.nextEpoch_faults (s : State) (k : Head) : (s.nextEpoch k).faults = s.faults := rfl
@[simp] theorem State.nextEpoch_link (s : State) (k : Head) : (s.nextEpoch k).link = s.link := rfl
@[simp] theorem State.nextEpoch_lines (s : State) (k : Head) : (s.nextEpoch k).lines = s.lines := rfl
@[simp] theorem State.nextEpoch_pending (s : State) (k : Head) : (s.nextEpoch k).pending = s.pending := rfl
@[simp] theorem State.nextEpoch_pocket (s : State) (k : Head) (p : Fin 24) :
    (s.nextEpoch k).pocket p = s.pocket p := rfl
@[simp] theorem State.nextEpoch_bin (s : State) (k : Head) (g : Fin 12) :
    (s.nextEpoch k).bin g = s.bin g := rfl
@[simp] theorem State.nextEpoch_ejector (s : State) (k : Head) (c : Chute) :
    (s.nextEpoch k).ejector c = s.ejector c := rfl
@[simp] theorem State.nextEpoch_isBusy (s : State) (k : Head) (st : Station) :
    (s.nextEpoch k).isBusy st = s.isBusy st := rfl
@[simp] theorem State.nextEpoch_busyEmpty (s : State) (k : Head) :
    (s.nextEpoch k).busyEmpty = s.busyEmpty := rfl
@[simp] theorem State.nextEpoch_isCurrentLot (s : State) (k : Head) (n : Nat) :
    (s.nextEpoch k).isCurrentLot n = s.isCurrentLot n := rfl
@[simp] theorem State.nextEpoch_isCurrentPart (s : State) (k : Head) (r : LiveRecord) :
    (s.nextEpoch k).isCurrentPart r = s.isCurrentPart r := rfl
@[simp] theorem State.nextEpoch_recordsUnknown (s : State) (k : Head) :
    (s.nextEpoch k).recordsUnknown = s.recordsUnknown := rfl
@[simp] theorem State.nextEpoch_dwellOver (s : State) (k : Head) :
    (s.nextEpoch k).dwellOver = s.dwellOver := rfl

/-! ### `issueStep` -/

@[simp] theorem State.issueStep_dial (s : State) :
    (s.issueStep).dial =
      { s.dial with
        state := .moving
        moveTimer := .running s.dial.moveTimeout
        dwellTimer := .stopped } := rfl
@[simp] theorem State.issueStep_pockets (s : State) : (s.issueStep).pockets = s.pockets := rfl
@[simp] theorem State.issueStep_feed (s : State) : (s.issueStep).feed = s.feed := rfl
@[simp] theorem State.issueStep_heads (s : State) : (s.issueStep).heads = s.heads := rfl
@[simp] theorem State.issueStep_forceClass (s : State) : (s.issueStep).forceClass = s.forceClass := rfl
@[simp] theorem State.issueStep_check (s : State) : (s.issueStep).check = s.check := rfl
@[simp] theorem State.issueStep_gates (s : State) : (s.issueStep).gates = s.gates := rfl
@[simp] theorem State.issueStep_banks (s : State) : (s.issueStep).banks = s.banks := rfl
@[simp] theorem State.issueStep_lot (s : State) : (s.issueStep).lot = s.lot := rfl
@[simp] theorem State.issueStep_faults (s : State) : (s.issueStep).faults = s.faults := rfl
@[simp] theorem State.issueStep_link (s : State) : (s.issueStep).link = s.link := rfl
@[simp] theorem State.issueStep_lines (s : State) : (s.issueStep).lines = s.lines := rfl
@[simp] theorem State.issueStep_pending (s : State) : (s.issueStep).pending = s.pending := rfl
@[simp] theorem State.issueStep_pocket (s : State) (p : Fin 24) : (s.issueStep).pocket p = s.pocket p := rfl
@[simp] theorem State.issueStep_head (s : State) (h : Head) : (s.issueStep).head h = s.head h := rfl
@[simp] theorem State.issueStep_inService (s : State) (h : Head) :
    (s.issueStep).inService h = s.inService h := rfl
@[simp] theorem State.issueStep_bin (s : State) (g : Fin 12) : (s.issueStep).bin g = s.bin g := rfl
@[simp] theorem State.issueStep_ejector (s : State) (c : Chute) : (s.issueStep).ejector c = s.ejector c := rfl
@[simp] theorem State.issueStep_isCurrentLot (s : State) (n : Nat) :
    (s.issueStep).isCurrentLot n = s.isCurrentLot n := rfl
@[simp] theorem State.issueStep_isCurrentPart (s : State) (r : LiveRecord) :
    (s.issueStep).isCurrentPart r = s.isCurrentPart r := rfl
@[simp] theorem State.issueStep_noHead (s : State) : (s.issueStep).noHead = s.noHead := rfl
@[simp] theorem State.issueStep_recordsUnknown (s : State) :
    (s.issueStep).recordsUnknown = s.recordsUnknown := rfl
@[simp] theorem State.issueStep_flags (s : State) : (s.issueStep).flags = s.flags := rfl
@[simp] theorem State.issueStep_anySevere (s : State) : (s.issueStep).anySevere = s.anySevere := rfl

/-! ### `restDial` -/

@[simp] theorem State.restDial_dial (s : State) :
    (s.restDial).dial = { s.dial with state := .idle, dwellTimer := .stopped } := rfl
@[simp] theorem State.restDial_pockets (s : State) : (s.restDial).pockets = s.pockets := rfl
@[simp] theorem State.restDial_feed (s : State) : (s.restDial).feed = s.feed := rfl
@[simp] theorem State.restDial_heads (s : State) : (s.restDial).heads = s.heads := rfl
@[simp] theorem State.restDial_forceClass (s : State) : (s.restDial).forceClass = s.forceClass := rfl
@[simp] theorem State.restDial_check (s : State) : (s.restDial).check = s.check := rfl
@[simp] theorem State.restDial_gates (s : State) : (s.restDial).gates = s.gates := rfl
@[simp] theorem State.restDial_banks (s : State) : (s.restDial).banks = s.banks := rfl
@[simp] theorem State.restDial_lot (s : State) : (s.restDial).lot = s.lot := rfl
@[simp] theorem State.restDial_faults (s : State) : (s.restDial).faults = s.faults := rfl
@[simp] theorem State.restDial_link (s : State) : (s.restDial).link = s.link := rfl
@[simp] theorem State.restDial_lines (s : State) : (s.restDial).lines = s.lines := rfl
@[simp] theorem State.restDial_pending (s : State) : (s.restDial).pending = s.pending := rfl
@[simp] theorem State.restDial_pocket (s : State) (p : Fin 24) : (s.restDial).pocket p = s.pocket p := rfl
@[simp] theorem State.restDial_head (s : State) (h : Head) : (s.restDial).head h = s.head h := rfl
@[simp] theorem State.restDial_inService (s : State) (h : Head) :
    (s.restDial).inService h = s.inService h := rfl
@[simp] theorem State.restDial_bin (s : State) (g : Fin 12) : (s.restDial).bin g = s.bin g := rfl
@[simp] theorem State.restDial_ejector (s : State) (c : Chute) : (s.restDial).ejector c = s.ejector c := rfl
@[simp] theorem State.restDial_isCurrentLot (s : State) (n : Nat) :
    (s.restDial).isCurrentLot n = s.isCurrentLot n := rfl
@[simp] theorem State.restDial_isCurrentPart (s : State) (r : LiveRecord) :
    (s.restDial).isCurrentPart r = s.isCurrentPart r := rfl
@[simp] theorem State.restDial_noHead (s : State) : (s.restDial).noHead = s.noHead := rfl
@[simp] theorem State.restDial_recordsUnknown (s : State) :
    (s.restDial).recordsUnknown = s.recordsUnknown := rfl
@[simp] theorem State.restDial_flags (s : State) : (s.restDial).flags = s.flags := rfl
@[simp] theorem State.restDial_anySevere (s : State) : (s.restDial).anySevere = s.anySevere := rfl

/-! ### `answer` -/

@[simp] theorem State.answer_dial (s : State) (x : Status) (l : List Byte) :
    (s.answer x l).dial = s.dial := rfl
@[simp] theorem State.answer_pockets (s : State) (x : Status) (l : List Byte) :
    (s.answer x l).pockets = s.pockets := rfl
@[simp] theorem State.answer_feed (s : State) (x : Status) (l : List Byte) :
    (s.answer x l).feed = s.feed := rfl
@[simp] theorem State.answer_heads (s : State) (x : Status) (l : List Byte) :
    (s.answer x l).heads = s.heads := rfl
@[simp] theorem State.answer_forceClass (s : State) (x : Status) (l : List Byte) :
    (s.answer x l).forceClass = s.forceClass := rfl
@[simp] theorem State.answer_check (s : State) (x : Status) (l : List Byte) :
    (s.answer x l).check = s.check := rfl
@[simp] theorem State.answer_gates (s : State) (x : Status) (l : List Byte) :
    (s.answer x l).gates = s.gates := rfl
@[simp] theorem State.answer_banks (s : State) (x : Status) (l : List Byte) :
    (s.answer x l).banks = s.banks := rfl
@[simp] theorem State.answer_lot (s : State) (x : Status) (l : List Byte) : (s.answer x l).lot = s.lot := rfl
@[simp] theorem State.answer_faults (s : State) (x : Status) (l : List Byte) :
    (s.answer x l).faults = s.faults := rfl
@[simp] theorem State.answer_link (s : State) (x : Status) (l : List Byte) :
    (s.answer x l).link = { s.link with state := .response ⟨x, l⟩ } := rfl
@[simp] theorem State.answer_lines (s : State) (x : Status) (l : List Byte) :
    (s.answer x l).lines = s.lines := rfl
@[simp] theorem State.answer_pending (s : State) (x : Status) (l : List Byte) :
    (s.answer x l).pending = s.pending := rfl
@[simp] theorem State.answer_pocket (s : State) (x : Status) (l : List Byte) (p : Fin 24) :
    (s.answer x l).pocket p = s.pocket p := rfl
@[simp] theorem State.answer_head (s : State) (x : Status) (l : List Byte) (h : Head) :
    (s.answer x l).head h = s.head h := rfl
@[simp] theorem State.answer_inService (s : State) (x : Status) (l : List Byte) (h : Head) :
    (s.answer x l).inService h = s.inService h := rfl
@[simp] theorem State.answer_bin (s : State) (x : Status) (l : List Byte) (g : Fin 12) :
    (s.answer x l).bin g = s.bin g := rfl
@[simp] theorem State.answer_ejector (s : State) (x : Status) (l : List Byte) (c : Chute) :
    (s.answer x l).ejector c = s.ejector c := rfl
@[simp] theorem State.answer_isBusy (s : State) (x : Status) (l : List Byte) (st : Station) :
    (s.answer x l).isBusy st = s.isBusy st := rfl
@[simp] theorem State.answer_busyEmpty (s : State) (x : Status) (l : List Byte) :
    (s.answer x l).busyEmpty = s.busyEmpty := rfl
@[simp] theorem State.answer_isCurrentLot (s : State) (x : Status) (l : List Byte) (n : Nat) :
    (s.answer x l).isCurrentLot n = s.isCurrentLot n := rfl
@[simp] theorem State.answer_isCurrentPart (s : State) (x : Status) (l : List Byte) (r : LiveRecord) :
    (s.answer x l).isCurrentPart r = s.isCurrentPart r := rfl
@[simp] theorem State.answer_noHead (s : State) (x : Status) (l : List Byte) :
    (s.answer x l).noHead = s.noHead := rfl
@[simp] theorem State.answer_recordsUnknown (s : State) (x : Status) (l : List Byte) :
    (s.answer x l).recordsUnknown = s.recordsUnknown := rfl
@[simp] theorem State.answer_flags (s : State) (x : Status) (l : List Byte) :
    (s.answer x l).flags = s.flags := rfl
@[simp] theorem State.answer_anySevere (s : State) (x : Status) (l : List Byte) :
    (s.answer x l).anySevere = s.anySevere := rfl
@[simp] theorem State.answer_dwellOver (s : State) (x : Status) (l : List Byte) :
    (s.answer x l).dwellOver = s.dwellOver := rfl

end Sys2Proof.Machine
end

