-- ==== Sys2Proof/Laws/Ops.lean ====
section
/-! SUPPORT. One lemma for each shared operation that says once what it can do: reads after writes, the busy
set, the tests at the end of an event, the counting that depends on the current lot, and the taking of a
command.  Later proofs cite these and unfold no operation. -/

namespace Sys2Proof.Machine

/-! ### Reads after writes -/

@[simp] theorem PerHead.get_set {α : Type} (v : PerHead α) (k h : Head) (x : α) :
    (v.set k x).get h = if h = k then x else v.get h := by
  cases k <;> cases h <;> rfl

@[simp] theorem Head.other_ne (h : Head) : h.other ≠ h := by cases h <;> decide
@[simp] theorem Head.ne_other (h : Head) : h ≠ h.other := by cases h <;> decide
@[simp] theorem Head.other_other (h : Head) : h.other.other = h := by cases h <;> rfl

theorem State.head_def (s : State) (h : Head) : s.head h = s.heads.get h := rfl

@[simp] theorem State.head_onHead (s : State) (k h : Head) (f : HeadUnit → HeadUnit) :
    (s.onHead k f).head h = if h = k then f (s.head k) else s.head h := by
  simp [State.head_def]

@[simp] theorem State.head_nextEpoch (s : State) (k h : Head) :
    (s.nextEpoch k).head h =
      if h = k then { s.head k with epoch := (s.head k).epoch + 1#16 } else s.head h := by
  simp [State.head_def]

@[simp] theorem State.pocket_setPocket (s : State) (p q : Fin 24) (r : PocketRecord) :
    (s.setPocket p r).pocket q = if q = p then r else s.pocket q := by
  unfold State.pocket
  rw [State.setPocket_pockets]
  by_cases h : q = p
  · subst h; simp
  · have h' : ¬ p.val = q.val := fun e => h (Fin.ext e.symm)
    simp [h, h']

@[simp] theorem State.pocket_setLive (s : State) (p q : Fin 24) (r : LiveRecord) :
    (s.setLive p r).pocket q = if q = p then .live r else s.pocket q :=
  s.pocket_setPocket p q (.live r)

theorem State.pocket_mapLive (s : State) (f : LiveRecord → PocketRecord) (p : Fin 24) :
    (s.mapLive f).pocket p =
      match s.pocket p with
      | .live r => f r
      | other => other := by
  cases hp : s.pockets[p.val] <;> simp [State.pocket, State.mapLive, hp]

theorem State.pocket_mapLive_live {s : State} {p : Fin 24} {r : LiveRecord} (f : LiveRecord → PocketRecord)
    (h : s.pocket p = .live r) : (s.mapLive f).pocket p = f r := by
  rw [State.pocket_mapLive, h]

theorem State.pocket_mapLive_other {s : State} {p : Fin 24} (f : LiveRecord → PocketRecord)
    (h : ∀ r, s.pocket p ≠ .live r) : (s.mapLive f).pocket p = s.pocket p := by
  rw [State.pocket_mapLive]
  cases hp : s.pocket p with
  | live r => exact absurd hp (h r)
  | empty => rfl
  | unknown => rfl

@[simp] theorem State.bin_onBin (s : State) (k g : Fin 12) (f : Bin → Bin) :
    (s.onBin k f).bin g = if g = k then f (s.bin k) else s.bin g := by
  unfold State.bin
  rw [State.onBin_gates]
  by_cases h : g = k
  · subst h; simp [State.bin]
  · have h' : ¬ k.val = g.val := fun e => h (Fin.ext e.symm)
    simp [h, h']

@[simp] theorem State.ejector_onBin (s : State) (k : Fin 12) (c : Chute) (f : Bin → Bin) :
    (s.onBin k f).ejector c = s.ejector c := rfl

theorem chuteIndex_injective {c d : Chute} (h : chuteIndex c = chuteIndex d) : c = d := by
  revert h
  cases c with
  | gate g =>
    cases d with
    | gate g' => intro h; simp only [chuteIndex, Fin.mk.injEq] at h; rw [Fin.ext h]
    | checkReturn => intro h; have := congrArg Fin.val h; simp [chuteIndex] at this; omega
    | purge => intro h; have := congrArg Fin.val h; simp [chuteIndex] at this; omega
  | checkReturn =>
    cases d with
    | gate g' => intro h; have := congrArg Fin.val h; simp [chuteIndex] at this; omega
    | checkReturn => intro _; rfl
    | purge => intro h; exact absurd h (by decide)
  | purge =>
    cases d with
    | gate g' => intro h; have := congrArg Fin.val h; simp [chuteIndex] at this; omega
    | checkReturn => intro h; exact absurd h (by decide)
    | purge => intro _; rfl

theorem chuteIndex_val_ne {c d : Chute} (h : c ≠ d) : (chuteIndex c).val ≠ (chuteIndex d).val :=
  fun e => h (chuteIndex_injective (Fin.ext e))

@[simp] theorem State.ejector_onEjector (s : State) (k c : Chute) (f : Ejector → Ejector) :
    (s.onEjector k f).ejector c = if c = k then f (s.ejector k) else s.ejector c := by
  unfold State.ejector
  rw [State.onEjector_gates]
  by_cases h : c = k
  · subst h; simp [State.ejector]
  · have h' : ¬ (chuteIndex k).val = (chuteIndex c).val := fun e => chuteIndex_val_ne h e.symm
    simp [h, h']

@[simp] theorem State.bin_onEjector (s : State) (k : Chute) (g : Fin 12) (f : Ejector → Ejector) :
    (s.onEjector k f).bin g = s.bin g := rfl

/-! ### The busy set -/

theorem Station.index_injective {x y : Station} (h : x.index = y.index) : x = y := by
  have hv := congrArg Fin.val h
  have key : ∀ c : Chute, 3 + (chuteIndex c).val ≠ 0 ∧ 3 + (chuteIndex c).val ≠ 1 ∧
      3 + (chuteIndex c).val ≠ 2 := fun c => by omega
  cases x with
  | load =>
    cases y with
    | load => rfl
    | head h' => cases h' <;> simp [Station.index] at hv
    | eject c => simp [Station.index] at hv; omega
  | head k =>
    cases y with
    | load => cases k <;> simp [Station.index] at hv
    | head h' => cases k <;> cases h' <;> first | rfl | (simp [Station.index] at hv)
    | eject c => cases k <;> simp [Station.index] at hv <;> omega
  | eject d =>
    cases y with
    | load => simp [Station.index] at hv
    | head h' => cases h' <;> simp [Station.index] at hv <;> omega
    | eject c =>
      simp only [Station.index] at hv
      rw [chuteIndex_injective (c := d) (d := c) (Fin.ext (by omega))]

theorem Station.index_val_ne {x y : Station} (h : x ≠ y) : x.index.val ≠ y.index.val :=
  fun e => h (Station.index_injective (Fin.ext e))

@[simp] theorem State.isBusy_joinBusy (s : State) (x st : Station) :
    (s.joinBusy x).isBusy st = if st = x then true else s.isBusy st := by
  unfold State.isBusy
  rw [State.joinBusy_dial]
  by_cases h : st = x
  · subst h; simp
  · have h' : ¬ x.index.val = st.index.val := fun e => Station.index_val_ne h e.symm
    simp [h, h']

@[simp] theorem State.isBusy_leaveBusy (s : State) (x st : Station) :
    (s.leaveBusy x).isBusy st = if st = x then false else s.isBusy st := by
  unfold State.isBusy
  rw [State.leaveBusy_dial]
  by_cases h : st = x
  · subst h; simp
  · have h' : ¬ x.index.val = st.index.val := fun e => Station.index_val_ne h e.symm
    simp [h, h']

/-- Every place of the busy set is a station's. -/
theorem Station.exists_index (i : Nat) (h : i < 17) : ∃ st : Station, st.index.val = i := by
  by_cases h0 : i = 0
  · exact ⟨.load, h0.symm⟩
  by_cases h1 : i = 1
  · exact ⟨.head .a, h1.symm⟩
  by_cases h2 : i = 2
  · exact ⟨.head .b, h2.symm⟩
  by_cases h15 : i = 15
  · exact ⟨.eject .checkReturn, h15.symm⟩
  by_cases h16 : i = 16
  · exact ⟨.eject .purge, h16.symm⟩
  exact ⟨.eject (.gate ⟨i - 3, by omega⟩), by simp [Station.index, chuteIndex]; omega⟩

/-- The busy set is empty exactly when no station is a member. -/
theorem State.busyEmpty_iff (s : State) : s.busyEmpty = true ↔ ∀ st, s.isBusy st = false := by
  unfold State.busyEmpty State.isBusy
  rw [beq_iff_eq]
  constructor
  · intro h st; rw [h]; simp
  · intro h
    ext i hi
    obtain ⟨st, rfl⟩ := Station.exists_index i hi
    rw [h st]; simp

/-! ### Tests over every record -/

theorem State.allPockets_iff (s : State) (test : PocketRecord → Bool) :
    s.allPockets test = true ↔ ∀ p : Fin 24, test (s.pocket p) = true := by
  unfold State.allPockets State.pocket
  rw [List.all_eq_true]
  constructor
  · intro h p; exact h _ (by simp)
  · intro h x hx
    obtain ⟨i, hi, rfl⟩ := List.getElem_of_mem hx
    have hi' : i < 24 := by simpa using hi
    simpa using h ⟨i, hi'⟩

theorem State.recordsUnknown_iff (s : State) : s.recordsUnknown = true ↔ ∃ p, s.pocket p = .unknown := by
  unfold State.recordsUnknown
  rw [Bool.not_eq_true', Bool.eq_false_iff, ne_eq, State.allPockets_iff]
  constructor
  · intro h
    by_contra hn
    refine h fun p => ?_
    cases hp : s.pocket p with
    | unknown => exact absurd ⟨p, hp⟩ hn
    | empty => rfl
    | live r => rfl
  · rintro ⟨p, hp⟩ h
    have := h p
    rw [hp] at this
    simp [PocketRecord.isUnknown] at this

/-! ### The end of a drain -/

/-- The end of a drain changes the lot state or nothing (R162). -/
theorem State.drainTest_cases (s : State) :
    (s.drainTest = s ∧ ¬(s.lot.state = .draining ∧ s.feed.inFlight = none ∧
        ∀ p, (s.pocket p).isLive = false)) ∨
      (s.drainTest = { s with lot := { s.lot with state := .noLot } } ∧ s.lot.state = .draining ∧
        s.feed.inFlight = none ∧ ∀ p, (s.pocket p).isLive = false) := by
  unfold State.drainTest
  have key : (s.lot.state == .draining && s.feed.inFlight.isNone && s.allPockets (fun r => !r.isLive)) = true ↔
      (s.lot.state = .draining ∧ s.feed.inFlight = none ∧ ∀ p, (s.pocket p).isLive = false) := by
    simp [State.allPockets_iff, and_assoc]
  by_cases h : (s.lot.state == .draining && s.feed.inFlight.isNone && s.allPockets (fun r => !r.isLive)) = true
  · rw [if_pos h]; exact .inr ⟨rfl, key.mp h⟩
  · rw [if_neg h]; exact .inl ⟨rfl, fun hh => h (key.mpr hh)⟩

/-- The state after the end of a drain, as one record update. -/
theorem State.drainTest_eq (s : State) :
    s.drainTest =
      { s with lot := { s.lot with state :=
        if s.lot.state = .draining ∧ s.feed.inFlight = none ∧ ∀ p, (s.pocket p).isLive = false then .noLot
        else s.lot.state } } := by
  rcases s.drainTest_cases with ⟨h, hn⟩ | ⟨h, hp⟩
  · rw [h, if_neg hn]
  · rw [h, if_pos hp]

theorem PocketRecord.isLive_eq_false (r : PocketRecord) : r.isLive = false ↔ r = .empty ∨ r = .unknown := by
  cases r <;> simp [PocketRecord.isLive]

/-- The lot state after the drain test, in the terms the statements use (R162). -/
theorem State.drainTest_state (s : State) : s.drainTest.lot.state = s.lotStateAfter s := by
  rw [State.drainTest_eq]
  simp only [State.lotStateAfter, PocketRecord.isLive_eq_false]

/-- The lot state after an event rests on the records and the feed in flight of the state it left, and on
nothing else there. -/
theorem State.lotStateAfter_congr {s s' t t' : State} (hs : s.lot.state = s'.lot.state)
    (hf : t.feed.inFlight = t'.feed.inFlight) (hp : ∀ p, t.pocket p = t'.pocket p) :
    s.lotStateAfter t = s'.lotStateAfter t' := by
  simp only [State.lotStateAfter, hs, hf, hp]

@[simp] theorem State.drainTest_dial (s : State) : (s.drainTest).dial = s.dial :=
  congrArg (fun x => x.dial) s.drainTest_eq
@[simp] theorem State.drainTest_pockets (s : State) : (s.drainTest).pockets = s.pockets :=
  congrArg (fun x => x.pockets) s.drainTest_eq
@[simp] theorem State.drainTest_feed (s : State) : (s.drainTest).feed = s.feed :=
  congrArg (fun x => x.feed) s.drainTest_eq
@[simp] theorem State.drainTest_heads (s : State) : (s.drainTest).heads = s.heads :=
  congrArg (fun x => x.heads) s.drainTest_eq
@[simp] theorem State.drainTest_forceClass (s : State) : (s.drainTest).forceClass = s.forceClass :=
  congrArg (fun x => x.forceClass) s.drainTest_eq
@[simp] theorem State.drainTest_check (s : State) : (s.drainTest).check = s.check :=
  congrArg (fun x => x.check) s.drainTest_eq
@[simp] theorem State.drainTest_gates (s : State) : (s.drainTest).gates = s.gates :=
  congrArg (fun x => x.gates) s.drainTest_eq
@[simp] theorem State.drainTest_banks (s : State) : (s.drainTest).banks = s.banks :=
  congrArg (fun x => x.banks) s.drainTest_eq
@[simp] theorem State.drainTest_faults (s : State) : (s.drainTest).faults = s.faults :=
  congrArg (fun x => x.faults) s.drainTest_eq
@[simp] theorem State.drainTest_link (s : State) : (s.drainTest).link = s.link :=
  congrArg (fun x => x.link) s.drainTest_eq
@[simp] theorem State.drainTest_lines (s : State) : (s.drainTest).lines = s.lines :=
  congrArg (fun x => x.lines) s.drainTest_eq
@[simp] theorem State.drainTest_pending (s : State) : (s.drainTest).pending = s.pending :=
  congrArg (fun x => x.pending) s.drainTest_eq
@[simp] theorem State.drainTest_pocket (s : State) (p : Fin 24) :
    (s.drainTest).pocket p = s.pocket p :=
  congrArg (fun x => x.pocket p) s.drainTest_eq
@[simp] theorem State.drainTest_head (s : State) (h : Head) :
    (s.drainTest).head h = s.head h :=
  congrArg (fun x => x.head h) s.drainTest_eq
@[simp] theorem State.drainTest_inService (s : State) (h : Head) :
    (s.drainTest).inService h = s.inService h :=
  congrArg (fun x => x.inService h) s.drainTest_eq
@[simp] theorem State.drainTest_bin (s : State) (g : Fin 12) :
    (s.drainTest).bin g = s.bin g :=
  congrArg (fun x => x.bin g) s.drainTest_eq
@[simp] theorem State.drainTest_ejector (s : State) (c : Chute) :
    (s.drainTest).ejector c = s.ejector c :=
  congrArg (fun x => x.ejector c) s.drainTest_eq
@[simp] theorem State.drainTest_isBusy (s : State) (st : Station) :
    (s.drainTest).isBusy st = s.isBusy st :=
  congrArg (fun x => x.isBusy st) s.drainTest_eq
@[simp] theorem State.drainTest_busyEmpty (s : State) :
    (s.drainTest).busyEmpty = s.busyEmpty :=
  congrArg (fun x => x.busyEmpty) s.drainTest_eq
@[simp] theorem State.drainTest_recordsUnknown (s : State) :
    (s.drainTest).recordsUnknown = s.recordsUnknown :=
  congrArg (fun x => x.recordsUnknown) s.drainTest_eq
@[simp] theorem State.drainTest_dwellOver (s : State) :
    (s.drainTest).dwellOver = s.dwellOver :=
  congrArg (fun x => x.dwellOver) s.drainTest_eq

@[simp] theorem State.drainTest_number (s : State) : s.drainTest.lot.number = s.lot.number := by
  rcases s.drainTest_cases with ⟨h, -⟩ | ⟨h, -⟩ <;> rw [h]
@[simp] theorem State.drainTest_counters (s : State) : s.drainTest.lot.counters = s.lot.counters := by
  rcases s.drainTest_cases with ⟨h, -⟩ | ⟨h, -⟩ <;> rw [h]

/-! ### The tests of the index controller -/

theorem State.dwellOver_iff (s : State) :
    s.dwellOver = true ↔ s.dial.state = .dwell ∧ s.dial.dwellTimer = .elapsed ∧ s.busyEmpty = true := by
  simp [State.dwellOver, and_assoc]

/-- The end-of-dwell test makes IDLE, HELD or MOVING of a dwell that is over, and changes nothing else (R4). -/
theorem State.endDwellTest_cases (s : State) :
    (s.dwellOver = false ∧ s.endDwellTest = s) ∨
      (s.dwellOver = true ∧ s.dial.stopPending = true ∧
        s.endDwellTest =
          { s with dial := { s.dial with state := .idle, dwellTimer := .stopped, stopPending := false } }) ∨
      (s.dwellOver = true ∧ s.dial.stopPending = false ∧ (s.dial.hostHold || s.anySevere) = true ∧
        s.endDwellTest = { s with dial := { s.dial with state := .held } }) ∨
      (s.dwellOver = true ∧ s.dial.stopPending = false ∧ s.dial.hostHold = false ∧ s.anySevere = false ∧
        s.endDwellTest =
          { s with dial :=
            { s.dial with
              state := .moving, moveTimer := .running s.dial.moveTimeout, dwellTimer := .stopped } }) := by
  unfold State.endDwellTest
  cases ho : s.dwellOver
  · exact .inl ⟨rfl, by simp⟩
  cases hs : s.dial.stopPending
  · cases hh : (s.dial.hostHold || s.anySevere)
    · refine .inr (.inr (.inr ⟨rfl, rfl, ?_, ?_, by simp; rfl⟩))
      · revert hh; cases s.dial.hostHold <;> simp
      · revert hh; cases s.anySevere <;> simp
    · exact .inr (.inr (.inl ⟨rfl, rfl, rfl, by simp; rfl⟩))
  · exact .inr (.inl ⟨rfl, rfl, by simp; rfl⟩)

theorem State.endDwellTest_eq (s : State) : s.endDwellTest = { s with dial := s.endDwellTest.dial } := by
  rcases s.endDwellTest_cases with ⟨_, h⟩ | ⟨_, _, h⟩ | ⟨_, _, _, h⟩ | ⟨_, _, _, _, h⟩ <;> rw [h]

/-- The dial after the end-of-dwell test, in the terms the statements use (R4). -/
theorem State.endDwellTest_dial (s : State) :
    s.endDwellTest.dial = s.dial.afterWork s.dial.busy s.anySevere := by
  have ho : (s.dial.state = .dwell ∧ s.dial.dwellTimer = .elapsed ∧
      s.dial.busy = Vector.replicate 17 false) ↔ s.dwellOver = true := by
    rw [State.dwellOver_iff]; simp [State.busyEmpty]
  unfold Dial.afterWork
  rcases s.endDwellTest_cases with ⟨h, e⟩ | ⟨h, hs, e⟩ | ⟨h, hs, hh, e⟩ | ⟨h, hs, hh, ha, e⟩ <;>
    rw [e, if_congr ho rfl rfl]
  · simp [h]
  · simp [h, hs]
  · simp_all
  · simp [h, hs, hh, ha, Dial.stepped]

@[simp] theorem State.endDwellTest_pockets (s : State) : (s.endDwellTest).pockets = s.pockets :=
  congrArg (fun x => x.pockets) s.endDwellTest_eq
@[simp] theorem State.endDwellTest_feed (s : State) : (s.endDwellTest).feed = s.feed :=
  congrArg (fun x => x.feed) s.endDwellTest_eq
@[simp] theorem State.endDwellTest_heads (s : State) : (s.endDwellTest).heads = s.heads :=
  congrArg (fun x => x.heads) s.endDwellTest_eq
@[simp] theorem State.endDwellTest_forceClass (s : State) : (s.endDwellTest).forceClass = s.forceClass :=
  congrArg (fun x => x.forceClass) s.endDwellTest_eq
@[simp] theorem State.endDwellTest_check (s : State) : (s.endDwellTest).check = s.check :=
  congrArg (fun x => x.check) s.endDwellTest_eq
@[simp] theorem State.endDwellTest_gates (s : State) : (s.endDwellTest).gates = s.gates :=
  congrArg (fun x => x.gates) s.endDwellTest_eq
@[simp] theorem State.endDwellTest_banks (s : State) : (s.endDwellTest).banks = s.banks :=
  congrArg (fun x => x.banks) s.endDwellTest_eq
@[simp] theorem State.endDwellTest_lot (s : State) : (s.endDwellTest).lot = s.lot :=
  congrArg (fun x => x.lot) s.endDwellTest_eq
@[simp] theorem State.endDwellTest_faults (s : State) : (s.endDwellTest).faults = s.faults :=
  congrArg (fun x => x.faults) s.endDwellTest_eq
@[simp] theorem State.endDwellTest_link (s : State) : (s.endDwellTest).link = s.link :=
  congrArg (fun x => x.link) s.endDwellTest_eq
@[simp] theorem State.endDwellTest_lines (s : State) : (s.endDwellTest).lines = s.lines :=
  congrArg (fun x => x.lines) s.endDwellTest_eq
@[simp] theorem State.endDwellTest_pending (s : State) : (s.endDwellTest).pending = s.pending :=
  congrArg (fun x => x.pending) s.endDwellTest_eq
@[simp] theorem State.endDwellTest_pocket (s : State) (p : Fin 24) :
    (s.endDwellTest).pocket p = s.pocket p :=
  congrArg (fun x => x.pocket p) s.endDwellTest_eq
@[simp] theorem State.endDwellTest_head (s : State) (h : Head) :
    (s.endDwellTest).head h = s.head h :=
  congrArg (fun x => x.head h) s.endDwellTest_eq
@[simp] theorem State.endDwellTest_inService (s : State) (h : Head) :
    (s.endDwellTest).inService h = s.inService h :=
  congrArg (fun x => x.inService h) s.endDwellTest_eq
@[simp] theorem State.endDwellTest_bin (s : State) (g : Fin 12) :
    (s.endDwellTest).bin g = s.bin g :=
  congrArg (fun x => x.bin g) s.endDwellTest_eq
@[simp] theorem State.endDwellTest_ejector (s : State) (c : Chute) :
    (s.endDwellTest).ejector c = s.ejector c :=
  congrArg (fun x => x.ejector c) s.endDwellTest_eq
@[simp] theorem State.endDwellTest_isCurrentLot (s : State) (n : Nat) :
    (s.endDwellTest).isCurrentLot n = s.isCurrentLot n :=
  congrArg (fun x => x.isCurrentLot n) s.endDwellTest_eq
@[simp] theorem State.endDwellTest_noHead (s : State) :
    (s.endDwellTest).noHead = s.noHead :=
  congrArg (fun x => x.noHead) s.endDwellTest_eq
@[simp] theorem State.endDwellTest_recordsUnknown (s : State) :
    (s.endDwellTest).recordsUnknown = s.recordsUnknown :=
  congrArg (fun x => x.recordsUnknown) s.endDwellTest_eq
@[simp] theorem State.endDwellTest_flags (s : State) :
    (s.endDwellTest).flags = s.flags :=
  congrArg (fun x => x.flags) s.endDwellTest_eq
@[simp] theorem State.endDwellTest_anySevere (s : State) :
    (s.endDwellTest).anySevere = s.anySevere :=
  congrArg (fun x => x.anySevere) s.endDwellTest_eq

@[simp] theorem State.endDwellTest_position (s : State) : s.endDwellTest.dial.position = s.dial.position := by
  rcases s.endDwellTest_cases with ⟨_, h⟩ | ⟨_, _, h⟩ | ⟨_, _, _, h⟩ | ⟨_, _, _, _, h⟩ <;> rw [h]
@[simp] theorem State.endDwellTest_busy (s : State) : s.endDwellTest.dial.busy = s.dial.busy := by
  rcases s.endDwellTest_cases with ⟨_, h⟩ | ⟨_, _, h⟩ | ⟨_, _, _, h⟩ | ⟨_, _, _, _, h⟩ <;> rw [h]
@[simp] theorem State.endDwellTest_hostHold (s : State) : s.endDwellTest.dial.hostHold = s.dial.hostHold := by
  rcases s.endDwellTest_cases with ⟨_, h⟩ | ⟨_, _, h⟩ | ⟨_, _, _, h⟩ | ⟨_, _, _, _, h⟩ <;> rw [h]
@[simp] theorem State.endDwellTest_minDwell (s : State) : s.endDwellTest.dial.minDwell = s.dial.minDwell := by
  rcases s.endDwellTest_cases with ⟨_, h⟩ | ⟨_, _, h⟩ | ⟨_, _, _, h⟩ | ⟨_, _, _, _, h⟩ <;> rw [h]
@[simp] theorem State.endDwellTest_moveTimeout (s : State) :
    s.endDwellTest.dial.moveTimeout = s.dial.moveTimeout := by
  rcases s.endDwellTest_cases with ⟨_, h⟩ | ⟨_, _, h⟩ | ⟨_, _, _, h⟩ | ⟨_, _, _, _, h⟩ <;> rw [h]
@[simp] theorem State.endDwellTest_startEnable (s : State) :
    s.endDwellTest.dial.startEnable = s.dial.startEnable := by
  rcases s.endDwellTest_cases with ⟨_, h⟩ | ⟨_, _, h⟩ | ⟨_, _, _, h⟩ | ⟨_, _, _, _, h⟩ <;> rw [h]
@[simp] theorem State.endDwellTest_isBusy (s : State) (st : Station) :
    s.endDwellTest.isBusy st = s.isBusy st := by
  simp only [State.isBusy, State.endDwellTest_busy]
@[simp] theorem State.endDwellTest_busyEmpty (s : State) : s.endDwellTest.busyEmpty = s.busyEmpty := by
  simp only [State.busyEmpty, State.endDwellTest_busy]

/-- After the end-of-dwell test no dwell is over. -/
@[simp] theorem State.endDwellTest_dwellOver (s : State) : s.endDwellTest.dwellOver = false := by
  rcases s.endDwellTest_cases with ⟨h0, h⟩ | ⟨_, _, h⟩ | ⟨_, _, _, h⟩ | ⟨_, _, _, _, h⟩ <;> rw [h]
  · exact h0
  all_goals simp [State.dwellOver]

theorem State.endDwellTest_of_not_over {s : State} (h : s.dwellOver = false) : s.endDwellTest = s := by
  unfold State.endDwellTest; simp [h]

/-- The test in HELD issues STEP with the host hold and every severe flag clear, and else does nothing (R5). -/
theorem State.heldTest_eq (s : State) :
    s.heldTest =
      if s.dial.state = .held ∧ s.dial.hostHold = false ∧ s.anySevere = false then
        { s with dial :=
          { s.dial with
            state := .moving, moveTimer := .running s.dial.moveTimeout, dwellTimer := .stopped } }
      else s := by
  unfold State.heldTest
  by_cases h : s.dial.state = .held ∧ s.dial.hostHold = false ∧ s.anySevere = false
  · rw [if_pos h, if_pos (by simp [h])]; rfl
  · rw [if_neg h, if_neg (by simpa [and_assoc] using h)]

/-- The report that the last severe flag has cleared (R167). -/
theorem State.reportSevere_eq (s before : State) :
    s.reportSevere before =
      if before.anySevere = true ∧ s.anySevere = false ∧ s.dial.state = .held ∧ s.dial.hostHold = false then
        { s with dial :=
          { s.dial with
            state := .moving, moveTimer := .running s.dial.moveTimeout, dwellTimer := .stopped } }
      else s := by
  unfold State.reportSevere
  rw [State.heldTest_eq]
  by_cases hb : before.anySevere = true
  · by_cases hs : s.anySevere = false
    · simp only [hb, hs, Bool.not_false, Bool.and_self, if_true, true_and, and_true]
    · simp [hb, hs]
  · simp [hb]

theorem State.heldTest_with (s : State) : s.heldTest = { s with dial := s.heldTest.dial } := by
  rw [State.heldTest_eq]; split <;> rfl

@[simp] theorem State.heldTest_pockets (s : State) : (s.heldTest).pockets = s.pockets :=
  congrArg (fun x => x.pockets) s.heldTest_with
@[simp] theorem State.heldTest_feed (s : State) : (s.heldTest).feed = s.feed :=
  congrArg (fun x => x.feed) s.heldTest_with
@[simp] theorem State.heldTest_heads (s : State) : (s.heldTest).heads = s.heads :=
  congrArg (fun x => x.heads) s.heldTest_with
@[simp] theorem State.heldTest_forceClass (s : State) : (s.heldTest).forceClass = s.forceClass :=
  congrArg (fun x => x.forceClass) s.heldTest_with
@[simp] theorem State.heldTest_check (s : State) : (s.heldTest).check = s.check :=
  congrArg (fun x => x.check) s.heldTest_with
@[simp] theorem State.heldTest_gates (s : State) : (s.heldTest).gates = s.gates :=
  congrArg (fun x => x.gates) s.heldTest_with
@[simp] theorem State.heldTest_banks (s : State) : (s.heldTest).banks = s.banks :=
  congrArg (fun x => x.banks) s.heldTest_with
@[simp] theorem State.heldTest_lot (s : State) : (s.heldTest).lot = s.lot :=
  congrArg (fun x => x.lot) s.heldTest_with
@[simp] theorem State.heldTest_faults (s : State) : (s.heldTest).faults = s.faults :=
  congrArg (fun x => x.faults) s.heldTest_with
@[simp] theorem State.heldTest_link (s : State) : (s.heldTest).link = s.link :=
  congrArg (fun x => x.link) s.heldTest_with
@[simp] theorem State.heldTest_lines (s : State) : (s.heldTest).lines = s.lines :=
  congrArg (fun x => x.lines) s.heldTest_with
@[simp] theorem State.heldTest_pending (s : State) : (s.heldTest).pending = s.pending :=
  congrArg (fun x => x.pending) s.heldTest_with
@[simp] theorem State.heldTest_pocket (s : State) (p : Fin 24) :
    (s.heldTest).pocket p = s.pocket p :=
  congrArg (fun x => x.pocket p) s.heldTest_with
@[simp] theorem State.heldTest_head (s : State) (h : Head) :
    (s.heldTest).head h = s.head h :=
  congrArg (fun x => x.head h) s.heldTest_with
@[simp] theorem State.heldTest_inService (s : State) (h : Head) :
    (s.heldTest).inService h = s.inService h :=
  congrArg (fun x => x.inService h) s.heldTest_with
@[simp] theorem State.heldTest_bin (s : State) (g : Fin 12) :
    (s.heldTest).bin g = s.bin g :=
  congrArg (fun x => x.bin g) s.heldTest_with
@[simp] theorem State.heldTest_ejector (s : State) (c : Chute) :
    (s.heldTest).ejector c = s.ejector c :=
  congrArg (fun x => x.ejector c) s.heldTest_with
@[simp] theorem State.heldTest_isCurrentLot (s : State) (n : Nat) :
    (s.heldTest).isCurrentLot n = s.isCurrentLot n :=
  congrArg (fun x => x.isCurrentLot n) s.heldTest_with
@[simp] theorem State.heldTest_noHead (s : State) :
    (s.heldTest).noHead = s.noHead :=
  congrArg (fun x => x.noHead) s.heldTest_with
@[simp] theorem State.heldTest_recordsUnknown (s : State) :
    (s.heldTest).recordsUnknown = s.recordsUnknown :=
  congrArg (fun x => x.recordsUnknown) s.heldTest_with
@[simp] theorem State.heldTest_flags (s : State) :
    (s.heldTest).flags = s.flags :=
  congrArg (fun x => x.flags) s.heldTest_with
@[simp] theorem State.heldTest_anySevere (s : State) :
    (s.heldTest).anySevere = s.anySevere :=
  congrArg (fun x => x.anySevere) s.heldTest_with

theorem State.reportSevere_with (s before : State) :
    s.reportSevere before = { s with dial := (s.reportSevere before).dial } := by
  rw [State.reportSevere_eq]; split <;> rfl

@[simp] theorem State.reportSevere_pockets (s before : State) : (s.reportSevere before).pockets = s.pockets :=
  congrArg (fun x => x.pockets) (s.reportSevere_with before)
@[simp] theorem State.reportSevere_feed (s before : State) : (s.reportSevere before).feed = s.feed :=
  congrArg (fun x => x.feed) (s.reportSevere_with before)
@[simp] theorem State.reportSevere_heads (s before : State) : (s.reportSevere before).heads = s.heads :=
  congrArg (fun x => x.heads) (s.reportSevere_with before)
@[simp] theorem State.reportSevere_forceClass (s before : State) :
    (s.reportSevere before).forceClass = s.forceClass :=
  congrArg (fun x => x.forceClass) (s.reportSevere_with before)
@[simp] theorem State.reportSevere_check (s before : State) : (s.reportSevere before).check = s.check :=
  congrArg (fun x => x.check) (s.reportSevere_with before)
@[simp] theorem State.reportSevere_gates (s before : State) : (s.reportSevere before).gates = s.gates :=
  congrArg (fun x => x.gates) (s.reportSevere_with before)
@[simp] theorem State.reportSevere_banks (s before : State) : (s.reportSevere before).banks = s.banks :=
  congrArg (fun x => x.banks) (s.reportSevere_with before)
@[simp] theorem State.reportSevere_lot (s before : State) : (s.reportSevere before).lot = s.lot :=
  congrArg (fun x => x.lot) (s.reportSevere_with before)
@[simp] theorem State.reportSevere_faults (s before : State) : (s.reportSevere before).faults = s.faults :=
  congrArg (fun x => x.faults) (s.reportSevere_with before)
@[simp] theorem State.reportSevere_link (s before : State) : (s.reportSevere before).link = s.link :=
  congrArg (fun x => x.link) (s.reportSevere_with before)
@[simp] theorem State.reportSevere_lines (s before : State) : (s.reportSevere before).lines = s.lines :=
  congrArg (fun x => x.lines) (s.reportSevere_with before)
@[simp] theorem State.reportSevere_pending (s before : State) : (s.reportSevere before).pending = s.pending :=
  congrArg (fun x => x.pending) (s.reportSevere_with before)
@[simp] theorem State.reportSevere_pocket (s before : State) (p : Fin 24) :
    (s.reportSevere before).pocket p = s.pocket p :=
  congrArg (fun x => x.pocket p) (s.reportSevere_with before)
@[simp] theorem State.reportSevere_head (s before : State) (h : Head) :
    (s.reportSevere before).head h = s.head h :=
  congrArg (fun x => x.head h) (s.reportSevere_with before)
@[simp] theorem State.reportSevere_inService (s before : State) (h : Head) :
    (s.reportSevere before).inService h = s.inService h :=
  congrArg (fun x => x.inService h) (s.reportSevere_with before)
@[simp] theorem State.reportSevere_bin (s before : State) (g : Fin 12) :
    (s.reportSevere before).bin g = s.bin g :=
  congrArg (fun x => x.bin g) (s.reportSevere_with before)
@[simp] theorem State.reportSevere_ejector (s before : State) (c : Chute) :
    (s.reportSevere before).ejector c = s.ejector c :=
  congrArg (fun x => x.ejector c) (s.reportSevere_with before)
@[simp] theorem State.reportSevere_isCurrentLot (s before : State) (n : Nat) :
    (s.reportSevere before).isCurrentLot n = s.isCurrentLot n :=
  congrArg (fun x => x.isCurrentLot n) (s.reportSevere_with before)
@[simp] theorem State.reportSevere_noHead (s before : State) :
    (s.reportSevere before).noHead = s.noHead :=
  congrArg (fun x => x.noHead) (s.reportSevere_with before)
@[simp] theorem State.reportSevere_recordsUnknown (s before : State) :
    (s.reportSevere before).recordsUnknown = s.recordsUnknown :=
  congrArg (fun x => x.recordsUnknown) (s.reportSevere_with before)
@[simp] theorem State.reportSevere_flags (s before : State) :
    (s.reportSevere before).flags = s.flags :=
  congrArg (fun x => x.flags) (s.reportSevere_with before)
@[simp] theorem State.reportSevere_anySevere (s before : State) :
    (s.reportSevere before).anySevere = s.anySevere :=
  congrArg (fun x => x.anySevere) (s.reportSevere_with before)

@[simp] theorem State.heldTest_position (s : State) : s.heldTest.dial.position = s.dial.position := by
  rw [State.heldTest_eq]; split <;> rfl
@[simp] theorem State.reportSevere_position (s before : State) :
    (s.reportSevere before).dial.position = s.dial.position := by
  rw [State.reportSevere_eq]; split <;> rfl
@[simp] theorem State.heldTest_busy (s : State) : s.heldTest.dial.busy = s.dial.busy := by
  rw [State.heldTest_eq]; split <;> rfl
@[simp] theorem State.reportSevere_busy (s before : State) :
    (s.reportSevere before).dial.busy = s.dial.busy := by
  rw [State.reportSevere_eq]; split <;> rfl
@[simp] theorem State.heldTest_hostHold (s : State) : s.heldTest.dial.hostHold = s.dial.hostHold := by
  rw [State.heldTest_eq]; split <;> rfl
@[simp] theorem State.reportSevere_hostHold (s before : State) :
    (s.reportSevere before).dial.hostHold = s.dial.hostHold := by
  rw [State.reportSevere_eq]; split <;> rfl
@[simp] theorem State.heldTest_stopPending (s : State) : s.heldTest.dial.stopPending = s.dial.stopPending := by
  rw [State.heldTest_eq]; split <;> rfl
@[simp] theorem State.reportSevere_stopPending (s before : State) :
    (s.reportSevere before).dial.stopPending = s.dial.stopPending := by
  rw [State.reportSevere_eq]; split <;> rfl
@[simp] theorem State.heldTest_minDwell (s : State) : s.heldTest.dial.minDwell = s.dial.minDwell := by
  rw [State.heldTest_eq]; split <;> rfl
@[simp] theorem State.reportSevere_minDwell (s before : State) :
    (s.reportSevere before).dial.minDwell = s.dial.minDwell := by
  rw [State.reportSevere_eq]; split <;> rfl
@[simp] theorem State.heldTest_moveTimeout (s : State) : s.heldTest.dial.moveTimeout = s.dial.moveTimeout := by
  rw [State.heldTest_eq]; split <;> rfl
@[simp] theorem State.reportSevere_moveTimeout (s before : State) :
    (s.reportSevere before).dial.moveTimeout = s.dial.moveTimeout := by
  rw [State.reportSevere_eq]; split <;> rfl
@[simp] theorem State.heldTest_startEnable (s : State) : s.heldTest.dial.startEnable = s.dial.startEnable := by
  rw [State.heldTest_eq]; split <;> rfl
@[simp] theorem State.heldTest_isBusy (s : State) (st : Station) : s.heldTest.isBusy st = s.isBusy st := by
  simp only [State.isBusy, State.heldTest_busy]
@[simp] theorem State.heldTest_busyEmpty (s : State) : s.heldTest.busyEmpty = s.busyEmpty := by
  simp only [State.busyEmpty, State.heldTest_busy]
@[simp] theorem State.reportSevere_startEnable (s before : State) :
    (s.reportSevere before).dial.startEnable = s.dial.startEnable := by
  rw [State.reportSevere_eq]; split <;> rfl
@[simp] theorem State.reportSevere_isBusy (s before : State) (st : Station) :
    (s.reportSevere before).isBusy st = s.isBusy st := by
  simp only [State.isBusy, State.reportSevere_busy]
@[simp] theorem State.reportSevere_busyEmpty (s before : State) :
    (s.reportSevere before).busyEmpty = s.busyEmpty := by
  simp only [State.busyEmpty, State.reportSevere_busy]

/-! ### Counting for the current lot -/

theorem State.isCurrentLot_iff (s : State) (n : Nat) :
    s.isCurrentLot n = true ↔ s.lot.state ≠ .noLot ∧ s.lot.number = n := by
  simp [State.isCurrentLot]

theorem State.isCurrentPart_iff (s : State) (r : LiveRecord) :
    s.isCurrentPart r = true ↔ r.kind = .part ∧ s.isCurrentLot r.lot = true := by
  simp [State.isCurrentPart]

/-- A report about a record changes the lot counters, and those only for a PART of the current lot (R154). -/
theorem State.reportPart_eq (s : State) (r : LiveRecord) (f : LotCounters → LotCounters) :
    s.reportPart r f =
      { s with lot :=
        if r.kind = .part ∧ s.isCurrentLot r.lot = true then { s.lot with counters := f s.lot.counters }
        else s.lot } := by
  unfold State.reportPart
  by_cases h : s.isCurrentPart r = true
  · rw [if_pos h, if_pos ((s.isCurrentPart_iff r).mp h)]; rfl
  · rw [if_neg h, if_neg fun hh => h ((s.isCurrentPart_iff r).mpr hh)]

@[simp] theorem State.reportPart_dial (s : State) (r : LiveRecord) (f : LotCounters → LotCounters) :
    (s.reportPart r f).dial = s.dial :=
  congrArg (fun x => x.dial) (s.reportPart_eq r f)
@[simp] theorem State.reportPart_pockets (s : State) (r : LiveRecord) (f : LotCounters → LotCounters) :
    (s.reportPart r f).pockets = s.pockets :=
  congrArg (fun x => x.pockets) (s.reportPart_eq r f)
@[simp] theorem State.reportPart_feed (s : State) (r : LiveRecord) (f : LotCounters → LotCounters) :
    (s.reportPart r f).feed = s.feed :=
  congrArg (fun x => x.feed) (s.reportPart_eq r f)
@[simp] theorem State.reportPart_heads (s : State) (r : LiveRecord) (f : LotCounters → LotCounters) :
    (s.reportPart r f).heads = s.heads :=
  congrArg (fun x => x.heads) (s.reportPart_eq r f)
@[simp] theorem State.reportPart_forceClass (s : State) (r : LiveRecord) (f : LotCounters → LotCounters) :
    (s.reportPart r f).forceClass = s.forceClass :=
  congrArg (fun x => x.forceClass) (s.reportPart_eq r f)
@[simp] theorem State.reportPart_check (s : State) (r : LiveRecord) (f : LotCounters → LotCounters) :
    (s.reportPart r f).check = s.check :=
  congrArg (fun x => x.check) (s.reportPart_eq r f)
@[simp] theorem State.reportPart_gates (s : State) (r : LiveRecord) (f : LotCounters → LotCounters) :
    (s.reportPart r f).gates = s.gates :=
  congrArg (fun x => x.gates) (s.reportPart_eq r f)
@[simp] theorem State.reportPart_banks (s : State) (r : LiveRecord) (f : LotCounters → LotCounters) :
    (s.reportPart r f).banks = s.banks :=
  congrArg (fun x => x.banks) (s.reportPart_eq r f)
@[simp] theorem State.reportPart_faults (s : State) (r : LiveRecord) (f : LotCounters → LotCounters) :
    (s.reportPart r f).faults = s.faults :=
  congrArg (fun x => x.faults) (s.reportPart_eq r f)
@[simp] theorem State.reportPart_link (s : State) (r : LiveRecord) (f : LotCounters → LotCounters) :
    (s.reportPart r f).link = s.link :=
  congrArg (fun x => x.link) (s.reportPart_eq r f)
@[simp] theorem State.reportPart_lines (s : State) (r : LiveRecord) (f : LotCounters → LotCounters) :
    (s.reportPart r f).lines = s.lines :=
  congrArg (fun x => x.lines) (s.reportPart_eq r f)
@[simp] theorem State.reportPart_pending (s : State) (r : LiveRecord) (f : LotCounters → LotCounters) :
    (s.reportPart r f).pending = s.pending :=
  congrArg (fun x => x.pending) (s.reportPart_eq r f)
@[simp] theorem State.reportPart_pocket (s : State) (r : LiveRecord) (f : LotCounters → LotCounters)
    (p : Fin 24) :
    (s.reportPart r f).pocket p = s.pocket p :=
  congrArg (fun x => x.pocket p) (s.reportPart_eq r f)
@[simp] theorem State.reportPart_head (s : State) (r : LiveRecord) (f : LotCounters → LotCounters) (h : Head) :
    (s.reportPart r f).head h = s.head h :=
  congrArg (fun x => x.head h) (s.reportPart_eq r f)
@[simp] theorem State.reportPart_inService (s : State) (r : LiveRecord) (f : LotCounters → LotCounters)
    (h : Head) :
    (s.reportPart r f).inService h = s.inService h :=
  congrArg (fun x => x.inService h) (s.reportPart_eq r f)
@[simp] theorem State.reportPart_bin (s : State) (r : LiveRecord) (f : LotCounters → LotCounters) (g : Fin 12) :
    (s.reportPart r f).bin g = s.bin g :=
  congrArg (fun x => x.bin g) (s.reportPart_eq r f)
@[simp] theorem State.reportPart_ejector (s : State) (r : LiveRecord) (f : LotCounters → LotCounters)
    (c : Chute) :
    (s.reportPart r f).ejector c = s.ejector c :=
  congrArg (fun x => x.ejector c) (s.reportPart_eq r f)
@[simp] theorem State.reportPart_isBusy (s : State) (r : LiveRecord) (f : LotCounters → LotCounters)
    (st : Station) :
    (s.reportPart r f).isBusy st = s.isBusy st :=
  congrArg (fun x => x.isBusy st) (s.reportPart_eq r f)
@[simp] theorem State.reportPart_busyEmpty (s : State) (r : LiveRecord) (f : LotCounters → LotCounters) :
    (s.reportPart r f).busyEmpty = s.busyEmpty :=
  congrArg (fun x => x.busyEmpty) (s.reportPart_eq r f)
@[simp] theorem State.reportPart_recordsUnknown (s : State) (r : LiveRecord) (f : LotCounters → LotCounters) :
    (s.reportPart r f).recordsUnknown = s.recordsUnknown :=
  congrArg (fun x => x.recordsUnknown) (s.reportPart_eq r f)
@[simp] theorem State.reportPart_dwellOver (s : State) (r : LiveRecord) (f : LotCounters → LotCounters) :
    (s.reportPart r f).dwellOver = s.dwellOver :=
  congrArg (fun x => x.dwellOver) (s.reportPart_eq r f)

@[simp] theorem State.reportPart_lot (s : State) (r : LiveRecord) (f : LotCounters → LotCounters) :
    (s.reportPart r f).lot =
      if r.kind = .part ∧ s.isCurrentLot r.lot = true then { s.lot with counters := f s.lot.counters }
      else s.lot :=
  congrArg (fun x => x.lot) (s.reportPart_eq r f)

/-! ### Fill thresholds -/

/-- The tests of R129 raise BIN_NEAR_FULL and BIN_FULL when their conditions begin, and change nothing else. -/
theorem State.testFill_eq (s : State) (g : Fin 12) (b : Bin) :
    s.testFill g b = { s with faults := s.faults.afterFill g b (s.bin g) } := by
  have hn : ∀ x : Bin, x.nearFullNow = x.isNearFull := fun x => by
    simp only [Bin.nearFullNow, Bin.isNearFull, Bool.decide_and, decide_not, bne, BEq.beq]
  have hf : ∀ x : Bin, x.fullNow = x.isFull := fun x => rfl
  unfold State.testFill FaultUnit.afterFill
  simp only [hn, hf]
  cases (s.bin g).isNearFull && !b.isNearFull <;> cases (s.bin g).isFull && !b.isFull
  · simp
  · simp [State.raiseFull, State.raise, State.onFaults]; rfl
  · simp [State.raiseNearFull, State.raise, State.onFaults]; rfl
  · simp [State.raiseNearFull, State.raiseFull, State.raise, State.onFaults]
    rfl

@[simp] theorem State.testFill_dial (s : State) (g : Fin 12) (b : Bin) : (s.testFill g b).dial = s.dial :=
  congrArg (fun x => x.dial) (s.testFill_eq g b)
@[simp] theorem State.testFill_pockets (s : State) (g : Fin 12) (b : Bin) :
    (s.testFill g b).pockets = s.pockets :=
  congrArg (fun x => x.pockets) (s.testFill_eq g b)
@[simp] theorem State.testFill_feed (s : State) (g : Fin 12) (b : Bin) : (s.testFill g b).feed = s.feed :=
  congrArg (fun x => x.feed) (s.testFill_eq g b)
@[simp] theorem State.testFill_heads (s : State) (g : Fin 12) (b : Bin) : (s.testFill g b).heads = s.heads :=
  congrArg (fun x => x.heads) (s.testFill_eq g b)
@[simp] theorem State.testFill_forceClass (s : State) (g : Fin 12) (b : Bin) :
    (s.testFill g b).forceClass = s.forceClass :=
  congrArg (fun x => x.forceClass) (s.testFill_eq g b)
@[simp] theorem State.testFill_check (s : State) (g : Fin 12) (b : Bin) : (s.testFill g b).check = s.check :=
  congrArg (fun x => x.check) (s.testFill_eq g b)
@[simp] theorem State.testFill_gates (s : State) (g : Fin 12) (b : Bin) : (s.testFill g b).gates = s.gates :=
  congrArg (fun x => x.gates) (s.testFill_eq g b)
@[simp] theorem State.testFill_banks (s : State) (g : Fin 12) (b : Bin) : (s.testFill g b).banks = s.banks :=
  congrArg (fun x => x.banks) (s.testFill_eq g b)
@[simp] theorem State.testFill_lot (s : State) (g : Fin 12) (b : Bin) : (s.testFill g b).lot = s.lot :=
  congrArg (fun x => x.lot) (s.testFill_eq g b)
@[simp] theorem State.testFill_link (s : State) (g : Fin 12) (b : Bin) : (s.testFill g b).link = s.link :=
  congrArg (fun x => x.link) (s.testFill_eq g b)
@[simp] theorem State.testFill_lines (s : State) (g : Fin 12) (b : Bin) : (s.testFill g b).lines = s.lines :=
  congrArg (fun x => x.lines) (s.testFill_eq g b)
@[simp] theorem State.testFill_pending (s : State) (g : Fin 12) (b : Bin) :
    (s.testFill g b).pending = s.pending :=
  congrArg (fun x => x.pending) (s.testFill_eq g b)
@[simp] theorem State.testFill_pocket (s : State) (g : Fin 12) (b : Bin) (p : Fin 24) :
    (s.testFill g b).pocket p = s.pocket p :=
  congrArg (fun x => x.pocket p) (s.testFill_eq g b)
@[simp] theorem State.testFill_head (s : State) (g : Fin 12) (b : Bin) (h : Head) :
    (s.testFill g b).head h = s.head h :=
  congrArg (fun x => x.head h) (s.testFill_eq g b)
@[simp] theorem State.testFill_inService (s : State) (g : Fin 12) (b : Bin) (h : Head) :
    (s.testFill g b).inService h = s.inService h :=
  congrArg (fun x => x.inService h) (s.testFill_eq g b)
@[simp] theorem State.testFill_bin (s : State) (g : Fin 12) (b : Bin) (k : Fin 12) :
    (s.testFill g b).bin k = s.bin k :=
  congrArg (fun x => x.bin k) (s.testFill_eq g b)
@[simp] theorem State.testFill_ejector (s : State) (g : Fin 12) (b : Bin) (c : Chute) :
    (s.testFill g b).ejector c = s.ejector c :=
  congrArg (fun x => x.ejector c) (s.testFill_eq g b)
@[simp] theorem State.testFill_isBusy (s : State) (g : Fin 12) (b : Bin) (st : Station) :
    (s.testFill g b).isBusy st = s.isBusy st :=
  congrArg (fun x => x.isBusy st) (s.testFill_eq g b)
@[simp] theorem State.testFill_busyEmpty (s : State) (g : Fin 12) (b : Bin) :
    (s.testFill g b).busyEmpty = s.busyEmpty :=
  congrArg (fun x => x.busyEmpty) (s.testFill_eq g b)
@[simp] theorem State.testFill_isCurrentLot (s : State) (g : Fin 12) (b : Bin) (n : Nat) :
    (s.testFill g b).isCurrentLot n = s.isCurrentLot n :=
  congrArg (fun x => x.isCurrentLot n) (s.testFill_eq g b)
@[simp] theorem State.testFill_noHead (s : State) (g : Fin 12) (b : Bin) :
    (s.testFill g b).noHead = s.noHead :=
  congrArg (fun x => x.noHead) (s.testFill_eq g b)
@[simp] theorem State.testFill_recordsUnknown (s : State) (g : Fin 12) (b : Bin) :
    (s.testFill g b).recordsUnknown = s.recordsUnknown :=
  congrArg (fun x => x.recordsUnknown) (s.testFill_eq g b)
@[simp] theorem State.testFill_dwellOver (s : State) (g : Fin 12) (b : Bin) :
    (s.testFill g b).dwellOver = s.dwellOver :=
  congrArg (fun x => x.dwellOver) (s.testFill_eq g b)

/-! ### The arrivals of a dwell -/

/-- A station already in the busy set is not given its arrival (R2). -/
theorem State.ownArrival_busy {s : State} {st : Station} (h : s.isBusy st = true) : s.ownArrival st = s := by
  simp [State.ownArrival, h]

/-- Each arrival delivered is the station's own. -/
@[simp] theorem State.deliver_load (s : State) : s.deliver .load State.arriveLoad = s.ownArrival .load := rfl
@[simp] theorem State.deliver_head (s : State) (h : Head) :
    (s.deliver (.head h) fun s => s.arriveHead h) = s.ownArrival (.head h) := rfl
@[simp] theorem State.deliver_gate (s : State) (g : Fin 12) :
    (s.deliver (.eject (.gate g)) fun s => s.arriveGate g) = s.ownArrival (.eject (.gate g)) := rfl
@[simp] theorem State.deliver_checkReturn (s : State) :
    s.deliver (.eject .checkReturn) State.arriveCheckReturn = s.ownArrival (.eject .checkReturn) := rfl
@[simp] theorem State.deliver_purge (s : State) :
    s.deliver (.eject .purge) State.arrivePurge = s.ownArrival (.eject .purge) := rfl

/-! ### Commands -/

/-- The tests of R176 pass a frame of the command table. -/
theorem testFrame_bytes {f : Frame} (h : requestLength f.code = some f.payload.length)
    (hl : f.payload.length ≤ 40) : testFrame f.bytes = .ok f := by
  have h8 : (BitVec.ofNat 8 f.payload.length).toNat = f.payload.length := by
    rw [BitVec.toNat_ofNat]; exact Nat.mod_eq_of_lt (by omega)
  simp only [Frame.bytes, testFrame, h8, Config.maxCommandPayload]
  rw [if_neg (by simp; omega), h]
  simp

/-- The part takes a command row's frame in READY only, with CS_N high or in a write, and hands its command to
the block in the state after the write (R174, R175, R176). -/
theorem State.takeFrame_some {s u : State} {f : Frame} :
    s.takeFrame f = some u ↔
      s.link.state = .ready ∧ (s.link.transaction = .idle ∨ s.link.transaction = .taken .ready) ∧
        u = s.writeWhole f := by
  unfold State.takeFrame
  split
  · rename_i h1 h2; simp [h1, h2, eq_comm]
  · rename_i h1 h2; simp [h1, h2, eq_comm]
  · rename_i h1 h2
    simp only [reduceCtorEq, false_iff, not_and]
    intro hs ht
    rcases ht with ht | ht
    · exact absurd ht (h1 hs)
    · exact absurd ht (h2 hs)

/-- A command that the part hands to its block is executed and answered (R174, R176). -/
theorem State.command_eq {s u : State} {i : Instr} {f : Frame} (reply : State → Reply)
    (hr : s.lines.inReset = false) (hf : frameOf i = some f) (ht : s.takeFrame f = some u) :
    s.command i reply = .next ((reply u).state.answer (reply u).status (reply u).payload) := by
  have hs := (State.takeFrame_some.mp ht).1
  simp [State.command, State.event, hr, hf, hs, ht, Reply.answered]

/-- In BUSY, the row of the command in the slot returns the answer that its block gave (R174, R176). -/
theorem State.command_busy {s : State} {i : Instr} {f : Frame} {r : Response} (reply : State → Reply)
    (hr : s.lines.inReset = false) (hf : frameOf i = some f) (hs : s.link.state = .busy f r) :
    s.command i reply = .next (s.answer r.status r.payload) := by
  simp [State.command, State.event, hr, hf, hs]

/-- A command that the part does not take is lost. -/
theorem State.command_lost {s : State} {i : Instr} {f : Frame} (reply : State → Reply)
    (hf : frameOf i = some f) (hs : ∀ r, s.link.state ≠ .busy f r) (ht : s.takeFrame f = none) :
    s.command i reply = .next s := by
  cases hl : s.link.state with
  | ready => simp [State.command, State.event, hf, hl, ht]
  | response r => simp [State.command, State.event, hf, hl, ht]
  | busy held r =>
    have hne : held ≠ f := fun e => hs r (e ▸ hl)
    simp [State.command, State.event, hf, hl, hne]

/-- Every command row is its frame taken, with the reply of the block that owns it (R176). -/
theorem exec_command {i : Instr} {f : Frame} (hf : frameOf i = some f) (s : State) :
    exec i s = s.command i (replyOf i) := by
  cases i <;> first | (cases hf; done) | rfl

/-- A frame that reads as a command is acted on by its block when it is written (R176). -/
theorem State.takeWritten_eq {s : State} {f : Frame} {i : Instr}
    (hd : decodeFrame (Config.pocketSenseAtWrite s.link.writes) f = some i) :
    s.takeWritten f = (replyOf i (s.onLink fun l => { l with writes := l.writes + 1 })).busyWith f := by
  simp [State.takeWritten, hd]

/-- An event row acts unless RESET_N is asserted (R180). -/
theorem State.event_eq {s : State} (f : State → State) (h : s.lines.inReset = false) :
    s.event f = .next (f s) := by
  unfold State.event; simp [h]

end Sys2Proof.Machine
end

