-- ==== Sys2Proof/Laws/Words.lean ====
section
/-! SUPPORT. Fields and the bytes that carry them: splitting a field into bytes and joining it again, and reading
a field of a payload. -/

namespace Sys2Proof.Machine

/-! ### Fields of 16 and 32 bits -/

@[simp] theorem word16_bytes16 (v : BitVec 16) :
    word16 (v.extractLsb' 8 8) (v.extractLsb' 0 8) = v := by
  apply BitVec.eq_of_getLsbD_eq
  intro i hi
  simp only [word16, BitVec.getLsbD_append, BitVec.getLsbD_extractLsb']
  by_cases h : i < 8
  · simp [h]
  · have h8 : i - 8 < 8 := by omega
    have he : 8 + (i - 8) = i := by omega
    simp [h, h8, he]

@[simp] theorem word32_bytes32 (v : BitVec 32) :
    word32 (v.extractLsb' 24 8) (v.extractLsb' 16 8) (v.extractLsb' 8 8) (v.extractLsb' 0 8) = v := by
  apply BitVec.eq_of_getLsbD_eq
  intro i hi
  simp only [word32, BitVec.getLsbD_append, BitVec.getLsbD_extractLsb']
  by_cases h0 : i < 8
  · simp [h0]
  by_cases h1 : i < 16
  · have a1 : i - 8 < 8 := by omega
    have e1 : 8 + (i - 8) = i := by omega
    simp [h0, a1, e1]
  by_cases h2 : i < 24
  · have a1 : ¬ i - 8 < 8 := by omega
    have a2 : i - 8 - 8 < 8 := by omega
    have e2 : 16 + (i - 8 - 8) = i := by omega
    simp [h0, a1, a2, e2]
  · have a1 : ¬ i - 8 < 8 := by omega
    have a2 : ¬ i - 8 - 8 < 8 := by omega
    have a3 : i - 8 - 8 - 8 < 8 := by omega
    have e3 : 24 + (i - 8 - 8 - 8) = i := by omega
    simp [h0, a1, a2, a3, e3]

@[simp] theorem bytes16_word16 (b1 b0 : Byte) : bytes16 (word16 b1 b0) = [b1, b0] := by
  have h1 : (word16 b1 b0).extractLsb' 8 8 = b1 := by
    apply BitVec.eq_of_getLsbD_eq
    intro i hi
    have a : ¬ 8 + i < 8 := by omega
    have e : 8 + i - 8 = i := by omega
    simp only [word16, BitVec.getLsbD_append, BitVec.getLsbD_extractLsb', hi, a, e]
    simp
  have h0 : (word16 b1 b0).extractLsb' 0 8 = b0 := by
    apply BitVec.eq_of_getLsbD_eq
    intro i hi
    simp only [word16, BitVec.getLsbD_append, BitVec.getLsbD_extractLsb', hi, Nat.zero_add]
    simp
  rw [bytes16, h1, h0]

@[simp] theorem bytes32_word32 (b3 b2 b1 b0 : Byte) : bytes32 (word32 b3 b2 b1 b0) = [b3, b2, b1, b0] := by
  have h3 : (word32 b3 b2 b1 b0).extractLsb' 24 8 = b3 := by
    apply BitVec.eq_of_getLsbD_eq
    intro i hi
    have a : ¬ 24 + i < 8 := by omega
    have a' : ¬ 24 + i - 8 < 8 := by omega
    have a'' : ¬ 24 + i - 8 - 8 < 8 := by omega
    have e : 24 + i - 8 - 8 - 8 = i := by omega
    simp only [word32, BitVec.getLsbD_append, BitVec.getLsbD_extractLsb', hi, a, a', a'', e]
    simp
  have h2 : (word32 b3 b2 b1 b0).extractLsb' 16 8 = b2 := by
    apply BitVec.eq_of_getLsbD_eq
    intro i hi
    have a : ¬ 16 + i < 8 := by omega
    have a' : ¬ 16 + i - 8 < 8 := by omega
    have a'' : 16 + i - 8 - 8 < 8 := by omega
    have e : 16 + i - 8 - 8 = i := by omega
    simp only [word32, BitVec.getLsbD_append, BitVec.getLsbD_extractLsb', hi, a, a', e]
    simp
  have h1 : (word32 b3 b2 b1 b0).extractLsb' 8 8 = b1 := by
    apply BitVec.eq_of_getLsbD_eq
    intro i hi
    have a : ¬ 8 + i < 8 := by omega
    have e : 8 + i - 8 = i := by omega
    simp only [word32, BitVec.getLsbD_append, BitVec.getLsbD_extractLsb', hi, a, e]
    simp
  have h0 : (word32 b3 b2 b1 b0).extractLsb' 0 8 = b0 := by
    apply BitVec.eq_of_getLsbD_eq
    intro i hi
    simp only [word32, BitVec.getLsbD_append, BitVec.getLsbD_extractLsb', hi, Nat.zero_add]
    simp
  rw [bytes32, h3, h2, h1, h0]

@[simp] theorem bytes16_length (v : BitVec 16) : (bytes16 v).length = 2 := rfl
@[simp] theorem bytes32_length (v : BitVec 32) : (bytes32 v).length = 4 := rfl

/-! ### Numbers of `k` bytes -/

@[simp] theorem bytesBE_length (k v : Nat) : (bytesBE k v).length = k := by
  induction k with
  | zero => rfl
  | succ k ih => simp [bytesBE, ih]

@[simp] theorem byte1_length (n : Nat) : (byte1 n).length = 1 := rfl

@[simp] theorem signedBE_length (k : Nat) (x : Int) : (signedBE k x).length = k := bytesBE_length _ _

/-- Reading on from a number already read. -/
theorem numBE_foldl (bytes : List Byte) (n : Nat) :
    bytes.foldl (fun n b => 256 * n + b.toNat) n = n * 256 ^ bytes.length + numBE bytes := by
  induction bytes generalizing n with
  | nil => simp [numBE]
  | cons b bs ih =>
    simp only [List.foldl_cons, numBE, List.length_cons]
    rw [ih, ih (256 * 0 + b.toNat)]
    ring

theorem numBE_cons (b : Byte) (bs : List Byte) : numBE (b :: bs) = b.toNat * 256 ^ bs.length + numBE bs := by
  unfold numBE
  rw [List.foldl_cons, numBE_foldl]
  simp [numBE]

/-- The number that `k` bytes of `v` spell. -/
@[simp] theorem numBE_bytesBE (k v : Nat) : numBE (bytesBE k v) = v % 256 ^ k := by
  induction k with
  | zero => simp [bytesBE, numBE, Nat.mod_one]
  | succ k ih =>
    rw [bytesBE, numBE_cons, bytesBE_length, ih, BitVec.toNat_ofNat]
    have h : (2 : Nat) ^ 8 = 256 := by norm_num
    rw [h, pow_succ, Nat.mod_mul]
    ring

@[simp] theorem numBE_byte1 (n : Nat) : numBE (byte1 n) = n % 256 := by
  simp [numBE, byte1]

@[simp] theorem numBE_bytes16 (v : BitVec 16) : numBE (bytes16 v) = v.toNat := by
  simp only [numBE, bytes16, List.foldl_cons, List.foldl_nil, BitVec.extractLsb'_toNat,
    Nat.shiftRight_eq_div_pow]
  have := v.isLt
  omega

/-- Reading a field that lies in the rest of a payload. -/
theorem fieldAt_append_right {xs ys : List Byte} {k n : Nat} (h : xs.length ≤ k) :
    fieldAt (xs ++ ys) k n = fieldAt ys (k - xs.length) n := by
  unfold fieldAt
  rw [List.drop_append, List.drop_eq_nil_of_le h, List.nil_append]

/-- Reading a field that is the first part of a payload. -/
theorem fieldAt_append_left {xs ys : List Byte} {n : Nat} (h : xs.length = n) :
    fieldAt (xs ++ ys) 0 n = numBE xs := by
  unfold fieldAt
  rw [List.drop_zero, List.take_left' h]

end Sys2Proof.Machine
end

