-- ==== Sys2Proof/Laws/PerInstr.lean ====
section
/-! SUPPORT. One lemma per constructor of `Instr` for the statements made of every row: the command frame of a
row passes the tests of R176 and reads back as the row. -/

namespace Sys2Proof.Laws.FrameRoundTrip

open Sys2Proof.Machine

/-- The row's command frame, if it has one, passes the tests of a written frame and reads back as the row. -/
def Statement (i : Instr) : Prop :=
  ∀ f, frameOf i = some f → (∃ sense, decodeFrame sense f = some i) ∧ testFrame f.bytes = .ok f

/-- A row that is an event has no frame. -/
theorem of_event {i : Instr} (h : frameOf i = none) : Statement i := by
  intro f hf
  rw [h] at hf
  exact absurd hf (by simp)

/-- A command's frame, from its parts. -/
theorem of_command {i : Instr} {f : Frame} (sense : Bool) (h : frameOf i = some f)
    (hd : decodeFrame sense f = some i) (hl : requestLength f.code = some f.payload.length)
    (hp : f.payload.length ≤ 40) : Statement i := by
  intro g hg
  rw [h] at hg
  cases hg
  exact ⟨⟨sense, hd⟩, testFrame_bytes hl hp⟩

theorem powerOnReset (estop : Bool) (cans : BitVec 12) : Statement (.powerOnReset estop cans) :=
  of_event rfl
theorem resetNAsserted : Statement .resetNAsserted :=
  of_event rfl
theorem indexDone (pocketSense : Bool) : Statement (.indexDone pocketSense) :=
  of_event rfl
theorem minDwellExpiry : Statement .minDwellExpiry :=
  of_event rfl
theorem moveTimerExpiry : Statement .moveTimerExpiry :=
  of_event rfl
theorem estopAsserted : Statement .estopAsserted :=
  of_event rfl
theorem estopReleased : Statement .estopReleased :=
  of_event rfl
theorem startLineEdge (pocketSense : Bool) : Statement (.startLineEdge pocketSense) :=
  of_event rfl
theorem feedPulseEnd : Statement .feedPulseEnd :=
  of_event rfl
theorem loadSense : Statement .loadSense :=
  of_event rfl
theorem feedWindowExpiry : Statement .feedWindowExpiry :=
  of_event rfl
theorem requestSent (h : Head) : Statement (.requestSent h) :=
  of_event rfl
theorem quietTimerExpiry (h : Head) : Statement (.quietTimerExpiry h) :=
  of_event rfl
theorem result (h : Head) (tag : Byte) (code : BitVec 24) (status : Byte) :
    Statement (.result h tag code status) :=
  of_event rfl
theorem identAnswer (h : Head) (tag : Byte) (maxRange : Byte) : Statement (.identAnswer h tag maxRange) :=
  of_event rfl
theorem responseTimeout (h : Head) : Statement (.responseTimeout h) :=
  of_event rfl
theorem linkPause (h : Head) : Statement (.linkPause h) :=
  of_event rfl
theorem framingError (h : Head) : Statement (.framingError h) :=
  of_event rfl
theorem unknownType (h : Head) (byte : Byte) : Statement (.unknownType h byte) :=
  of_event rfl
theorem discardQuiet (h : Head) : Statement (.discardQuiet h) :=
  of_event rfl
theorem pulseTimerExpiry (c : Chute) : Statement (.pulseTimerExpiry c) :=
  of_event rfl
theorem chutePulse (c : Chute) : Statement (.chutePulse c) :=
  of_event rfl
theorem windowTimerExpiry (c : Chute) : Statement (.windowTimerExpiry c) :=
  of_event rfl
theorem canRemoved (g : Fin 12) : Statement (.canRemoved g) :=
  of_event rfl
theorem canInserted (g : Fin 12) : Statement (.canInserted g) :=
  of_event rfl
theorem writeTransaction (sdi : List Byte) : Statement (.writeTransaction sdi) :=
  of_event rfl
theorem poll (sdi : List Byte) : Statement (.poll sdi) :=
  of_event rfl
theorem discard (sdi : List Byte) : Statement (.discard sdi) :=
  of_event rfl
theorem readTransaction (sdi : List Byte) : Statement (.readTransaction sdi) :=
  of_event rfl
theorem decode_setDial (x0 x1 x2 x3 x4 : Byte) :
    decodeFrame true ⟨0x10#8, [x0, x1, x2, x3, x4]⟩ =
      some (.setDial (word16 x0 x1) (word16 x2 x3) x4) :=
  rfl
theorem setDial (minDwell : BitVec 16) (moveTimeout : BitVec 16) (startEnable : Byte) :
    Statement (.setDial minDwell moveTimeout startEnable) :=
  of_command true rfl
    ((decode_setDial _ _ _ _ _).trans (by rw [word16_bytes16, word16_bytes16])) rfl (Nat.le_of_ble_eq_true rfl)
theorem setFeed (window : Byte) : Statement (.setFeed window) :=
  of_command true rfl rfl rfl (Nat.le_of_ble_eq_true rfl)
theorem start (pocketSense : Bool) : Statement (.start pocketSense) :=
  of_command pocketSense rfl rfl rfl (Nat.le_of_ble_eq_true rfl)
theorem stop : Statement .stop :=
  of_command true rfl rfl rfl (Nat.le_of_ble_eq_true rfl)
theorem hold : Statement .hold :=
  of_command true rfl rfl rfl (Nat.le_of_ble_eq_true rfl)
theorem release : Statement .release :=
  of_command true rfl rfl rfl (Nat.le_of_ble_eq_true rfl)
theorem readDial : Statement .readDial :=
  of_command true rfl rfl rfl (Nat.le_of_ble_eq_true rfl)
theorem lotOpen : Statement .lotOpen :=
  of_command true rfl rfl rfl (Nat.le_of_ble_eq_true rfl)
theorem lotClose : Statement .lotClose :=
  of_command true rfl rfl rfl (Nat.le_of_ble_eq_true rfl)
theorem lotAbort : Statement .lotAbort :=
  of_command true rfl rfl rfl (Nat.le_of_ble_eq_true rfl)
theorem readLot : Statement .readLot :=
  of_command true rfl rfl rfl (Nat.le_of_ble_eq_true rfl)
theorem decode_setNominal (x0 x1 x2 : Byte) :
    decodeFrame true ⟨0x30#8, [x0, x1, x2]⟩ =
      some (.setNominal (word16 x0 x1) x2) :=
  rfl
theorem setNominal (mantissa : BitVec 16) (exponent : Byte) : Statement (.setNominal mantissa exponent) :=
  of_command true rfl
    ((decode_setNominal _ _ _).trans (by rw [word16_bytes16])) rfl (Nat.le_of_ble_eq_true rfl)
theorem decode_setMeasure (x0 x1 x2 x3 : Byte) :
    decodeFrame true ⟨0x31#8, [x0, x1, x2, x3]⟩ =
      some (.setMeasure x0 x1 (word16 x2 x3)) :=
  rfl
theorem setMeasure (mode : Byte) (aperture : Byte) (agreeLimit : BitVec 16) :
    Statement (.setMeasure mode aperture agreeLimit) :=
  of_command true rfl
    ((decode_setMeasure _ _ _ _).trans (by rw [word16_bytes16])) rfl (Nat.le_of_ble_eq_true rfl)
theorem setRetest (doubtMask : Byte) (retestLimit : Byte) (slot1 : Byte) (slot2 : Byte) (lapLimit : Byte) :
    Statement (.setRetest doubtMask retestLimit slot1 slot2 lapLimit) :=
  of_command true rfl rfl rfl (Nat.le_of_ble_eq_true rfl)
theorem decode_setClass (x0 x1 x2 x3 x4 x5 x6 x7 x8 x9 x10 x11 x12 x13 : Byte) :
    decodeFrame true ⟨0x33#8, [x0, x1, x2, x3, x4, x5, x6, x7, x8, x9, x10, x11, x12, x13]⟩ =
      some (.setClass x0 (word32 x1 x2 x3 x4) (word32 x5 x6 x7 x8) (word16 x9 x10) x11 x12 x13) :=
  rfl
theorem setClass (index : Byte) (lo hi : BitVec 32) (guardBand : BitVec 16)
    (primary overflow catchAll : Byte) :
    Statement (.setClass index lo hi guardBand primary overflow catchAll) :=
  of_command true rfl
    ((decode_setClass _ _ _ _ _ _ _ _ _ _ _ _ _ _).trans (by rw [word32_bytes32, word32_bytes32, word16_bytes16]))
    rfl (Nat.le_of_ble_eq_true rfl)
theorem clearClasses : Statement .clearClasses :=
  of_command true rfl rfl rfl (Nat.le_of_ble_eq_true rfl)
theorem decode_setCheck (x0 x1 x2 x3 x4 x5 x6 x7 : Byte) :
    decodeFrame true ⟨0x35#8, [x0, x1, x2, x3, x4, x5, x6, x7]⟩ =
      some (.setCheck (word16 x0 x1) (word32 x2 x3 x4 x5) (word16 x6 x7)) :=
  rfl
theorem setCheck (interval : BitVec 16) (certified : BitVec 32) (driftLimit : BitVec 16) :
    Statement (.setCheck interval certified driftLimit) :=
  of_command true rfl
    ((decode_setCheck _ _ _ _ _ _ _ _).trans (by rw [word32_bytes32, word16_bytes16, word16_bytes16]))
    rfl (Nat.le_of_ble_eq_true rfl)
theorem copyActive : Statement .copyActive :=
  of_command true rfl rfl rfl (Nat.le_of_ble_eq_true rfl)
theorem readRecipe (bank : Byte) : Statement (.readRecipe bank) :=
  of_command true rfl rfl rfl (Nat.le_of_ble_eq_true rfl)
theorem setHead (head : Byte) (timeoutSelect : Byte) : Statement (.setHead head timeoutSelect) :=
  of_command true rfl rfl rfl (Nat.le_of_ble_eq_true rfl)
theorem decode_setHeadCal (x0 x1 x2 x3 x4 x5 : Byte) :
    decodeFrame true ⟨0x41#8, [x0, x1, x2, x3, x4, x5]⟩ =
      some (.setHeadCal x0 x1 (word16 x2 x3) (word16 x4 x5)) :=
  rfl
theorem setHeadCal (head : Byte) (range : Byte) (offset : BitVec 16) (gain : BitVec 16) :
    Statement (.setHeadCal head range offset gain) :=
  of_command true rfl
    ((decode_setHeadCal _ _ _ _ _ _).trans (by rw [word16_bytes16, word16_bytes16]))
    rfl (Nat.le_of_ble_eq_true rfl)
theorem headEnable (head : Byte) : Statement (.headEnable head) :=
  of_command true rfl rfl rfl (Nat.le_of_ble_eq_true rfl)
theorem headDisable (head : Byte) : Statement (.headDisable head) :=
  of_command true rfl rfl rfl (Nat.le_of_ble_eq_true rfl)
theorem readHead (head : Byte) : Statement (.readHead head) :=
  of_command true rfl rfl rfl (Nat.le_of_ble_eq_true rfl)
theorem readHeadStats (head : Byte) : Statement (.readHeadStats head) :=
  of_command true rfl rfl rfl (Nat.le_of_ble_eq_true rfl)
theorem forceDoubt (head : Byte) : Statement (.forceDoubt head) :=
  of_command true rfl rfl rfl (Nat.le_of_ble_eq_true rfl)
theorem setGate (pulseWidth : Byte) (confirmWindow : Byte) :
    Statement (.setGate pulseWidth confirmWindow) :=
  of_command true rfl rfl rfl (Nat.le_of_ble_eq_true rfl)
theorem decode_setBin (x0 x1 x2 x3 x4 : Byte) :
    decodeFrame true ⟨0x51#8, [x0, x1, x2, x3, x4]⟩ =
      some (.setBin x0 (word16 x1 x2) (word16 x3 x4)) :=
  rfl
theorem setBin (bin : Byte) (capacity : BitVec 16) (threshold : BitVec 16) :
    Statement (.setBin bin capacity threshold) :=
  of_command true rfl
    ((decode_setBin _ _ _ _ _).trans (by rw [word16_bytes16, word16_bytes16])) rfl (Nat.le_of_ble_eq_true rfl)
theorem stall (bin : Byte) : Statement (.stall bin) :=
  of_command true rfl rfl rfl (Nat.le_of_ble_eq_true rfl)
theorem unstall (bin : Byte) : Statement (.unstall bin) :=
  of_command true rfl rfl rfl (Nat.le_of_ble_eq_true rfl)
theorem readBin (index : Byte) : Statement (.readBin index) :=
  of_command true rfl rfl rfl (Nat.le_of_ble_eq_true rfl)
theorem readPocket (pocket : Byte) : Statement (.readPocket pocket) :=
  of_command true rfl rfl rfl (Nat.le_of_ble_eq_true rfl)
theorem voidPocket (pocket : Byte) : Statement (.voidPocket pocket) :=
  of_command true rfl rfl rfl (Nat.le_of_ble_eq_true rfl)
theorem reroutePocket (pocket : Byte) (cls : Byte) : Statement (.reroutePocket pocket cls) :=
  of_command true rfl rfl rfl (Nat.le_of_ble_eq_true rfl)
theorem forceClass (cls : Byte) : Statement (.forceClass cls) :=
  of_command true rfl rfl rfl (Nat.le_of_ble_eq_true rfl)
theorem requestCheck : Statement .requestCheck :=
  of_command true rfl rfl rfl (Nat.le_of_ble_eq_true rfl)
theorem readFaults : Statement .readFaults :=
  of_command true rfl rfl rfl (Nat.le_of_ble_eq_true rfl)
theorem decode_ackFaults (x0 x1 x2 x3 : Byte) :
    decodeFrame true ⟨0x71#8, [x0, x1, x2, x3]⟩ =
      some (.ackFaults (word32 x0 x1 x2 x3)) :=
  rfl
theorem ackFaults (flags : BitVec 32) : Statement (.ackFaults flags) :=
  of_command true rfl
    ((decode_ackFaults _ _ _ _).trans (by rw [word32_bytes32])) rfl (Nat.le_of_ble_eq_true rfl)
theorem readCapture (which : Byte) : Statement (.readCapture which) :=
  of_command true rfl rfl rfl (Nat.le_of_ble_eq_true rfl)
theorem ackCapture (which : Byte) : Statement (.ackCapture which) :=
  of_command true rfl rfl rfl (Nat.le_of_ble_eq_true rfl)
theorem decode_setAttnMask (x0 x1 x2 x3 : Byte) :
    decodeFrame true ⟨0x74#8, [x0, x1, x2, x3]⟩ =
      some (.setAttnMask (word32 x0 x1 x2 x3)) :=
  rfl
theorem setAttnMask (mask : BitVec 32) : Statement (.setAttnMask mask) :=
  of_command true rfl
    ((decode_setAttnMask _ _ _ _).trans (by rw [word32_bytes32])) rfl (Nat.le_of_ble_eq_true rfl)
theorem resetSort : Statement .resetSort :=
  of_command true rfl rfl rfl (Nat.le_of_ble_eq_true rfl)
theorem transactionBegin : Statement .transactionBegin :=
  of_event rfl
theorem byteReceived (h : Head) (byte : Byte) : Statement (.byteReceived h byte) :=
  of_event rfl

end Sys2Proof.Laws.FrameRoundTrip
end

