-- ==== Sys2Proof/Tests/Slice0.lean ====
section
/-! SUPPORT. Tests of the model, one row at a time with results taken from the manual's rules and worked
cases, and the witnesses: for each statement, states and operands that meet its hypotheses. -/

open Sys2Proof Sys2Proof.Machine

namespace Sys2Proof.Tests

/-! ### Small states -/

/-- The state after one row. -/
def after (i : Instr) (s : State) : State :=
  match exec i s with
  | .next t => t
  | _ => s

/-- The status and payload of the response slot. -/
def answered (s : State) : Option (Status × List Byte) := s.responseSlot.map fun r => (r.status, r.payload)

/-- A PART record of lot 1 with serial 1, and a CHECK record. -/
def part (ph : Phase) : LiveRecord :=
  { kind := .part, lot := 1, serial := 1, lap := 0, attempts := 0, readings := [],
    flags := ⟨false, false, false, false, false⟩, phase := ph, grading := none, cls := none }
def standard (ph : Phase) : LiveRecord := { part ph with kind := .check }

/-- A record graded into class 0 at deviation 0 by head A. -/
def graded (ph : Phase) : LiveRecord := { part ph with grading := some ⟨0, .one .a 0#16⟩, cls := some 0 }

/-- Class 0 takes −100 to +100 with guard 10, at gate 0 with overflow gate 1. -/
def recipe : Recipe :=
  { Recipe.reset with
    classes := (Vector.replicate 12 none).set 0 (some ⟨-100, 100, 10, 0, some 1, false⟩) }

def readyHead : HeadUnit := { HeadUnit.reset with state := .ready, maxRange := some 6, timeoutSelect := 2 }

/-- Lot 1 is OPEN under `recipe`, both heads are READY, D is 0, the dial is IDLE, and every pocket is EMPTY but
pocket `p`, which holds `r`. -/
def withLot (p : Fin 24) (r : PocketRecord) : State :=
  { State.reset with
    pockets := (Vector.replicate 24 .empty).set p.val r
    heads := ⟨readyHead, readyHead⟩
    banks := ⟨recipe, recipe⟩
    lot := { state := .open_, number := 1, counters := { LotCounters.zero with loaded := 1 } } }

/-- The dial in a state, with the minimum-dwell timer as it is in that state. -/
def dialIn (d : DialState) (s : State) : State :=
  { s with dial :=
    { s.dial with state := d, dwellTimer := if d = .dwell then .running 60 else .stopped } }

/-- A dwell whose minimum has elapsed. -/
def dwellOut (s : State) : State := { s with dial := { s.dial with state := .dwell, dwellTimer := .elapsed } }

/-- Head `h` measures pocket `p`, whose record is `r`, in a dwell. -/
def measuring (h : Head) (p : Fin 24) (r : LiveRecord) : State :=
  let s := (dialIn .dwell (withLot p (.live r))).joinBusy (.head h)
  s.onHead h fun u =>
    { u with state := .measuring, request := some ⟨.measure p 3 1, true⟩, responseTimer := .running 16 }

/-- Head `h` is OUT, and PROBING with its request sent. -/
def headOut (h : Head) (s : State) : State := s.onHead h fun u => { u with state := .out .host }
def probing (h : Head) (s : State) : State :=
  s.onHead h fun u =>
    { u with state := .probing, request := some ⟨.ident, true⟩, responseTimer := .running 16 }

/-- A part feed for pocket 0 is in flight, in a dwell. -/
def feeding (kind : Kind) (s : State) : State :=
  ((dialIn .dwell s).joinBusy .load).onFeed fun f =>
    { f with
      inFlight := some { target := 0, kind := kind, lot := 1, aborted := false, reset := false }
      windowTimer := .running 40 }

/-- The ejector `c` has fired for pocket `p`, in a dwell. -/
def fired (c : Chute) (p : Fin 24) (sweep : Bool) (s : State) : State :=
  (dialIn .dwell s).fireEjector c p sweep

/-- READY with CS_N high, and then at the end of the write that carried a command row's frame. -/
def readyFor (s : State) : State := { s with link := ⟨.ready, .idle, [], 0⟩ }
def taken (i : Instr) (s : State) : State :=
  match frameOf i with
  | some f => (readyFor s).writeWhole f
  | none => s

/-- Any command can be handed to its block in any state out of reset. -/
theorem taken_hands (i : Instr) (f : Frame) (s : State) (hf : frameOf i = some f)
    (hr : s.lines.inReset = false) : (readyFor s).Hands i (taken i s) := by
  refine ⟨hr, f, hf, ?_⟩
  simp only [taken, hf]
  rfl

/-- The part is BUSY with a command that has been written. -/
def written (i : Instr) (s : State) : State :=
  match frameOf i with
  | some f => after (.writeTransaction f.bytes) s
  | none => s

/-! ### Well-formed rows -/

theorem test_wf_write_needs_two_bytes : ¬(Instr.writeTransaction [0x16#8]).WellFormed := by decide
theorem test_wf_poll_has_fewer : ¬(Instr.poll [0x16#8, 0#8]).WellFormed := by decide
theorem test_wf_unknown_type_is_no_result : ¬(Instr.unknownType .a 0xB1#8).WellFormed := by decide
theorem test_wf_unknown_type_is_no_ident : ¬(Instr.unknownType .b 0xB2#8).WellFormed := by decide
theorem test_wf_takes_the_others :
    (Instr.writeTransaction [0x16#8, 0#8]).WellFormed ∧ (Instr.poll []).WellFormed ∧
      (Instr.unknownType .a 0x31#8).WellFormed ∧ (Instr.setFeed 255#8).WellFormed := by decide

/-! ### Frames written out from the command code table (spec 11) -/

/-- The bytes pass the tests of R176 and read as the row. -/
def reads (bytes : List Byte) (i : Instr) : Prop :=
  ∃ f, testFrame bytes = .ok f ∧ decodeFrame false f = some i

theorem test_frame_setDial :
    reads [0x10, 5, 0x00, 0x3C, 0x01, 0x2C, 0x01] (.setDial 60 300 1) := ⟨_, rfl, rfl⟩
theorem test_frame_start : reads [0x12, 0] (.start false) := ⟨_, rfl, rfl⟩
theorem test_frame_setFeed : reads [0x11, 1, 0x28] (.setFeed 40) := ⟨_, rfl, rfl⟩
theorem test_frame_lotOpen : reads [0x20, 0] .lotOpen := ⟨_, rfl, rfl⟩
theorem test_frame_setNominal : reads [0x30, 3, 0x13, 0x7E, 0xFF] (.setNominal 4990 (-1)) := ⟨_, rfl, rfl⟩
theorem test_frame_setClass :
    reads [0x33, 14, 2, 0xFF, 0xFF, 0xFF, 0x9C, 0, 0, 0, 0x64, 0x01, 0x0A, 3, 0xFF, 1]
      (.setClass 2 (-100) 100 266 3 255 1) := ⟨_, rfl, rfl⟩
theorem test_frame_setHeadCal :
    reads [0x41, 6, 1, 3, 0xFF, 0x9C, 0x00, 0xFA] (.setHeadCal 1 3 (-100) 250) := ⟨_, rfl, rfl⟩
theorem test_frame_setBin : reads [0x51, 5, 2, 0x01, 0xF4, 0x01, 0xC2] (.setBin 2 500 450) := ⟨_, rfl, rfl⟩
theorem test_frame_readPocket : reads [0x60, 1, 0x17] (.readPocket 23) := ⟨_, rfl, rfl⟩
theorem test_frame_requestCheck : reads [0x64, 0] .requestCheck := ⟨_, rfl, rfl⟩
theorem test_frame_ackFaults : reads [0x71, 4, 0x00, 0x04, 0x00, 0x01] (.ackFaults 0x40001) := ⟨_, rfl, rfl⟩
theorem test_frame_resetSort : reads [0x7F, 0] .resetSort := ⟨_, rfl, rfl⟩

/-! ### The worked cases of the conversion (spec 4.6) -/

theorem test_convert_head_a : convert 4990 ⟨120, -35⟩ 4186800#24 = (148, false) := by decide
theorem test_convert_head_b : convert 4990 ⟨0, 0⟩ 4186556#24 = (153, false) := by decide
theorem test_convert_half_above : convert 3125 ⟨0, 0⟩ 2625536#24 = (1563, false) := by decide
theorem test_convert_half_below : convert 3125 ⟨0, 0⟩ 2617344#24 = (-1562, false) := by decide
theorem test_convert_half_lowest : convert 3125 ⟨0, 0⟩ 4096#24 = (-998437, false) := by decide
theorem test_convert_saturates : convert 1000 ⟨0, 0⟩ 0xFFFFFF#24 = (9999999, true) := by decide
theorem test_convert_below_offset : convert 4990 ⟨120, 0⟩ 80#24 = (-1000000, false) := by decide
theorem test_confirm_mean_rounds_down :
    confirmMean ⟨0, 0, -37, false⟩ ⟨0, 0, -42, false⟩ = -40 ∧
      confirmMean ⟨0, 0, 148, false⟩ ⟨0, 0, 153, false⟩ = 150 := by decide
theorem test_confirm_agrees :
    agrees 20 ⟨0, 0, 148, false⟩ ⟨0, 0, 153, false⟩ = true ∧
      agrees 20 ⟨0, 0, 148, false⟩ ⟨0, 0, 171, false⟩ = false := by decide

/-! ### One row each -/

theorem test_powerOnReset :
    let t := after (.powerOnReset true 0xFF7#12) (dialIn .moving (withLot 4 .empty))
    t.dial.state = .estopped ∧ t.flags = 0x40020#19 ∧ (t.bin 3).present = false ∧ (t.bin 4).present = true := by
  decide

theorem test_resetNAsserted :
    let t := after .resetNAsserted (fired .purge 3 true (withLot 3 .unknown))
    (t.ejector .purge).driven = false ∧ t.lines.inReset = true ∧ t.attnLine = false := by decide

theorem test_indexDone_wraps :
    let s := withLot 4 .empty
    let t := after (.indexDone false) (dialIn .moving { s with dial := { s.dial with position := 23 } })
    t.dial.position = 0 ∧ t.dial.state = .dwell ∧ t.isBusy .load = true := by decide

theorem test_indexDone_spurious :
    let t := after (.indexDone false) State.reset
    t.dial.position = 1 ∧ t.dial.state = .idle ∧ t.flags = 0x40002#19 := by decide

theorem test_minDwellExpiry_steps :
    let t := after .minDwellExpiry (dialIn .dwell State.reset)
    t.dial.state = .moving ∧ t.dial.moveTimer = .running 300 ∧ t.stepLine = true := by decide

theorem test_minDwellExpiry_waits :
    (after .minDwellExpiry (measuring .a 21 (part (.measuring .a false none)))).dial.state = .dwell := by decide

theorem test_moveTimerExpiry :
    let t := after .moveTimerExpiry (dialIn .moving (withLot 4 .empty))
    t.dial.state = .jammed ∧ t.flags = 1#19 ∧ t.dial.position = 0 := by decide

theorem test_estopAsserted_gives_up :
    let t := after .estopAsserted (dialIn .moving (withLot 4 (.live (part (.pending .a false)))))
    t.dial.state = .estopped ∧ t.pocket 4 = .unknown ∧ t.lot.counters.abandoned = 1 := by decide

theorem test_estopReleased :
    (after .estopReleased (after .estopAsserted State.reset)).dial.state = .idle := by decide

theorem test_startLineEdge_needs_enable : after (.startLineEdge false) State.reset = State.reset := by decide

theorem test_start_whatever_the_hold :
    (after (.start false) (dialIn .idle State.reset)).dial.state = .dwell ∧
      answered (after (.start false) (dialIn .held State.reset)) = some (.refusedState, []) := by decide

theorem test_feedPulseEnd :
    (after .feedPulseEnd ((withLot 4 .empty).beginFeed 0)).feed.feedOut = false := by decide

theorem test_loadSense_gives_the_serial :
    let t := after .loadSense (feeding .part (withLot 4 .empty))
    t.pocket 0 = .live { part (.pending .a false) with serial := 2 } ∧ t.lot.counters.loaded = 2 ∧
      t.isBusy .load = false := by decide

theorem test_feedWindowExpiry_starves :
    let s := feeding .part (withLot 4 .empty)
    let t := after .feedWindowExpiry { s with feed := { s.feed with misses := 7 } }
    t.feed.misses = 0 ∧ t.flags = 0x1000#19 ∧ t.pocket 0 = .empty := by decide

theorem test_requestSent :
    ((after (.requestSent .b) (after (.headEnable 1) State.reset)).head .b).responseTimer = .running 8 := by
  decide

theorem test_quietTimerExpiry :
    let s := State.reset.onHead .a fun u => { u with quietTimer := .running 8 }
    after (.quietTimerExpiry .a) s = State.reset := by decide

theorem test_result_grades :
    let t := after (.result .a 21 838861#24 0) (measuring .a 21 (part (.measuring .a false none)))
    t.pocket 21 = .live
        { graded .classified with
          attempts := 1
          readings := [⟨.a, some ⟨838861#24, 0, 0, false⟩, 0, false, false⟩] } ∧
      (t.head .a).state = .ready ∧ t.isBusy (.head .a) = false := by decide +kernel

theorem test_result_open_is_retested_at_b :
    let t := after (.result .a 21 838861#24 1) (measuring .a 21 (part (.measuring .a false none)))
    (∃ r, t.pocket 21 = .live r ∧ r.phase = .pending .b false ∧ r.attempts = 1) ∧ t.lot.counters.retests = 1 :=
  ⟨⟨_, rfl, by decide, by decide⟩, by decide⟩

theorem test_identAnswer_stores_at_most_six :
    let t := after (.identAnswer .a 0xFF 9) (probing .a (withLot 4 .empty))
    (t.head .a).state = .ready ∧ (t.head .a).maxRange = some 6 := by decide

theorem test_identAnswer_incapable :
    let t := after (.identAnswer .a 0xFF 2) (probing .a (withLot 4 .empty))
    (t.head .a).state = .out .incapable := by decide

theorem test_responseTimeout_third :
    let s := (measuring .a 21 (part (.measuring .a false none))).onHead .a fun u => { u with noReplies := 2 }
    let t := after (.responseTimeout .a) s
    (t.head .a).state = .out .lost ∧ (t.head .a).noReplies = 0 ∧ t.flags = 0x400#19 := by decide

theorem test_linkPause :
    let s := State.reset.onHead .a fun u => { u with receiver := .inFrame [0xB1#8, 3] }
    let u := (after (.linkPause .a) s).head .a
    u.receiver = .idle ∧ u.counters.linkErrors = 1 := by decide

theorem test_framingError_counts_once :
    let u := (after (.framingError .b) (after (.framingError .b) State.reset)).head .b
    u.receiver = .discarding ∧ u.counters.linkErrors = 1 := by decide

theorem test_unknownType :
    ((after (.unknownType .a 0x31) State.reset).head .a).receiver = .discarding := by decide

theorem test_discardQuiet :
    ((after (.discardQuiet .a) (after (.unknownType .a 0) State.reset)).head .a).receiver = .idle := by decide

theorem test_byteReceived_completes :
    let s := (measuring .a 21 (part (.measuring .a false none))).onHead .a fun u =>
      { u with receiver := .inFrame [0xB1#8, 21, 0x0C, 0xCC, 0xCD] }
    ∃ r, (after (.byteReceived .a 0) s).pocket 21 = .live r ∧ r.cls = some 0 :=
  ⟨_, rfl, by decide⟩

theorem test_pulseTimerExpiry :
    let t := after (.pulseTimerExpiry (.gate 0)) (fired (.gate 0) 16 false (withLot 16 .empty))
    (t.ejector (.gate 0)).driven = false ∧ (t.ejector (.gate 0)).state = .fired 16 false := by decide

theorem test_chutePulse_bins :
    let t := after (.chutePulse (.gate 0))
      (fired (.gate 0) 16 false (withLot 16 (.live (graded (.ejecting (.gate 0))))))
    t.pocket 16 = .empty ∧ (t.bin 0).fill = 1 ∧ t.check.exposure = ⟨1, 0⟩ ∧
      t.lot.counters.binned.toList = [1, 0, 0, 0, 0, 0, 0, 0, 0, 0, 0, 0] := by decide

theorem test_chutePulse_noise :
    ((after (.chutePulse .checkReturn) State.reset).ejector .checkReturn).noise = 1 := by decide

theorem test_windowTimerExpiry_blocks :
    let s := (fired (.gate 0) 16 false (withLot 16 (.live (graded (.ejecting (.gate 0)))))).onBin 0 fun b =>
      { b with misses := 2 }
    let t := after (.windowTimerExpiry (.gate 0)) s
    t.pocket 16 = .live (graded (.purgePending .ejectMiss)) ∧ (t.bin 0).blocked = true ∧
      t.flags = 0x4100#19 ∧ t.faults.gateBlockedBins = 1#12 := by decide

theorem test_windowTimerExpiry_settles :
    let t := after (.chutePulse .purge) (fired .purge 3 true (withLot 3 .unknown))
    (t.ejector .purge).state = .settling ∧
      ((after (.windowTimerExpiry .purge) t).ejector .purge).state = .idle := by decide

theorem test_canRemoved :
    let b := (after (.canRemoved 11) State.reset).bin 11
    b.present = false ∧ b.removedLatch = true := by decide

theorem test_canInserted :
    let s := State.reset.onBin 11 fun b => { b with fill := 7, swaps := 0xFFFF, present := false }
    let b := (after (.canInserted 11) s).bin 11
    b.present = true ∧ b.fill = 0 ∧ b.swaps = 0 ∧ b.insertedLatch = true := by decide

theorem test_writeTransaction_takes :
    (after (.writeTransaction [0x16, 0]) State.reset).link =
      ⟨.busy ⟨0x16, []⟩ ⟨.ok, [0, 0, 0, 0, 0, 0, 0, 60, 1, 0x2C]⟩, .idle, [0xA0, 0], 1⟩ := by decide

/-- The moment of handing is the moment the command is taken (R176): STOP written in MOVING sets stop pending
before the move timer expires, and is then answered in JAMMED with no further effect. -/
theorem test_written_command_acts_at_its_write :
    let t := after .moveTimerExpiry (written .stop (dialIn .moving State.reset))
    t.dial.state = .jammed ∧ t.dial.stopPending = true ∧ answered t = none ∧
      answered (after .stop t) = some (.ok, []) ∧ (after .stop t).dial = t.dial := by decide

/-- A written START acts at the rise of CS_N, whatever the level of POCKET_SENSE then (R12, R176; log entry 12). -/
theorem test_written_start_acts_at_its_write :
    ∃ sensed, (after (.writeTransaction [0x12, 0]) (withLot 4 .empty)).dial =
      (after (.start sensed) (withLot 4 .empty)).dial :=
  ⟨Config.pocketSenseAtWrite 0, rfl⟩

theorem test_writeTransaction_unknown :
    answered (after (.writeTransaction [0x17, 0]) State.reset) = some (.unknownCommand, []) ∧
      answered (after (.writeTransaction [0x17, 1]) State.reset) = some (.badLength, []) := by decide

theorem test_poll : (after (.poll [0]) State.reset).link = ⟨.ready, .idle, [0xA0], 0⟩ := by decide

theorem test_discard :
    (after (.discard [0x10, 0, 0]) (written .stop State.reset)).link =
      ⟨.busy ⟨0x13, []⟩ ⟨.ok, []⟩, .idle, [0xA1, 0, 0], 1⟩ := by decide

/-- A transaction taken in BUSY stays a discard when the response comes before its rise (R177). -/
theorem test_discard_after_the_response :
    (after (.discard [0, 0, 0])
        (after .stop (after .transactionBegin (written .stop State.reset)))).link =
      ⟨.response ⟨.ok, []⟩, .idle, [0xA1, 0, 0], 1⟩ := by decide

theorem test_readTransaction :
    let s := after (.setFeed 40) State.reset
    (after (.readTransaction [0, 0]) s).link = ⟨.response ⟨.ok, []⟩, .idle, [0xA2, 0], 1⟩ ∧
      (after (.readTransaction [0, 0, 0, 0]) s).link = ⟨.ready, .idle, [0xA2, 0, 0, 0], 1⟩ := by decide

theorem test_transactionBegin :
    (after .transactionBegin (written .stop State.reset)).link =
        ⟨.busy ⟨0x13, []⟩ ⟨.ok, []⟩, .taken .busy, [0xA1], 1⟩ ∧
      (after .resetNAsserted (after .transactionBegin State.reset)).link = ⟨.ready, .notTaken, [], 0⟩ := by
  decide

theorem test_setDial_clamps :
    let t := after (.setDial 10 3000 7) State.reset
    t.dial.minDwell = 20 ∧ t.dial.moveTimeout = 2000 ∧ t.dial.startEnable = true ∧
      answered t = some (.clamped, []) := by decide

theorem test_setFeed :
    let t := after (.setFeed 101) State.reset
    t.feed.window = 100 ∧ answered t = some (.clamped, []) := by decide

theorem test_stop_from_held :
    (after .stop (dialIn .held State.reset)).dial.state = .idle ∧
      (after .stop (dialIn .moving State.reset)).dial.stopPending = true := by decide

theorem test_hold : (after .hold State.reset).holdLine = true := by decide

theorem test_release_steps :
    let s := dialIn .held State.reset
    let t := after .release { s with dial := { s.dial with hostHold := true } }
    t.dial.state = .moving ∧ t.dial.hostHold = false := by decide

theorem test_readDial :
    answered (after .readDial State.reset) = some (.ok, [0, 0, 0, 0, 0, 0, 0, 60, 1, 0x2C]) := by decide

theorem test_lotOpen :
    let t := after .lotOpen (withLot 4 .empty |>.onLot fun l => { l with state := .noLot, number := 65535 })
    t.lot.state = .open_ ∧ t.lot.number = 1 ∧ t.lot.counters.loaded = 0 := by decide

theorem test_lotOpen_no_classes :
    answered (after .lotOpen State.reset) = some (.invalidRecipe, [1, 0xFF]) := by decide

theorem test_lotClose :
    (after .lotClose (withLot 4 .empty)).lot.state = .noLot ∧
      (after .lotClose (withLot 4 (.live (part .classified)))).lot.state = .draining := by decide

theorem test_lotAbort :
    (after .lotAbort (withLot 4 (.live (part .classified)))).pocket 4 =
      .live (part (.purgePending .abort)) := by decide

theorem test_readLot :
    (answered (after .readLot (withLot 4 .empty))).map (fun x => (x.2.length, x.2.take 10)) =
      some (134, [1, 0, 1, 0, 0, 0, 0, 0, 0, 1]) := by decide +kernel

theorem test_setNominal :
    let t := after (.setNominal 999 (-4)) State.reset
    t.banks.pending.mantissa = 1000 ∧ t.banks.pending.exponent = -3 ∧ t.banks.active = Recipe.reset := by decide

theorem test_setMeasure :
    (after (.setMeasure 2 4 0) State.reset).banks.pending =
        { Recipe.reset with mode := .confirm, aperture := 3, agreeLimit := 1 } ∧
      answered (after (.setMeasure 3 0 20) State.reset) = some (.badIndex, []) := by decide

theorem test_setRetest :
    (after (.setRetest 0xFF 3 0 1 0) State.reset).banks.pending =
      { Recipe.reset with
        doubtMask := 0x3E, retestLimit := 2, slot1 := .same, slot2 := .alternate, lapLimit := 1 } := by decide

theorem test_setClass :
    (after (.setClass 11 (-1000000) 5 0 2 255 0) State.reset).banks.pending.cls 11 =
        some ⟨-999999, 5, 0, 2, none, false⟩ ∧
      answered (after (.setClass 11 0 0 0 12 255 0) State.reset) = some (.badIndex, []) := by decide

theorem test_clearClasses :
    (after .clearClasses (withLot 4 .empty)).banks = ⟨Recipe.reset, recipe⟩ := by decide

theorem test_setCheck :
    (after (.setCheck 7 (-5) 0) State.reset).banks.pending =
        { Recipe.reset with checkInterval := 20, certified := -5, driftLimit := 1 } ∧
      answered (after (.setCheck 0 0 1) State.reset) = some (.ok, []) := by decide

theorem test_copyActive :
    (after .copyActive (readyFor (after .clearClasses (withLot 4 .empty)))).banks =
      ⟨recipe, recipe⟩ := by decide

theorem test_readRecipe :
    (answered (after (.readRecipe 1) (withLot 4 .empty))).map (fun x => (x.2.length, x.2.take 6)) =
      some (179, [1, 3, 0xE8, 0, 0, 1]) := by decide +kernel

theorem test_setHead :
    ((after (.setHead 0 9) State.reset).head .a).timeoutSelect = 3 ∧
      answered (after (.setHead 2 0) State.reset) = some (.badIndex, []) := by decide

theorem test_setHeadCal :
    ((after (.setHeadCal 1 6 2001 (-5001)) State.reset).head .b).calibration.toList[6]? = some ⟨2000, -5000⟩ ∧
      answered (after (.setHeadCal 1 7 0 0) State.reset) = some (.badIndex, []) := by decide

theorem test_headEnable :
    ((after (.headEnable 0) State.reset).head .a).state = .probing ∧
      answered (after (.headEnable 0) (withLot 4 .empty)) = some (.refusedState, []) := by decide

theorem test_headDisable :
    let t := after (.headDisable 0) (measuring .a 21 (part (.measuring .a true none)))
    t.pocket 21 = .live (part (.pending .b false)) ∧ (t.head .a).quietTimer = .running 16 ∧
      (t.head .a).state = .out .host := by decide

theorem test_readHead :
    answered (after (.readHead 0) State.reset) =
      some (.ok, [0, 5, 255, 1, 0, 0, 0, 0, 0xFE] ++ List.replicate 28 0) := by decide

theorem test_readHeadStats :
    let t := after (.readHeadStats 1) (after (.framingError .b) State.reset)
    answered t = some (.ok, [0, 0, 0, 0, 0, 0, 0, 0, 0, 1]) ∧ (t.head .b).counters = ⟨0, 0, 0, 0, 0⟩ := by decide

theorem test_forceDoubt : ((after (.forceDoubt 0) State.reset).head .a).forceDoubt = true := by decide

theorem test_setGate :
    let t := after (.setGate 20 5) State.reset
    t.gates.settings = ⟨20, 20⟩ ∧ answered t = some (.clamped, []) := by decide

theorem test_setBin :
    let t := after (.setBin 11 0 5) State.reset
    (t.bin 11).capacity = 1 ∧ (t.bin 11).threshold = 1 ∧ answered t = some (.clamped, []) := by decide

theorem test_stall :
    ((after (.stall 0) State.reset).bin 0).stalled = true ∧
      answered (after (.stall 12) State.reset) = some (.badIndex, []) := by decide

theorem test_unstall :
    let s := State.reset.onBin 0 fun b => { b with blocked := true, misses := 3 }
    (after (.unstall 0) s).bin 0 = State.reset.bin 0 := by decide

theorem test_readBin :
    answered (after (.readBin 13) State.reset) =
      some (.ok, [13, 255, 0, 0, 0, 0, 0, 0, 0, 0, 0, 0, 0, 0xFF, 0, 0, 0, 0, 4, 15]) := by decide

theorem test_readPocket :
    answered (after (.readPocket 1) State.reset) =
      some (.ok, [1, 23, 1] ++ List.replicate 26 0) := by decide

theorem test_voidPocket :
    (after (.voidPocket 4) (withLot 4 (.live (part .classified)))).pocket 4 =
        .live (part (.purgePending .voided)) ∧
      answered (after (.voidPocket 5) (withLot 4 .empty)) = some (.notLive, []) := by decide

theorem test_reroutePocket :
    (after (.reroutePocket 4 0) (withLot 4 (.live (part .classified)))).pocket 4 =
        .live { part .classified with cls := some 0, flags := ⟨true, false, false, false, false⟩ } ∧
      answered (after (.reroutePocket 4 1) (withLot 4 (.live (part .classified)))) =
        some (.badIndex, []) := by decide

theorem test_forceClass :
    (after (.forceClass 0) (withLot 4 .empty)).forceClass = some 0 ∧
      answered (after (.forceClass 1) (withLot 4 .empty)) = some (.badIndex, []) := by decide

theorem test_requestCheck :
    (after .requestCheck (withLot 4 .empty)).check.due = true ∧
      answered (after .requestCheck State.reset) = some (.refusedState, []) := by decide

theorem test_readFaults :
    answered (after .readFaults State.reset) =
      some (.ok, [0, 4, 0, 0, 0, 7, 0xFF, 0xC0, 0, 0, 0, 0, 0, 0, 0, 0, 2]) := by decide

theorem test_ackFaults :
    let s := after .moveTimerExpiry (dialIn .moving State.reset)
    (after (.ackFaults 0xFFFFFFFF) s).flags = 0x40000#19 := by decide

theorem test_readCapture :
    answered (after (.readCapture 0) State.reset) =
      some (.ok, [0, 0, 0xFF, 0, 0, 0, 0, 0, 0, 0, 0]) := by decide

theorem test_ackCapture :
    let s := State.reset.onFaults fun f => { f with headCapture := some ⟨.lost, .b, 0, 0, none⟩ }
    (after (.ackCapture 1) s).faults = State.reset.faults := by decide

theorem test_setAttnMask :
    State.reset.attnLine = true ∧ (after (.setAttnMask 0x3F) State.reset).attnLine = false := by decide

theorem test_resetSort :
    (after .resetSort (withLot 4 (.live (part .classified)))).pocket 4 =
        .live (part (.purgePending .reset)) ∧
      answered (after .resetSort (dialIn .held State.reset)) = some (.refusedState, []) := by decide

/-! ### Witnesses

Each theorem shows states and operands that meet the hypotheses of the statement it is named after, clause by
clause.  `taken_hands` meets the hypothesis that a command is handed to its block. -/

theorem witness_ResetHoldsThePart :
    let s := after .resetNAsserted State.reset
    s.lines.inReset = true ∧ (∀ e c, Instr.hold ≠ .powerOnReset e c) ∧ Instr.hold ≠ .resetNAsserted ∧
      Instr.hold ≠ .transactionBegin ∧ riseOf .hold = none := by
  refine ⟨by decide, ?_, ?_, ?_, rfl⟩ <;> simp

theorem witness_ConditionFlagsAndLines :
    Flag.dialJam ≠ .recordsUnknown ∧ Flag.dialJam ≠ .estop ∧ Flag.dialJam ≠ .noHead ∧
      State.reset.lines.inReset = false := by decide

theorem witness_DialTimers :
    let s := dialIn .dwell State.reset
    s.lines.inReset = false ∧ s.dial.state = .dwell ∧ s.dial.dwellTimer = .running 60 := by decide

theorem witness_EndOfDwellHeldAndDrainTests :
    let s := dwellOut State.reset
    let drained := (withLot 0 .unknown).onLot fun l => { l with state := .draining }
    (s.dial.state = .dwell ∧ s.dial.dwellTimer = .elapsed ∧ s.busyEmpty = true) ∧
      ¬(State.reset.dial.state = .dwell ∧ State.reset.dial.dwellTimer = .elapsed ∧
        State.reset.busyEmpty = true) ∧
      (drained.lot.state = .draining ∧ drained.feed.inFlight = none ∧
        ∀ p, drained.pocket p = .empty ∨ drained.pocket p = .unknown) ∧
      ¬(State.reset.lot.state = .draining ∧ State.reset.feed.inFlight = none ∧
        ∀ p, State.reset.pocket p = .empty ∨ State.reset.pocket p = .unknown) := by decide

theorem witness_IndexDoneByDialState :
    ((dialIn .moving State.reset).lines.inReset = false ∧
      ((dialIn .moving State.reset).dial.state = .moving ∨ (dialIn .moving State.reset).dial.state = .jammed)) ∧
    ((dialIn .jammed State.reset).dial.state = .jammed ∧ State.reset.lines.inReset = false ∧
      State.reset.dial.state ≠ .moving ∧ State.reset.dial.state ≠ .jammed) ∧
    ∀ h, (State.reset.head h).state ≠ .measuring := by
  refine ⟨by decide, by decide, fun h => ?_⟩
  cases h <;> decide

theorem witness_StationsActOnTheirOwnPockets :
    (∀ q ∈ ([23, 22, 20, 18, 17, 1] : List (Fin 24)), State.reset.offsetOf q ∈ [1, 2, 4, 6, 7, 23]) ∧
      State.reset.offsetOf 0 = 0 ∧ State.reset.offsetOf 21 = 3 ∧ State.reset.offsetOf 19 = 5 ∧
      State.reset.offsetOf 16 = 8 + (0 : Fin 12).val ∧ State.reset.offsetOf 5 = 8 + (11 : Fin 12).val ∧
      State.reset.offsetOf 4 = 20 ∧ State.reset.offsetOf 3 = 21 ∧ State.reset.offsetOf 2 = 22 := by decide

theorem witness_EmergencyStopAndRelease :
    (State.reset.lines.inReset = false ∧ State.reset.dial.state ≠ .estopped) ∧
    (∀ h, (State.reset.head h).state ≠ .measuring) ∧
    (dialIn .estopped State.reset).lines.inReset = false ∧
      (dialIn .estopped State.reset).dial.state = .estopped := by
  refine ⟨by decide, fun h => ?_, by decide, by decide⟩
  cases h <;> decide

/-- Both heads measure in one dwell: A a record `x` at pocket 21, B a record `y` at pocket 19. -/
def bothMeasuring (x y : LiveRecord) : State :=
  (((measuring .a 21 x).joinBusy (.head .b)).setLive 19 y).onHead .b fun u =>
    { u with state := .measuring, request := some ⟨.measure 19 3 1, false⟩ }

/-- A record that carries RECALL_PENDING. -/
def recalling (ph : Phase) : LiveRecord := { part ph with flags := ⟨false, false, true, false, false⟩ }

theorem witness_StopAbandonsTheMeasurement :
    (∀ x ∈ [part (.measuring .a false none), part (.measuring .a false (some .abort)),
        recalling (.measuring .a true none), standard (.measuring .a false none)],
      let s := bothMeasuring x (recalling (.measuring .b true none))
      s.lines.inReset = false ∧ s.dial.state = .dwell ∧
        ((s.head .a).measuredPocket = some 21 ∧ s.measuringAt 21 .a) ∧
        ((s.head .b).measuredPocket = some 19 ∧ s.measuringAt 19 .b) ∧
        (s.head .a).request = some ⟨.measure 21 3 1, true⟩ ∧
        (s.head .b).request = some ⟨.measure 19 3 1, false⟩ ∧ s.recallEnds .b) ∧
    (let s := bothMeasuring (recalling (.measuring .a true none)) (recalling (.measuring .b true none))
     s.recallEnds .a ∧ s.recallEnds .b) ∧
    (let s := measuring .b 19 (part (.measuring .b true none))
     (s.head .b).measuredPocket = some 19 ∧ s.measuringAt 19 .b ∧ (s.head .a).state ≠ .measuring) ∧
    (Instr.estopAsserted = .estopAsserted ∧ ∃ sensed, Instr.indexDone true = .indexDone sensed) := by
  refine ⟨fun x hx => ?_, ?_, ⟨by decide, ⟨_, rfl, by decide⟩, by decide⟩, rfl, true, rfl⟩
  · simp only [List.mem_cons, List.not_mem_nil, or_false] at hx
    rcases hx with rfl | rfl | rfl | rfl <;>
      exact ⟨by decide, by decide, ⟨by decide, _, rfl, by decide⟩, ⟨by decide, _, rfl, by decide⟩, by decide,
        by decide, by decide, 19, _, true, by decide, rfl, rfl, rfl, rfl, by decide⟩
  · exact ⟨⟨by decide, 21, _, true, by decide, rfl, rfl, rfl, rfl, by decide⟩,
      by decide, 19, _, true, by decide, rfl, rfl, rfl, rfl, by decide⟩

/-- A check standard read by A, PENDING at B. -/
def readByA : LiveRecord :=
  { standard (.pending .b false) with
    readings := [⟨.a, some ⟨838861#24, 0, 0, false⟩, 0, false, false⟩] }

theorem witness_GivenUpAndCheckDone :
    let s := headOut .b (withLot 4 (.live readByA))
    (s.pocket 4 = .live readByA ∧ readByA.kind = .check ∧
      (∃ h o, readByA.phase = .pending h o) ∧ readByA.readings ≠ [] ∧
      ∀ h, s.inService h = true → ∃ x ∈ readByA.readings, x.head = h) ∧
    (s.pocket 5 = .empty ∧ ∀ r, s.pocket 5 ≠ .live r) ∧
    (∃ t : State, t.pocket 4 = .live (part .classified) ∧ (part .classified).kind ≠ .check) := by
  have h5 : (headOut .b (withLot 4 (.live readByA))).pocket 5 = .empty := by decide
  refine ⟨⟨by decide, rfl, ⟨_, _, rfl⟩, by decide, fun h => ?_⟩, ⟨h5, fun r => by simp [h5]⟩,
    ⟨withLot 4 (.live (part .classified)), by decide, by decide⟩⟩
  cases h
  · exact fun _ => ⟨_, List.mem_singleton.2 rfl, rfl⟩
  · exact fun h => absurd h (by decide)

theorem witness_StartBeginsADwell :
    let i := Instr.start true
    ((readyFor State.reset).Hands i (taken i State.reset) ∧ (taken i State.reset).dial.state = .idle) ∧
      State.reset.lines.inReset = false :=
  ⟨⟨taken_hands _ _ _ rfl rfl, by decide⟩, rfl⟩

theorem witness_StopHoldRelease (d : DialState) :
    let s := dialIn d State.reset
    (readyFor s).Hands .stop (taken .stop s) ∧ (taken .stop s).dial.state = d ∧
      (readyFor s).Hands .hold (taken .hold s) ∧ (readyFor s).Hands .release (taken .release s) :=
  ⟨taken_hands _ _ _ rfl rfl, rfl, taken_hands _ _ _ rfl rfl, taken_hands _ _ _ rfl rfl⟩

theorem witness_DialAndFeedSettings :
    let d := Instr.setDial 500 2000 1
    let f := Instr.setFeed 5
    (readyFor State.reset).Hands d (taken d State.reset) ∧ (readyFor State.reset).Hands f (taken f State.reset) :=
  ⟨taken_hands _ _ _ rfl rfl, taken_hands _ _ _ rfl rfl⟩

theorem witness_ReadDial : (readyFor State.reset).Hands .readDial (taken .readDial State.reset) :=
  taken_hands _ _ _ rfl rfl

theorem witness_LoadArrival :
    (let s := withLot 4 .empty
     s.pocket s.dial.position = .empty ∧ s.lot.state = .open_ ∧ s.flagSet .noHead = false) ∧
    (let s := (withLot 4 .empty).onLot fun l => { l with state := .draining }
     s.pocket s.dial.position = .empty ∧ s.lot.state ≠ .open_) ∧
    State.reset.pocket State.reset.dial.position = .unknown ∧
    (∀ r ∈ [part (.pending .b true), graded .classified, standard .checkDone],
      (withLot 0 (.live r)).pocket 0 = .live r) ∧
    ((∃ h o, (part (.pending .b true)).phase = .pending h o) ∧ (graded .classified).phase = .classified ∧
      (standard .checkDone).phase = .checkDone) ∧
    (let r := part (.purgePending .voided)
     (withLot 0 (.live r)).pocket 0 = .live r ∧
      ¬((∃ h o, r.phase = .pending h o) ∨ r.phase = .classified ∨ r.phase = .checkDone)) :=
  ⟨by decide, by decide, by decide, by decide, ⟨⟨_, _, rfl⟩, rfl, rfl⟩, by decide, by simp [part]⟩

theorem witness_LoadSense :
    let s := feeding .check (withLot 4 .empty)
    let f : Feed := { target := 0, kind := .check, lot := 1, aborted := false, reset := false }
    (s.lines.inReset = false ∧ s.feed.inFlight = some f ∧ s.feed.windowTimer = .running 40 ∧
      s.pocket f.target = .empty) ∧
    (feeding .part (withLot 0 (.live (part .classified)))).pocket f.target ≠ .empty ∧
    (State.reset.lines.inReset = false ∧ State.reset.feed.inFlight = none ∧
      State.reset.dwellOver = false) := by decide

theorem witness_FeedMissed :
    let s := feeding .part (withLot 4 .empty)
    s.lines.inReset = false ∧
      s.feed.inFlight = some { target := 0, kind := .part, lot := 1, aborted := false, reset := false } ∧
      s.feed.windowTimer = .running 40 := by decide

theorem witness_HeadArrival :
    let r := part (.pending .b true)
    let s := withLot 19 (.live r)
    (s.offsetOf 19 = 5 ∧ s.offsetOf 21 = 3 ∧ s.pocket 19 = .live r ∧ (s.head .b).state = .ready) ∧
    (∃ why, ((headOut .b s).head .b).state = .out why) ∧ ((probing .b s).head .b).state = .probing ∧
    (s.pocket 21 = .empty ∧ ∀ (r : LiveRecord) (o : Bool), s.pocket 21 = .live r → r.phase ≠ .pending .a o) := by
  have h : (withLot 19 (.live (part (.pending .b true)))).pocket 21 = .empty := by decide
  exact ⟨by decide, ⟨_, rfl⟩, by decide, h, fun r o hr => by simp [h] at hr⟩

theorem witness_RequestTiming :
    let s := State.reset.onHead .a fun u => { u with request := some ⟨.ident, false⟩ }
    (s.lines.inReset = false ∧ (s.head .a).request = some ⟨.ident, false⟩ ∧
      (s.head .a).quietTimer = .stopped) ∧
    (State.reset.head .a).request = none ∧
    (∃ kind, ((probing .b State.reset).head .b).request = some ⟨kind, true⟩) ∧
    ((s.onHead .a fun u => { u with quietTimer := .running 4 }).head .a).quietTimer ≠ .stopped :=
  ⟨by decide, by decide, ⟨_, rfl⟩, by decide⟩

/-- Head A's receiver in a state. -/
def receiving (r : Receiver) (s : State) : State := s.onHead .a fun u => { u with receiver := r }

theorem witness_LinkReceiver :
    (State.reset.lines.inReset = false ∧ State.reset.dwellOver = false ∧
      (State.reset.head .a).receiver = .idle) ∧
    ((0xB1#8 = 0xB1#8 ∨ 0xB1#8 = 0xB2#8) ∧ 0x31#8 ≠ 0xB1#8 ∧ 0x31#8 ≠ 0xB2#8) ∧
    (∀ held ∈ [[0xB1#8], [0xB1#8, 3, 0, 0], [0xB2#8]],
      ((receiving (.inFrame held) State.reset).head .a).receiver = .inFrame held ∧
        ((held.head? = some 0xB1#8 ∧ held.length < 5) ∨ (held.head? = some 0xB2#8 ∧ held.length < 2))) ∧
    (∃ t, exec (.result .a 3 0x0CCCCD#24 0) (receiving (.inFrame [0xB1#8, 3, 0x0C, 0xCC, 0xCD]) State.reset) =
        .next t ∧
      [0xB1#8, 3, 0x0C, 0xCC, 0xCD] =
        [0xB1#8, 3, (0x0CCCCD#24).extractLsb' 16 8, (0x0CCCCD#24).extractLsb' 8 8,
          (0x0CCCCD#24).extractLsb' 0 8]) ∧
    (∃ t, exec (.identAnswer .a 0xFF 5) (receiving (.inFrame [0xB2#8, 0xFF]) (probing .a State.reset)) =
        .next t ∧ t.dwellOver = false) ∧
    ((receiving .discarding State.reset).head .a).receiver = .discarding ∧
    (State.reset.head .a).receiver ≠ .discarding :=
  ⟨by decide, by decide, by decide, ⟨_, rfl, by decide⟩, ⟨_, rfl, by decide⟩, by decide, by decide⟩

theorem witness_UnawaitedFramesAreDiscarded :
    (State.reset.lines.inReset = false ∧ State.reset.dwellOver = false ∧
      (State.reset.head .b).receiver = .idle) ∧
    (∀ p range aperture, (State.reset.head .b).request = some ⟨.measure p range aperture, true⟩ →
      (23#8 : Byte) ≠ BitVec.ofNat 8 p.val) ∧
    ((State.reset.head .b).request = some ⟨.ident, true⟩ → (0xFF#8 : Byte) ≠ 0xFF#8) ∧
    (∀ p range aperture,
      ((measuring .a 21 (part (.measuring .a false none))).head .a).request =
          some ⟨.measure p range aperture, true⟩ →
        (22#8 : Byte) ≠ BitVec.ofNat 8 p.val) := by
  have h : ((measuring .a 21 (part (.measuring .a false none))).head .a).request =
      some ⟨.measure 21 3 1, true⟩ := by decide
  refine ⟨by decide, fun p r q hp => ?_, fun hp => ?_, fun p r q hp => ?_⟩
  · exact absurd hp (by simp [State.reset, State.head, PerHead.get, HeadUnit.reset])
  · exact absurd hp (by decide)
  · rw [h] at hp
    simp only [Option.some.injEq, Request.mk.injEq, RequestKind.measure.injEq] at hp
    obtain ⟨⟨rfl, -⟩, -⟩ := hp
    decide

theorem witness_ProbeCompletes :
    let s := probing .b State.reset
    s.lines.inReset = false ∧ (s.head .b).request = some ⟨.ident, true⟩ ∧
      (s.head .b).responseTimer.isRunning = true ∧ (s.head .b).receiver = .idle := by decide

/-- Head A measures pocket 21, and will keep its reading. -/
def atA : State := measuring .a 21 (part (.measuring .a false none))

/-- The same in CONFIRM mode. -/
def confirming (h : Head) (p : Fin 24) (r : LiveRecord) : State :=
  let s := measuring h p r
  { s with banks := { s.banks with active := { s.banks.active with mode := .confirm } } }

theorem atA_awaits : atA.Awaits .a 21 3 := ⟨by decide, by decide, ⟨1, by decide⟩, by decide⟩
theorem atA_keeps : atA.Keeps .a 21 (part (.measuring .a false none)) false := ⟨by decide, rfl, rfl⟩

/-- The first reading of a pair, and a record with its pair open at B. -/
def firstReading : Reading := ⟨.a, some ⟨838860#24, 0, -1, false⟩, 0, false, false⟩
def pairOpen : LiveRecord := { part (.measuring .b true none) with readings := [firstReading] }

theorem witness_NoReply :
    (atA.lines.inReset = false ∧ (atA.head .a).request = some ⟨.measure 21 3 1, true⟩ ∧
      (atA.head .a).responseTimer.isRunning = true ∧ (atA.head .a).thirdNoReply = false ∧
      ((atA.onHead .a fun u => { u with noReplies := 2 }).head .a).thirdNoReply = true) ∧
    (atA.Keeps .a 21 (part (.measuring .a false none)) false ∧ (part (.measuring .a false none)).kind = .part ∧
      atA.SingleAttempt (part (.measuring .a false none)) .a false .a) ∧
    (let s := confirming .a 21 (part (.measuring .a false none))
     s.Keeps .a 21 (part (.measuring .a false none)) false ∧ s.banks.active.mode = .confirm ∧
      s.inService .b = true) ∧
    (let s := confirming .b 19 pairOpen
     s.Keeps .b 19 pairOpen true ∧ s.banks.active.mode = .confirm ∧ pairOpen.readings ≠ []) ∧
    (let r := standard (.measuring .a false none)
     (measuring .a 21 r).Keeps .a 21 r false ∧ r.kind = .check) ∧
    (let r := part (.measuring .a false (some .voided))
     (measuring .a 21 r).pocket 21 = .live r ∧ r.phase = .measuring .a false (some .voided)) ∧
    (let r := recalling (.measuring .b false none)
     (measuring .b 19 r).pocket 19 = .live r ∧ r.phase = .measuring .b false none ∧
      r.flags.recallPending = true) :=
  ⟨by decide, ⟨atA_keeps, rfl, rfl⟩, ⟨⟨by decide, rfl, rfl⟩, by decide, by decide⟩,
    ⟨⟨by decide, rfl, rfl⟩, by decide, by decide⟩, ⟨⟨by decide, rfl, rfl⟩, rfl⟩, ⟨by decide, rfl⟩, by decide,
    rfl, rfl⟩

theorem witness_HeadEnableAndSettings :
    (∀ i ∈ ([0, 1, 2] : List Byte),
      (readyFor State.reset).Hands (.headEnable i) (taken (.headEnable i) State.reset)) ∧
    (∃ why, ((taken (.headEnable 0) State.reset).head .a).state = .out why) ∧
    (¬∃ why, ((taken (.headEnable 1) (withLot 4 .empty)).head .b).state = .out why) ∧
    (readyFor State.reset).Hands (.setHead 1 3) (taken (.setHead 1 3) State.reset) ∧
    (let i := Instr.setHeadCal 0 6 2000 5000
     (readyFor State.reset).Hands i (taken i State.reset)) ∧
    (readyFor State.reset).Hands (.forceDoubt 1) (taken (.forceDoubt 1) State.reset) := by
  refine ⟨fun i _ => taken_hands _ _ _ rfl rfl, ⟨.reset, by decide⟩, ?_, taken_hands _ _ _ rfl rfl,
    taken_hands _ _ _ rfl rfl, taken_hands _ _ _ rfl rfl⟩
  rintro ⟨why, h⟩
  have : ((taken (.headEnable 1) (withLot 4 .empty)).head .b).state = .ready := by decide
  rw [this] at h
  cases h

theorem witness_HeadDisable :
    (∀ s ∈ [State.reset, probing .b State.reset, withLot 4 .empty],
      (readyFor s).Hands (.headDisable 1) (taken (.headDisable 1) s)) ∧
    ((readyFor State.reset).Hands (.headDisable 2) (taken (.headDisable 2) State.reset)) ∧
    ((∃ why, (State.reset.head .b).state = .out why) ∧
      ((probing .b State.reset).head .b).state = .probing ∧
      ((probing .b State.reset).head .b).request = some ⟨.ident, true⟩ ∧
      ((withLot 4 .empty).head .b).state = .ready) ∧
    (∀ r ∈ [part (.measuring .a false none), part (.measuring .a true (some .abort)),
        standard (.measuring .a false none), recalling (.measuring .a false none)],
      let u := taken (.headDisable 0) (measuring .a 21 r)
      (readyFor (measuring .a 21 r)).Hands (.headDisable 0) u ∧ (u.head .a).state = .measuring ∧
        (u.head .a).request = some ⟨.measure 21 3 1, true⟩ ∧ u.pocket 21 = .live r ∧
        ∃ openPair mark, r.phase = .measuring .a openPair mark) ∧
    (taken (.headDisable 0) (measuring .a 21 (recalling (.measuring .a false none)))).recallEnds .a := by
  refine ⟨fun s hs => taken_hands _ _ _ rfl ?_, taken_hands _ _ _ rfl rfl,
    ⟨⟨.reset, by decide⟩, by decide, by decide, by decide⟩, fun r hr => ?_,
    by decide, 21, _, false, by decide, rfl, rfl, rfl, rfl, by decide⟩
  · simp only [List.mem_cons, List.not_mem_nil, or_false] at hs
    rcases hs with rfl | rfl | rfl <;> rfl
  · simp only [List.mem_cons, List.not_mem_nil, or_false] at hr
    rcases hr with rfl | rfl | rfl | rfl <;>
      exact ⟨taken_hands _ _ _ rfl rfl, by decide, by decide, by decide, _, _, rfl⟩

theorem witness_ReadHeadAndStats :
    (readyFor State.reset).Hands (.readHead 1) (taken (.readHead 1) State.reset) ∧
      (readyFor State.reset).Hands (.readHeadStats 0) (taken (.readHeadStats 0) State.reset) :=
  ⟨taken_hands _ _ _ rfl rfl, taken_hands _ _ _ rfl rfl⟩

theorem witness_ConversionRoundsOnce :
    (1000 ≤ 1000 ∧ 9999 ≤ 9999) ∧ (⟨-2000, 5000⟩ : Calibration).InRange ∧
      (-3 ≤ Recipe.reset.exponent ∧ Recipe.reset.exponent ≤ 3) :=
  ⟨by decide, ⟨by decide, by decide⟩, by decide⟩

theorem witness_SingleReadingIsGraded :
    atA.Awaits .a 21 3 ∧ atA.Keeps .a 21 (part (.measuring .a false none)) false ∧
      (part (.measuring .a false none)).kind = .part ∧
      atA.SingleAttempt (part (.measuring .a false none)) .a false .a ∧ ¬atA.statusDoubts 0x80 ∧
      (atA.head .a).forceDoubt = false := by
  refine ⟨atA_awaits, atA_keeps, rfl, rfl, ?_, by decide⟩
  rintro (h | h | ⟨k, h1, h5, h, -⟩)
  · exact absurd h (by decide)
  · exact absurd h (by decide)
  · interval_cases k <;> exact absurd h (by decide)

theorem witness_DoubtfulReadingIsRetested :
    atA.Awaits .a 21 3 ∧ atA.Keeps .a 21 (part (.measuring .a false none)) false ∧
      atA.SingleAttempt (part (.measuring .a false none)) .a false .a ∧
      atA.statusDoubts 1 ∧ atA.statusDoubts 0x40 ∧ atA.statusDoubts 2 ∧
      ((atA.onHead .a fun u => { u with forceDoubt := true }).head .a).forceDoubt = true :=
  ⟨atA_awaits, atA_keeps, rfl, .inl (by decide), .inr (.inl (by decide)),
    .inr (.inr ⟨1, by decide, by decide, by decide, by decide⟩), by decide⟩

theorem witness_ConfirmPairs :
    (let s := confirming .a 21 (part (.measuring .a false none))
     s.Awaits .a 21 3 ∧ s.Keeps .a 21 (part (.measuring .a false none)) false ∧
      s.banks.active.mode = .confirm ∧ s.inService .b = true ∧
      (true = true ↔ s.statusDoubts 1 ∨ (s.head .a).forceDoubt = true)) ∧
    (let s := confirming .b 19 pairOpen
     s.Awaits .b 19 3 ∧ s.Keeps .b 19 pairOpen true ∧ pairOpen.kind = .part ∧
      s.banks.active.mode = .confirm ∧ pairOpen.readings.getLast? = some firstReading ∧
      (true = true ↔ s.statusDoubts 1 ∨ (s.head .b).forceDoubt = true) ∧
      firstReading.doubtful = false ∧
      (let dev := convert s.banks.active.mantissa (s.head .b).calibration[(3 : Fin 7).val] 838877#24
       dev = (19, false) ∧ (-1 : Int) - dev.1 ≤ s.banks.active.agreeLimit ∧
        dev.1 - (-1) ≤ s.banks.active.agreeLimit) ∧
      (let dev := convert s.banks.active.mantissa (s.head .b).calibration[(3 : Fin 7).val] 838878#24
       (s.banks.active.agreeLimit : Int) < dev.1 - (-1))) := by
  refine ⟨⟨⟨by decide, by decide, ⟨1, by decide⟩, by decide⟩, ⟨by decide, rfl, rfl⟩, by decide, by decide,
      fun _ => .inl (.inl (by decide)), fun _ => rfl⟩,
    ⟨by decide, by decide, ⟨1, by decide⟩, by decide⟩, ⟨by decide, rfl, rfl⟩, rfl, by decide, by decide,
    ⟨fun _ => .inl (.inl (by decide)), fun _ => rfl⟩, rfl, by decide, by decide⟩

theorem witness_MarkedAndRecalledReadings :
    (let r := part (.measuring .a false (some .voided))
     (measuring .a 21 r).Awaits .a 21 3 ∧ (measuring .a 21 r).pocket 21 = .live r) ∧
    (let r : LiveRecord :=
      { part (.measuring .b false none) with flags := ⟨false, false, true, false, false⟩ }
     (measuring .b 19 r).Awaits .b 19 3 ∧ (measuring .b 19 r).pocket 19 = .live r ∧
      r.flags.recallPending = true) :=
  ⟨⟨⟨by decide, by decide, ⟨1, by decide⟩, by decide⟩, by decide⟩,
    ⟨⟨by decide, by decide, ⟨1, by decide⟩, by decide⟩, by decide, rfl⟩⟩

theorem witness_CheckReadingDecides :
    let r := standard (.measuring .a false none)
    let s := measuring .a 21 r
    (s.Awaits .a 21 3 ∧ s.Keeps .a 21 r false ∧ r.kind = .check ∧ s.statusDoubts 1) ∧
    (∀ x ∈ [((0x80#8 : Byte), (0#24 : BitVec 24))], ¬s.statusDoubts x.1) ∧
    (∀ drift : Int,
      drift = (convert s.banks.active.mantissa (s.head .a).calibration[(3 : Fin 7).val] 838903#24).1
        - s.banks.active.certified → drift = 50 ∧ drift ≤ s.banks.active.driftLimit) ∧
    (∀ drift : Int,
      drift = (convert s.banks.active.mantissa (s.head .a).calibration[(3 : Fin 7).val] 838904#24).1
        - s.banks.active.certified → (s.banks.active.driftLimit : Int) < drift) := by
  refine ⟨⟨⟨by decide, by decide, ⟨1, by decide⟩, by decide⟩, ⟨by decide, rfl, rfl⟩, rfl, .inl (by decide)⟩,
    ?_, ?_, ?_⟩
  · simp only [List.mem_cons, List.not_mem_nil, or_false, forall_eq]
    rintro (h | h | ⟨k, h1, h5, h, -⟩)
    · exact absurd h (by decide)
    · exact absurd h (by decide)
    · interval_cases k <;> exact absurd h (by decide)
  · rintro _ rfl
    decide
  · rintro _ rfl
    decide
/-- A graded record that holds a reading of head A at epoch 0. -/
def readOfA (ph : Phase) : LiveRecord := { graded ph with readings := [firstReading] }

theorem witness_RecallByRecordState :
    (∀ ph ∈ [Phase.pending .b false, .classified, .measuring .b false none, .checkDone],
      (withLot 4 (.live (readOfA ph))).pocket 4 = .live (readOfA ph)) ∧
    (∀ ph, (readOfA ph).kind = .part ∧ ∃ x ∈ (readOfA ph).readings, x.head = .a ∧ x.epoch = 0#16) ∧
    ((standard .checkDone).kind = .check ∧ ∀ x ∈ (part .classified).readings, ¬(x.head = .a ∧ x.epoch = 0#16)) ∧
    ((withLot 4 .empty).pocket 5 = .empty ∧ ∀ r, (withLot 4 .empty).pocket 5 ≠ .live r) := by
  have h5 : (withLot 4 .empty).pocket 5 = .empty := by decide
  refine ⟨by decide, fun ph => ⟨rfl, firstReading, List.mem_singleton.2 rfl, rfl, rfl⟩, ⟨rfl, ?_⟩, h5,
    fun r => by simp [h5]⟩
  simp [part]

theorem witness_EjectorAndEmptyCheckArrivals :
    (∀ r ∈ [graded .classified], (withLot 16 (.live r)).pocket 16 = .live r ∧ r.phase = .classified ∧
      r.cls = some 0 ∧ recipe.cls 0 = some ⟨-100, 100, 10, 0, some 1, false⟩ ∧
      (withLot 16 (.live r)).offsetOf 16 = 8) ∧
    (withLot 16 .empty).takesClass 0 ⟨-100, 100, 10, 0, some 1, false⟩ ∧
    ((withLot 16 .empty).onBin 0 fun b => { b with stalled := true }).takesClass 1
      ⟨-100, 100, 10, 0, some 1, false⟩ ∧
    (¬∃ r k c, (withLot 16 .empty).pocket 16 = .live r ∧ r.phase = .classified ∧ r.cls = some k ∧
      (withLot 16 .empty).banks.active.cls k = some c ∧ (withLot 16 .empty).takesClass 0 c) ∧
    (let s := withLot 4 (.live (standard .checkDone))
     s.offsetOf 4 = 20 ∧ s.pocket 4 = .live (standard .checkDone)) ∧
    ((withLot 4 (.live (graded .classified))).pocket 4 = .live (graded .classified)) ∧
    (State.reset.offsetOf 3 = 21 ∧ State.reset.pocket 3 = .unknown) ∧
    (let r := part (.purgePending .noClass)
     (withLot 3 (.live r)).pocket 3 = .live r ∧ r.phase = .purgePending .noClass) ∧
    (State.reset.offsetOf 2 = 22 ∧ State.reset.pocket 2 = .unknown ∧ (withLot 4 .empty).pocket 2 = .empty) ∧
    (let r := part (.pending .a false)
     (withLot 2 (.live r)).pocket 2 = .live r ∧ (∀ hd o m, r.phase ≠ .measuring hd o m) ∧
      ∀ e, r.phase ≠ .ejecting e) ∧
    (let r := graded (.ejecting (.gate 0))
     (withLot 2 (.live r)).pocket 2 = .live r ∧ ∃ e, r.phase = .ejecting e) := by
  have h16 : (withLot 16 .empty).pocket 16 = .empty := by decide
  refine ⟨by decide, ⟨⟨by decide, by decide, by decide, by decide⟩, .inl rfl⟩,
    ⟨⟨by decide, by decide, by decide, by decide⟩, .inr ⟨rfl, fun h => ?_⟩⟩, ?_, by decide, by decide,
    by decide, by decide, by decide, ⟨by decide, by simp [part], by simp [part]⟩, by decide, _, rfl⟩
  · exact absurd h.notStalled (by decide)
  · rintro ⟨r, k, c, h, -⟩
    rw [h16] at h
    cases h

theorem witness_ChutePulse_and_WindowTimerExpiry :
    (State.reset.lines.inReset = false ∧ (State.reset.ejector .purge).state = .idle) ∧
    ((after (.chutePulse .purge) (fired .purge 3 true State.reset)).ejector .purge).state = .settling ∧
    (let r := graded (.ejecting (.gate 11))
     let s := fired (.gate 11) 5 false (withLot 5 (.live r))
     (s.ejector (.gate 11)).state = .fired 5 false ∧ s.pocket 5 = .live r ∧ (s.bin 11).present = true ∧
      ((s.onBin 11 fun b => { b with present := false }).bin 11).present = false) ∧
    (let r := standard (.ejecting .checkReturn)
     let s := fired .checkReturn 4 false (withLot 4 (.live r))
     (s.ejector .checkReturn).state = .fired 4 false ∧ s.pocket 4 = .live r) ∧
    (let r := part (.ejecting (.purge .reset))
     let s := fired .purge 3 false (withLot 3 (.live r))
     (s.ejector .purge).state = .fired 3 false ∧ s.pocket 3 = .live r ∧
      r.phase = .ejecting (.purge .reset)) ∧
    ((fired .purge 3 true State.reset).ejector .purge).state = .fired 3 true := by decide

theorem witness_GateAndBinSettings :
    (∀ i ∈ [Instr.setGate 2 5, .setBin 0 1 0, .setBin 11 65535 65535, .stall 11, .unstall 0],
      (readyFor State.reset).Hands i (taken i State.reset)) ∧
    (0#8 : Byte).toNat = (0 : Fin 12).val ∧ (11#8 : Byte).toNat = (11 : Fin 12).val ∧
    State.reset.lines.inReset = false := by
  refine ⟨fun i hi => ?_, by decide, by decide, by decide⟩
  simp only [List.mem_cons, List.not_mem_nil, or_false] at hi
  rcases hi with rfl | rfl | rfl | rfl | rfl <;> exact taken_hands _ _ _ rfl rfl

theorem witness_ReadBin (i : Byte) :
    (readyFor State.reset).Hands (.readBin i) (taken (.readBin i) State.reset) ∧
      (0#8 : Byte).toNat = (chuteIndex (.gate 0)).val ∧ (11#8 : Byte).toNat = (chuteIndex (.gate 11)).val ∧
      (12#8 : Byte).toNat = (chuteIndex .checkReturn).val ∧ (13#8 : Byte).toNat = (chuteIndex .purge).val ∧
      14 ≤ (14#8 : Byte).toNat :=
  ⟨taken_hands _ _ _ rfl rfl, by decide, by decide, by decide, by decide, by decide⟩

theorem witness_ReadPocket (i : Byte) :
    (readyFor State.reset).Hands (.readPocket i) (taken (.readPocket i) State.reset) ∧
      (0#8 : Byte).toNat = (0 : Fin 24).val ∧ (23#8 : Byte).toNat = (23 : Fin 24).val ∧ 24 ≤ (24#8 : Byte).toNat ∧
      State.reset.pocket 0 = .unknown ∧ (withLot 4 .empty).pocket 23 = .empty ∧
      (withLot 23 (.live (readOfA .classified))).pocket 23 = .live (readOfA .classified) ∧
      (readOfA .classified).readings[0]? = some firstReading :=
  ⟨taken_hands _ _ _ rfl rfl, by decide, by decide, by decide, by decide, by decide, by decide, rfl⟩

theorem witness_VoidRerouteAndForce :
    (∀ s ∈ [State.reset, withLot 0 .empty, withLot 23 (.live (graded .classified))],
      ∀ i ∈ [Instr.voidPocket 0, .voidPocket 23, .reroutePocket 23 0, .reroutePocket 23 1, .forceClass 0,
        .forceClass 11, .forceClass 12],
      (readyFor s).Hands i (taken i s)) ∧
    (State.reset.pocket 0 = .unknown ∧ (withLot 0 .empty).pocket 0 = .empty ∧
      (withLot 23 (.live (graded .classified))).pocket 23 = .live (graded .classified)) ∧
    (∃ e, (graded (.ejecting (.gate 0))).phase = .ejecting e) ∧
    (part (.measuring .a false none)).phase = .measuring .a false none ∧
    ((0#8 : Byte).toNat = (0 : Fin 12).val ∧ recipe.cls 0 = some ⟨-100, 100, 10, 0, some 1, false⟩) ∧
    (∀ c : Fin 12, (1#8 : Byte).toNat = c.val → recipe.cls c = none) ∧
    (∀ c : Fin 12, (12#8 : Byte).toNat = c.val → recipe.cls c = none) := by
  refine ⟨fun s hs i hi => ?_, by decide, ⟨_, rfl⟩, rfl, by decide, by decide, by decide⟩
  have hr : s.lines.inReset = false := by
    simp only [List.mem_cons, List.not_mem_nil, or_false] at hs
    rcases hs with rfl | rfl | rfl <;> rfl
  simp only [List.mem_cons, List.not_mem_nil, or_false] at hi
  rcases hi with rfl | rfl | rfl | rfl | rfl | rfl | rfl <;> exact taken_hands _ _ _ rfl hr

theorem witness_RecipeEditing :
    (∀ i ∈ [Instr.setNominal 9999 3, .setMeasure 2 3 10000, .setMeasure 3 0 1, .setRetest 0x3E 2 1 1 3,
        .setRetest 0 0 2 0 1, .setClass 11 (-999999) 999999 50000 11 255 1, .setClass 12 0 0 0 0 0 0,
        .setClass 0 0 0 0 11 254 0, .clearClasses, .setCheck 20 999999 1, .setCheck 0 (-999999) 10000, .copyActive],
      (readyFor State.reset).Hands i (taken i State.reset)) ∧
    ((2#8 : Byte).toNat = (match MeasureMode.confirm with | .singleA => 0 | .singleB => 1 | .confirm => 2) ∧
      (1#8 : Byte).toNat = (match Policy.alternate with | .same => 0 | .alternate => 1) ∧
      (11#8 : Byte).toNat = (11 : Fin 12).val ∧
      (255#8 : Byte).toNat = (match (none : Option (Fin 12)) with | some x => x.val | none => 255) ∧
      (11#8 : Byte).toNat = (match some (11 : Fin 12) with | some x => x.val | none => 255)) ∧
    (3 ≤ (3#8 : Byte).toNat ∧ 2 ≤ (2#8 : Byte).toNat ∧ 12 ≤ (12#8 : Byte).toNat ∧
      (12 ≤ (254#8 : Byte).toNat ∧ (254#8 : Byte).toNat ≠ 255)) := by
  refine ⟨fun i hi => ?_, by decide, by decide⟩
  simp only [List.mem_cons, List.not_mem_nil, or_false] at hi
  rcases hi with rfl | rfl | rfl | rfl | rfl | rfl | rfl | rfl | rfl | rfl | rfl | rfl <;>
    exact taken_hands _ _ _ rfl rfl

theorem witness_ReadRecipeAndLot :
    (readyFor State.reset).Hands (.readRecipe 1) (taken (.readRecipe 1) State.reset) ∧
      (1#8 : Byte).toNat ≤ 1 ∧ (readyFor State.reset).Hands .readLot (taken .readLot State.reset) ∧
      State.reset.banks.active.cls 0 = none ∧ recipe.cls 0 = some ⟨-100, 100, 10, 0, some 1, false⟩ :=
  ⟨taken_hands _ _ _ rfl rfl, by decide, taken_hands _ _ _ rfl rfl, by decide, by decide⟩

/-- No lot is current, under `recipe`, with pocket 4 holding `r`. -/
def noLot (r : PocketRecord) : State := (withLot 4 r).onLot fun l => { l with state := .noLot }

theorem witness_LotOpening :
    (∀ r, (readyFor (noLot r)).Hands .lotOpen (taken .lotOpen (noLot r))) ∧
    (withLot 4 .empty).lot.state ≠ .noLot ∧
    (let u := noLot (.live (graded .classified))
     u.lot.state = .noLot ∧ u.pocket 4 = .live (graded .classified) ∧
      ∀ w, (graded .classified).phase ≠ .purgePending w) ∧
    (let r : LiveRecord := { part (.purgePending .abort) with lot := 2 }
     (noLot (.live r)).pocket 4 = .live r ∧ r.lot = (noLot (.live r)).lot.number + 1) ∧
    (let u := noLot (.live (part (.purgePending .abort)))
     (∀ p r, u.pocket p = .live r → (∃ w, r.phase = .purgePending w) ∧ r.lot ≠ u.lot.number + 1) ∧
      u.lot.number = 1 ∧ u.validate = none) ∧
    State.reset.validate = some (.noClasses, 0xFF) ∧
    (∃ t, exec .lotOpen (noLot .empty |>.onPendingBank fun r => { r with lapLimit := 3 }) = .next t ∧
      t.banks.active ≠ recipe) := by
  refine ⟨fun r => taken_hands _ _ _ rfl rfl, by decide, ⟨by decide, by decide, by simp [graded, part]⟩,
    ⟨by decide, by decide⟩, ⟨fun p r h => ?_, by decide, by decide⟩, by decide, _, rfl, by decide⟩
  have hall : ∀ p : Fin 24,
      (noLot (.live (part (.purgePending .abort)))).pocket p = .empty ∨
        (noLot (.live (part (.purgePending .abort)))).pocket p = .live (part (.purgePending .abort)) := by
    decide
  rcases hall p with hp | hp
  · rw [hp] at h; cases h
  · rw [hp] at h
    cases h
    exact ⟨⟨_, rfl⟩, by decide⟩

theorem witness_LotCloseAbortAndCheckRequest :
    (∀ i ∈ [Instr.lotClose, .lotAbort, .requestCheck],
      ∀ s ∈ [State.reset, withLot 4 (.live (part (.pending .a false)))], (readyFor s).Hands i (taken i s)) ∧
    State.reset.lot.state = .noLot ∧ (withLot 4 .empty).lot.state ≠ .noLot := by
  refine ⟨fun i hi s hs => ?_, by decide, by decide⟩
  have hr : s.lines.inReset = false := by
    simp only [List.mem_cons, List.not_mem_nil, or_false] at hs
    rcases hs with rfl | rfl <;> rfl
  simp only [List.mem_cons, List.not_mem_nil, or_false] at hi
  rcases hi with rfl | rfl | rfl <;> exact taken_hands _ _ _ rfl hr

theorem witness_FaultCommands :
    (∀ i ∈ [Instr.readFaults, .ackFaults 0xFFFFFFFF, .setAttnMask 0, .readCapture 0, .readCapture 1,
        .ackCapture 0, .ackCapture 1],
      (readyFor State.reset).Hands i (taken i State.reset)) ∧
    State.reset.faults.pocketCapture = none ∧ State.reset.faults.headCapture = none ∧
    (∃ c, (after (.indexDone true) (dialIn .moving (withLot 3 .empty))).faults.pocketCapture = some c) ∧
    (∃ c, (after (.responseTimeout .a) (probing .a State.reset)).faults.headCapture = some c) := by
  refine ⟨fun i hi => ?_, by decide, by decide, ⟨_, rfl⟩, ⟨_, rfl⟩⟩
  simp only [List.mem_cons, List.not_mem_nil, or_false] at hi
  rcases hi with rfl | rfl | rfl | rfl | rfl | rfl | rfl <;> exact taken_hands _ _ _ rfl rfl

theorem witness_ResetSort (d : DialState) :
    (readyFor (dialIn d (withLot 4 (.live (graded .classified))))).Hands .resetSort
        (taken .resetSort (dialIn d (withLot 4 (.live (graded .classified))))) ∧
      (taken .resetSort (dialIn d (withLot 4 (.live (graded .classified))))).dial.state = d ∧
      (withLot 4 (.live (graded .classified))).pocket 4 = .live (graded .classified) ∧
      (∀ e, (graded .classified).phase ≠ .ejecting e) ∧ ∃ e, (graded (.ejecting (.gate 0))).phase = .ejecting e :=
  ⟨taken_hands _ _ _ rfl rfl, rfl, by decide, by simp [graded, part], ⟨_, rfl⟩⟩

theorem witness_LinkTransactions :
    (State.reset.lines.inReset = false ∧ State.reset.link.transaction = .idle ∧
      State.reset.link.state = .ready) ∧
    (after .transactionBegin State.reset).link.transaction = .taken .ready ∧
    (after .transactionBegin (after .resetNAsserted State.reset)).link.transaction = .notTaken ∧
    (after .resetNAsserted State.reset).lines.inReset = true ∧
    ([0x16#8].length < 2 ∧ 40 < (41#8 : Byte).toNat ∧ ([] : List Byte).length ≠ (1#8 : Byte).toNat) ∧
    (requestLength 0x17 = none ∧ requestLength 0x10 = some 5 ∧ (0#8 : Byte).toNat ≠ 5 ∧
      requestLength 0x33 = some (14#8 : Byte).toNat ∧ requestLength 0x16 = some (0#8 : Byte).toNat) ∧
    (let s := written .stop State.reset
     s.link.state = .busy ⟨0x13, []⟩ ⟨.ok, []⟩ ∧ s.link.transaction = .idle ∧
      (after .transactionBegin s).link.transaction = .taken .busy ∧
      (after .stop (after .transactionBegin s)).link.state = .response ⟨.ok, []⟩ ∧
      (after .stop (after .transactionBegin s)).link.transaction = .taken .busy) ∧
    ((after .stop State.reset).link.state = .response ⟨.ok, []⟩ ∧
      (after .transactionBegin (after .stop State.reset)).link.transaction = .taken .response) := by decide

theorem witness_CommandsAreTakenOrLost :
    frameOf .stop = some ⟨0x13, []⟩ ∧ State.reset.lines.inReset = false ∧
    (written .stop State.reset).link.state = .busy ⟨0x13, []⟩ ⟨.ok, []⟩ ∧
    (State.reset.link.state = .ready ∧ State.reset.link.transaction = .idle) ∧
    (after .transactionBegin State.reset).link.transaction = .taken .ready ∧
    (∃ r, (after .hold State.reset).link.state = .response r) ∧
    (∃ f r, f ≠ ⟨0x13, []⟩ ∧ (written .hold State.reset).link.state = .busy f r) ∧
    (∀ n sense, Instr.start (Config.pocketSenseAtWrite n) = .start sense →
      sense = Config.pocketSenseAtWrite n) ∧
    ((after (.powerOnReset false 0) (after .transactionBegin (after .resetNAsserted State.reset))).link.state =
        .ready ∧
      (after (.powerOnReset false 0)
        (after .transactionBegin (after .resetNAsserted State.reset))).link.transaction = .notTaken) :=
  ⟨rfl, rfl, by decide, by decide, by decide, ⟨_, rfl⟩, ⟨⟨0x14, []⟩, ⟨.ok, []⟩, by decide, by decide⟩,
    fun _ _ h => (Instr.start.inj h).symm, by decide⟩

theorem witness_RefusedCommandsLeaveTheState :
    (let s := readyFor (withLot 4 .empty)
     s.Hands (.setHead 0 1) (taken (.setHead 0 1) (withLot 4 .empty)) ∧ ∃ t, exec (.setHead 0 1) s = .next t ∧
      t.link.state = .response ⟨.refusedState, []⟩ ∧ Status.refusedState ≠ .ok ∧
      Status.refusedState ≠ .clamped) ∧
    (∀ i : Byte, (readyFor State.reset).Hands (.readHead i) (taken (.readHead i) State.reset)) ∧
    2 ≤ (2#8 : Byte).toNat ∧ 12 ≤ (12#8 : Byte).toNat ∧ 14 ≤ (14#8 : Byte).toNat ∧ 24 ≤ (24#8 : Byte).toNat :=
  ⟨⟨taken_hands _ _ _ rfl rfl, _, rfl, by decide, by decide, by decide⟩, fun _ => taken_hands _ _ _ rfl rfl,
    by decide, by decide, by decide, by decide⟩

theorem witness_FrameRoundTrip :
    frameOf (.setFeed 40) = some ⟨0x11, [40]⟩ ∧ decodeFrame true ⟨0x12, []⟩ = some (.start true) ∧
      testFrame [0x11, 1, 40] = .ok ⟨0x11, [40]⟩ := ⟨rfl, rfl, rfl⟩

/-! ### A state that meets every invariant -/

/-- A dwell whose timer is about to expire, with a graded part of the lot in pocket 4. -/
def working : State :=
  { dialIn .dwell (withLot 4 (.live (graded .classified))) with pending := [.minDwellExpiry] }

theorem working_live (p : Fin 24) (r : LiveRecord) (h : working.pocket p = .live r) :
    r = graded .classified := by
  have hall : ∀ p : Fin 24,
      working.pocket p = .empty ∨ working.pocket p = .live (graded .classified) := by decide
  rcases hall p with hp | hp
  · rw [hp] at h; cases h
  · rw [hp] at h; cases h; rfl

theorem working_idle (c : Chute) : (working.ejector c).state = .idle := by
  cases c with
  | gate g => revert g; decide
  | checkReturn => decide
  | purge => decide

theorem witness_working_coherent : working.Coherent where
  window := by decide
  load := by decide
  chutes c := by
    cases c with
    | gate g => revert g; decide
    | checkReturn => decide
    | purge => decide
  heads h := by
    have hs : (working.head h).state = .ready := by cases h <;> decide
    refine ⟨?_, fun hm => ?_, fun hp => ?_, fun _ _ => by cases h <;> decide, fun p hp => ?_⟩
    · cases h <;> decide
    · rw [hs] at hm; cases hm
    · rw [hs] at hp; cases hp
    · obtain ⟨r, hr, hm⟩ := hp
      rw [working_live p r hr] at hm
      cases hm
  ejecting c p := by
    rw [working_idle c]
    constructor
    · intro h
      cases h
    · rintro ⟨r, hr, he⟩
      rw [working_live p r hr] at he
      cases he
  sweeps c p h := by
    rw [working_idle c] at h
    cases h
  settled := by decide
  still h := absurd (by decide) h
  kinds p r h := by
    rw [working_live p r h]
    exact ⟨rfl, rfl, rfl⟩

theorem recipe_inRange : recipe.InRange :=
  ⟨by decide, by decide, by decide, by decide, by decide, by decide,
    fun i c h => by
      have hall : ∀ i : Fin 12,
          recipe.cls i = none ∨ recipe.cls i = some ⟨-100, 100, 10, 0, some 1, false⟩ := by decide
      rcases hall i with hi | hi
      · rw [hi] at h; cases h
      · rw [hi] at h; cases h; exact ⟨by decide, by decide, by decide⟩,
    by decide, by decide, by decide⟩

theorem witness_working_settings : working.SettingsInRange where
  minDwell := by decide
  moveTimeout := by decide
  feedWindow := by decide
  calibration h i := by
    cases h <;> revert i <;> intro i <;> constructor <;> revert i <;> decide
  capacity := by decide
  threshold := by decide
  pulseWidth := by decide
  confirmWindow := by decide
  windowHoldsPulse := by decide
  pendingBank := recipe_inRange
  activeBank := recipe_inRange
  attnMask := by decide

theorem witness_working_counts : working.CountsInRange where
  feedMisses := by decide
  checkMisses := by decide
  noReplies h := by cases h <;> decide
  headCounters h := by
    cases h <;> exact ⟨by decide, by decide, by decide, by decide, by decide⟩
  fill := by decide
  binMisses := by decide
  spills := by decide
  noise c := by
    cases c with
    | gate g => revert g; decide
    | checkReturn => decide
    | purge => decide
  purgeMisses := by decide
  checkCounter := by decide
  checkComing := by decide
  exposure h := by cases h <;> decide
  lastDrift h := by cases h <;> decide
  lotNumber := by decide
  lotNumbered := by decide
  lotCounters :=
    ⟨by decide, by decide, by decide, by decide, by decide, by decide, by decide, by decide, by decide,
      by decide, by decide, by decide⟩

theorem witness_working_records : working.LapsBounded ∧ working.DeviationsInRange := by
  refine ⟨fun p r h => ?_, fun p r h => ?_⟩
  · rw [working_live p r h]
    exact ⟨by decide, fun _ => by decide⟩
  · rw [working_live p r h]
    refine ⟨by simp [graded, part], fun g hg => ?_⟩
    cases hg
    exact ⟨by decide, by decide⟩

theorem witness_working_balanced : working.Balanced :=
  ⟨fun _ => by decide, fun _ => by decide, fun _ => by decide, fun _ ⟨f, hf, _⟩ =>
    absurd hf (by simp [working, dialIn, withLot, State.reset])⟩

theorem witness_working_steps :
    working.dwellOver = false ∧ working.dial.state ≠ .moving ∧
      ∃ t, step working = .next t ∧ t.dial.state = .moving :=
  ⟨by decide, by decide, _, rfl, by decide⟩

end Sys2Proof.Tests
end

section
/-! SUPPORT. The bounds of the records (R27, R75): a record within its bounds, and what each operation on records
makes of it. -/

namespace Sys2Proof.Machine

/-! ### A record within its bounds -/

/-- A deviation kept in a reading lies within the range of R75. -/
def Reading.InBounds (x : Reading) : Prop := ∀ v, x.sample = some v → deviationInRange v.deviation

/-- The bounds of one record under a lap limit (R27, R75). -/
structure LiveRecord.Bounded (limit : Nat) (r : LiveRecord) : Prop where
  lap : r.lap ≤ limit
  below : r.isPurged = false → r.lap < limit
  readings : ∀ x ∈ r.readings, x.InBounds
  grading : ∀ g, r.grading = some g → deviationInRange g.deviation

/-- Every live record is within its bounds under the ACTIVE lap limit. -/
def State.RecordsBounded (s : State) : Prop :=
  ∀ (p : Fin 24) (r : LiveRecord), s.pocket p = .live r → r.Bounded s.banks.active.lapLimit

theorem State.recordsBounded_iff (s : State) : s.RecordsBounded ↔ s.LapsBounded ∧ s.DeviationsInRange := by
  constructor
  · intro h
    exact ⟨fun p r hr => ⟨(h p r hr).lap, (h p r hr).below⟩,
      fun p r hr => ⟨(h p r hr).readings, (h p r hr).grading⟩⟩
  · rintro ⟨hl, hd⟩ p r hr
    exact ⟨(hl p r hr).1, (hl p r hr).2, (hd p r hr).1, (hd p r hr).2⟩

/-- A lap counted at LOAD, as one record update (R27). -/
theorem Recipe.countLap_eq (rec : Recipe) (r : LiveRecord) :
    rec.countLap r =
      { r with
        lap := r.lap + 1
        phase := if r.lap + 1 = rec.lapLimit then .purgePending .lapLimit else r.phase } := by
  dsimp only [Recipe.countLap]
  split <;> rfl

namespace LiveRecord.Bounded

variable {limit : Nat} {r : LiveRecord}

/-- A record that is not purged may take any state. -/
theorem withPhase (h : r.Bounded limit) (hp : r.isPurged = false) (phase : Phase) :
    LiveRecord.Bounded limit { r with phase := phase } :=
  ⟨h.lap, fun _ => h.below hp, h.readings, h.grading⟩

/-- A record may take any state that is a purge. -/
theorem withPurgedPhase (h : r.Bounded limit) {phase : Phase} (hp : phase.purgeReason.isSome = true) :
    LiveRecord.Bounded limit { r with phase := phase } :=
  ⟨h.lap, fun hn => absurd hp (by simpa [LiveRecord.isPurged] using hn), h.readings, h.grading⟩

theorem purge (h : r.Bounded limit) (reason : PurgeReason) : (r.purge reason).Bounded limit :=
  h.withPurgedPhase rfl

theorem withFlags (h : r.Bounded limit) (flags : RecordFlags) :
    LiveRecord.Bounded limit { r with flags := flags } :=
  ⟨h.lap, h.below, h.readings, h.grading⟩

theorem clearRecallPending (h : r.Bounded limit) : r.clearRecallPending.Bounded limit := h.withFlags _

theorem sendBack (h : r.Bounded limit) (hp : r.isPurged = false) (dest : Head) :
    (r.sendBack dest).Bounded limit :=
  ⟨h.lap, fun _ => h.below hp, by simp [LiveRecord.sendBack], by simp [LiveRecord.sendBack]⟩

theorem recallTo (h : r.Bounded limit) (hp : r.isPurged = false) (other : Head) (inService : Bool) :
    (r.recallTo other inService).Bounded limit := by
  unfold LiveRecord.recallTo
  split
  · exact h.sendBack hp other
  · exact h.purge .recall

theorem append (h : r.Bounded limit) {x : Reading} (hx : x.InBounds) : (r.append x).Bounded limit := by
  refine ⟨h.lap, h.below, fun y hy => ?_, h.grading⟩
  rcases List.mem_append.mp hy with hy | hy
  · exact h.readings y hy
  · rw [List.mem_singleton.mp hy]; exact hx

/-- A lap counted at LOAD: the limit reached is the purge (R27). -/
theorem countLap {rec : Recipe} (h : r.Bounded rec.lapLimit) (hp : r.isPurged = false) :
    (rec.countLap r).Bounded rec.lapLimit := by
  have hlap := h.below hp
  rw [Recipe.countLap_eq]
  by_cases heq : r.lap + 1 = rec.lapLimit
  · exact ⟨hlap, fun hn => by simp [LiveRecord.isPurged, heq, Phase.purgeReason] at hn, h.readings, h.grading⟩
  · exact ⟨hlap, fun _ => Nat.lt_of_le_of_ne hlap heq, h.readings, h.grading⟩

theorem abort (h : r.Bounded limit) : r.abort.Bounded limit := by
  unfold LiveRecord.abort
  split
  case h_1 hd o m hm => exact h.withPhase (by simp [LiveRecord.isPurged, hm, Phase.purgeReason]) _
  case h_2 => exact h
  all_goals exact h.purge .abort

theorem softReset (h : r.Bounded limit) : r.softReset.Bounded limit := by
  unfold LiveRecord.softReset
  split
  · exact h
  · exact h.purge .reset

end LiveRecord.Bounded

/-! ### Records that are not purged, by their state -/

theorem LiveRecord.isPurged_of_phase {r : LiveRecord} {phase : Phase} (h : r.phase = phase)
    (hp : phase.purgeReason = none) : r.isPurged = false := by
  simp [LiveRecord.isPurged, h, hp]

theorem LiveRecord.isPurged_of_isPending {r : LiveRecord} (h : r.isPending = true) : r.isPurged = false := by
  unfold LiveRecord.isPending at h
  split at h
  next hd o hp => exact isPurged_of_phase hp rfl
  next => cases h

/-- The check-done test changes a PENDING record only (R105). -/
theorem LiveRecord.Bounded.checkDoneTest {limit : Nat} {r : LiveRecord} (h : r.Bounded limit) (s : State) :
    (s.checkDoneTest r).Bounded limit := by
  unfold State.checkDoneTest
  split
  next hd =>
    have hpend : r.isPending = true := by
      simp only [State.checkIsDone, Bool.and_eq_true] at hd
      exact hd.1.1.1.2
    exact h.withPhase (isPurged_of_isPending hpend) _
  next => exact h

/-- The recall sends back or purges records that are not purged, and marks one MEASURING (R145). -/
theorem LiveRecord.Bounded.recallRecord {limit : Nat} {r : LiveRecord} (h : r.Bounded limit) (s : State)
    (failed : Head) (epoch : BitVec 16) : (s.recallRecord failed epoch r).Bounded limit := by
  unfold State.recallRecord
  split
  · split
    next hd o hp => exact h.recallTo (isPurged_of_phase hp rfl) _ _
    next hp => exact h.recallTo (isPurged_of_phase hp rfl) _ _
    next => exact h.withFlags _
    all_goals exact h
  · exact h

/-! ### States whose records are within their bounds -/

namespace State.RecordsBounded

variable {s : State}

/-- A change that leaves the records and the recipe banks as they are. -/
theorem of_same {t : State} (h : s.RecordsBounded) (hp : t.pockets = s.pockets) (hb : t.banks = s.banks) :
    t.RecordsBounded := by
  intro p r hr
  rw [hb]
  refine h p r ?_
  unfold State.pocket at hr ⊢
  rwa [hp] at hr

theorem onHead (h : s.RecordsBounded) (k : Head) (f : HeadUnit → HeadUnit) : (s.onHead k f).RecordsBounded :=
  h

theorem raiseHead (h : s.RecordsBounded) (c : HeadCapture) : (s.raiseHead c).RecordsBounded := h

theorem nextEpoch (h : s.RecordsBounded) (k : Head) : (s.nextEpoch k).RecordsBounded := h

theorem drainTest (h : s.RecordsBounded) : s.drainTest.RecordsBounded := h.of_same (by simp) (by simp)

theorem endDwellTest (h : s.RecordsBounded) : s.endDwellTest.RecordsBounded := h.of_same (by simp) (by simp)

theorem reportSevere (h : s.RecordsBounded) (before : State) : (s.reportSevere before).RecordsBounded :=
  h.of_same (by simp) (by simp)

theorem raisePocket (h : s.RecordsBounded) (c : PocketCapture) : (s.raisePocket c).RecordsBounded := h

theorem onDial (h : s.RecordsBounded) (f : Dial → Dial) : (s.onDial f).RecordsBounded := h

theorem onLink (h : s.RecordsBounded) (f : Link → Link) : (s.onLink f).RecordsBounded := h

theorem answer (h : s.RecordsBounded) (status : Status) (payload : List Byte) :
    (s.answer status payload).RecordsBounded := h

theorem joinBusy (h : s.RecordsBounded) (st : Station) : (s.joinBusy st).RecordsBounded := h

theorem onFeed (h : s.RecordsBounded) (f : FeedUnit → FeedUnit) : (s.onFeed f).RecordsBounded := h

theorem onCheck (h : s.RecordsBounded) (f : CheckUnit → CheckUnit) : (s.onCheck f).RecordsBounded := h

theorem onGates (h : s.RecordsBounded) (f : GateUnit → GateUnit) : (s.onGates f).RecordsBounded := h

theorem onBin (h : s.RecordsBounded) (g : Fin 12) (f : Bin → Bin) : (s.onBin g f).RecordsBounded := h

theorem onEjector (h : s.RecordsBounded) (c : Chute) (f : Ejector → Ejector) :
    (s.onEjector c f).RecordsBounded :=
  h

theorem onLot (h : s.RecordsBounded) (f : Lot → Lot) : (s.onLot f).RecordsBounded := h

theorem onFaults (h : s.RecordsBounded) (f : FaultUnit → FaultUnit) : (s.onFaults f).RecordsBounded := h

theorem onCounters (h : s.RecordsBounded) (f : LotCounters → LotCounters) : (s.onCounters f).RecordsBounded := h

theorem raise (h : s.RecordsBounded) (f : Flag) : (s.raise f).RecordsBounded := h

theorem reportPart (h : s.RecordsBounded) (r : LiveRecord) (f : LotCounters → LotCounters) :
    (s.reportPart r f).RecordsBounded := h.of_same (by simp) (by simp)

/-- A change of the PENDING bank does not move the ACTIVE lap limit. -/
theorem onPendingBank (h : s.RecordsBounded) (f : Recipe → Recipe) : (s.onPendingBank f).RecordsBounded := h

theorem heldTest (h : s.RecordsBounded) : s.heldTest.RecordsBounded := h.of_same (by simp) (by simp)

theorem testFill (h : s.RecordsBounded) (g : Fin 12) (b : Bin) : (s.testFill g b).RecordsBounded :=
  h.of_same (by simp) (by simp)

theorem leaveBusy (h : s.RecordsBounded) (st : Station) : (s.leaveBusy st).RecordsBounded := h

theorem setPocket (h : s.RecordsBounded) (p : Fin 24) {x : PocketRecord}
    (hx : ∀ r, x = .live r → r.Bounded s.banks.active.lapLimit) : (s.setPocket p x).RecordsBounded := by
  intro q r hr
  rw [State.pocket_setPocket] at hr
  split at hr
  next => exact hx r hr
  next => exact h q r hr

theorem setLive (h : s.RecordsBounded) (p : Fin 24) {r : LiveRecord}
    (hr : r.Bounded s.banks.active.lapLimit) : (s.setLive p r).RecordsBounded :=
  h.setPocket p fun _ he => PocketRecord.live.inj he ▸ hr

theorem setEmpty (h : s.RecordsBounded) (p : Fin 24) : (s.setPocket p .empty).RecordsBounded :=
  h.setPocket p fun _ he => nomatch he

theorem setUnknown (h : s.RecordsBounded) (p : Fin 24) : (s.setPocket p .unknown).RecordsBounded :=
  h.setPocket p fun _ he => nomatch he

theorem mapLive (h : s.RecordsBounded) {f : LiveRecord → LiveRecord}
    (hf : ∀ r, r.Bounded s.banks.active.lapLimit → (f r).Bounded s.banks.active.lapLimit) :
    (s.mapLive fun r => .live (f r)).RecordsBounded := by
  intro p r hr
  rw [State.pocket_mapLive] at hr
  split at hr
  next r0 h0 => exact PocketRecord.live.inj hr ▸ hf r0 (h p r0 h0)
  next hne => exact absurd hr (hne r)

end State.RecordsBounded

/-! ### Deviations (R69 to R78) -/

/-- A head whose readings are converted into the range of R75. -/
def State.ConvertsInRange (s : State) (h : Head) : Prop :=
  ∀ (range : Fin 7) (raw : BitVec 24 × Byte), deviationInRange (s.sampleOf h range raw).deviation

/-- The quotient of stage 4 is not negative for a calibration in range (R69 to R72). -/
theorem stageQuotient_nonneg {mantissa : Nat} {cal : Calibration} (code : BitVec 24) (hm : 1000 ≤ mantissa)
    (hc : cal.InRange) :
    0 ≤ stageQuotient (stageNumerator cal (stageOffset cal code)) (stageDenominator mantissa) := by
  have hgain := hc.gain.1
  have hoff : 0 ≤ stageOffset cal code := le_max_left _ _
  have hn : 0 ≤ stageNumerator cal (stageOffset cal code) :=
    mul_nonneg (mul_nonneg hoff (by omega)) (by norm_num)
  have hd : 0 ≤ stageDenominator mantissa := by simp only [stageDenominator, Config.codeReference]; omega
  exact Int.ediv_nonneg (by omega) (by omega)

/-- The stored deviation is the raw one, or the ceiling when that is lower (R74). -/
theorem convert_fst (mantissa : Nat) (cal : Calibration) (code : BitVec 24) :
    (convert mantissa cal code).1 = min 9999999 (rawDeviation mantissa cal code) := by
  have hc : Config.deviationCeiling = 9999999 := rfl
  simp only [convert, hc]
  by_cases h : 9999999 < rawDeviation mantissa cal code
  · rw [if_pos h, min_eq_left h.le]
  · rw [if_neg h, min_eq_right (not_lt.mp h)]

/-- A converted deviation is within its range: the floor by stages 1 to 5, the ceiling by stage 6 (R74, R75). -/
theorem deviationInRange_convert {mantissa : Nat} {cal : Calibration} (code : BitVec 24)
    (hm : 1000 ≤ mantissa) (hc : cal.InRange) : deviationInRange (convert mantissa cal code).1 := by
  have hq := stageQuotient_nonneg code hm hc
  rw [convert_fst, rawDeviation]
  exact ⟨le_min (by norm_num) (by omega), min_le_left _ _⟩

theorem State.SettingsInRange.convertsInRange {s : State} (hs : s.SettingsInRange) (h : Head) :
    s.ConvertsInRange h := fun range raw =>
  deviationInRange_convert raw.1 hs.activeBank.mantissa.1 (hs.calibration h range)

/-- Conversion rests on the calibration of the head and on the ACTIVE recipe. -/
theorem State.ConvertsInRange.of_same {s t : State} {h : Head} (hc : s.ConvertsInRange h)
    (hk : (t.head h).calibration = (s.head h).calibration)
    (hb : t.banks = s.banks) : t.ConvertsInRange h := by
  intro range raw
  have := hc range raw
  simp only [State.sampleOf, hk, hb] at this ⊢
  exact this

/-- The mean of two deviations in range is in range (R78). -/
theorem deviationInRange_confirmMean {x y : Sample} (hx : deviationInRange x.deviation)
    (hy : deviationInRange y.deviation) : deviationInRange (confirmMean x y) := by
  unfold deviationInRange confirmMean at *
  omega

theorem Reading.deviationInRange_verdict {x : Reading} (hx : x.InBounds) {g : Grading}
    (hg : x.verdict = some g) : deviationInRange g.deviation := by
  unfold Reading.verdict at hg
  split at hg
  next v _ hv => cases hg; exact hx v hv
  next => cases hg

theorem deviationInRange_pairVerdict {limit : Nat} {first second : Reading} (h1 : first.InBounds)
    (h2 : second.InBounds) {g : Grading} (hg : pairVerdict limit first second = some g) :
    deviationInRange g.deviation := by
  unfold pairVerdict at hg
  split at hg
  next x y _ _ hx hy =>
    split at hg
    next => cases hg; exact deviationInRange_confirmMean (h1 x hx) (h2 y hy)
    next => cases hg
  next => cases hg

theorem State.ConvertsInRange.judge {s : State} {h : Head} (hc : s.ConvertsInRange h) (kind : Kind)
    (range : Fin 7) (raw : Option (BitVec 24 × Byte)) : (s.judge kind h range raw).InBounds := by
  intro v hv
  obtain ⟨code, -, rfl⟩ := Option.map_eq_some_iff.mp hv
  exact hc range code

/-! ### What a load leaves to its own record -/

/-- A fresh record has counted no lap and holds no deviation; the lap limit is at least 1 (R29). -/
theorem State.loadRecord_bounded (s : State) (f : Feed) {limit : Nat} (hl : 1 ≤ limit) :
    (s.loadRecord f).Bounded limit :=
  ⟨Nat.zero_le _, fun _ => hl, by simp [State.loadRecord], by simp [State.loadRecord]⟩

@[simp] theorem State.reportLoad_pockets (s : State) (f : Feed) : (s.reportLoad f).pockets = s.pockets := by
  unfold State.reportLoad
  split <;> split <;> rfl
@[simp] theorem State.reportLoad_banks (s : State) (f : Feed) : (s.reportLoad f).banks = s.banks := by
  unfold State.reportLoad
  split <;> split <;> rfl
@[simp] theorem State.countLoad_pockets (s : State) (f : Feed) : (s.countLoad f).pockets = s.pockets := by
  unfold State.countLoad
  split <;> rfl
@[simp] theorem State.countLoad_banks (s : State) (f : Feed) : (s.countLoad f).banks = s.banks := by
  unfold State.countLoad
  split <;> rfl

/-! ### The classifier (R84 to R105) -/

@[simp] theorem State.headLeft_banks (s : State) : s.headLeft.banks = s.banks := by
  simp [State.headLeft]
@[simp] theorem State.headLeft_head (s : State) (h : Head) : s.headLeft.head h = s.head h := by
  simp [State.headLeft]
@[simp] theorem State.recall_banks (s : State) (failed : Head) (epoch : BitVec 16) :
    (s.recall failed epoch).banks = s.banks := by simp [State.recall]
@[simp] theorem State.checkFail_banks (s : State) (h : Head) (drift : Int) :
    (s.checkFail h drift).banks = s.banks := by simp [State.checkFail]
@[simp] theorem State.checkDecision_banks (s : State) (x : Reading) :
    (s.checkDecision x).banks = s.banks := by
  unfold State.checkDecision
  split
  · dsimp only
    split <;> simp
  · simp
@[simp] theorem State.raiseLost_banks (s : State) (h : Head) : (s.raiseLost h).banks = s.banks := rfl
@[simp] theorem State.raiseLost_head (s : State) (h k : Head) : (s.raiseLost h).head k = s.head k := rfl

theorem LiveRecord.Bounded.gradeRecord {limit : Nat} {r : LiveRecord} (h : r.Bounded limit)
    (hp : r.isPurged = false) {g : Grading} (hg : deviationInRange g.deviation) (s : State) :
    (s.gradeRecord r g).Bounded limit := by
  unfold State.gradeRecord
  split
  · exact ⟨h.lap, fun _ => h.below hp, h.readings, fun g' he => Option.some.inj he ▸ hg⟩
  · exact ⟨h.lap, fun _ => h.below hp, h.readings, fun g' he => Option.some.inj he ▸ hg⟩

theorem LiveRecord.Bounded.afterAttempt {limit : Nat} {r : LiveRecord} (h : r.Bounded limit)
    (hp : r.isPurged = false) (s : State) (hd : Head) {verdict : Option Grading}
    (hv : ∀ g, verdict = some g → deviationInRange g.deviation) :
    (s.afterAttempt r hd verdict).1.Bounded limit := by
  have h1 : LiveRecord.Bounded limit { r with attempts := r.attempts + 1 } :=
    ⟨h.lap, h.below, h.readings, h.grading⟩
  unfold State.afterAttempt
  split
  next g => exact h1.gradeRecord hp (hv g rfl) s
  next =>
    dsimp only
    split
    · exact h1.withPhase hp _
    · exact h1.purge .noResult

theorem State.attemptOf_pair_mem {s : State} {r : LiveRecord} {h : Head} {openPair : Bool} {first : Reading}
    (ha : s.attemptOf r h openPair = .pair first) : first ∈ r.readings := by
  unfold State.attemptOf at ha
  split at ha
  · cases ha
  · cases ha
  · split at ha
    · split at ha <;> cases ha
    · split at ha
      next first' hl => cases ha; exact List.mem_of_getLast? hl
      next => cases ha

@[simp] theorem State.raiseSubstituted_pockets (s : State) (x : Option Head) :
    (s.raiseSubstituted x).pockets = s.pockets := by cases x <;> rfl
@[simp] theorem State.raiseSubstituted_banks (s : State) (x : Option Head) :
    (s.raiseSubstituted x).banks = s.banks := by cases x <;> rfl

theorem LiveRecord.Bounded.degrade {limit : Nat} {r : LiveRecord} (h : r.Bounded limit) (x : Option Head) :
    (r.degrade x).Bounded limit := h.withFlags _

/-- An attempt completed writes the record it judges, and no other. -/
@[simp] theorem State.completeAttempt_pockets (s : State) (p : Fin 24) (r : LiveRecord) (x : Reading)
    (attempt : Attempt) (verdict : Option Grading) :
    (s.completeAttempt p r x attempt verdict).pockets =
      s.pockets.set p.val (.live ((s.afterAttempt (r.append x) x.head verdict).1.degrade
        (s.banks.active.substitutedFor r x.head attempt))) := by
  dsimp only [State.completeAttempt]
  rw [State.raiseSubstituted_pockets]
  cases verdict.isSome <;> cases (s.afterAttempt (r.append x) x.head verdict).2 <;> simp
@[simp] theorem State.completeAttempt_banks (s : State) (p : Fin 24) (r : LiveRecord) (x : Reading)
    (attempt : Attempt) (verdict : Option Grading) :
    (s.completeAttempt p r x attempt verdict).banks = s.banks := by
  dsimp only [State.completeAttempt]
  rw [State.raiseSubstituted_banks]
  cases verdict.isSome <;> cases (s.afterAttempt (r.append x) x.head verdict).2 <;> simp

namespace State.RecordsBounded

variable {s : State}

theorem completeAttempt (hs : s.RecordsBounded) (p : Fin 24) {r : LiveRecord}
    (hr : r.Bounded s.banks.active.lapLimit) (hp : r.isPurged = false) {x : Reading} (hx : x.InBounds)
    (attempt : Attempt) {verdict : Option Grading}
    (hv : ∀ g, verdict = some g → deviationInRange g.deviation) :
    (s.completeAttempt p r x attempt verdict).RecordsBounded := by
  have hafter := (hr.append hx).afterAttempt hp s x.head hv
  refine (hs.setLive p (hafter.degrade (s.banks.active.substitutedFor r x.head attempt))).of_same ?_ ?_
  · simp
  · simp

theorem judgePart (hs : s.RecordsBounded) (p : Fin 24) {r : LiveRecord}
    (hr : r.Bounded s.banks.active.lapLimit) (hp : r.isPurged = false) (openPair : Bool) {x : Reading}
    (hx : x.InBounds) : (s.judgePart p r openPair x).RecordsBounded := by
  unfold State.judgePart
  split
  next => exact hs.setLive p ((hr.append hx).withPhase hp _)
  next => exact hs.completeAttempt p hr hp hx _ fun g => Reading.deviationInRange_verdict hx
  next first ha =>
    have hf := hr.readings first (State.attemptOf_pair_mem ha)
    exact hs.completeAttempt p hr hp hx _ fun g => deviationInRange_pairVerdict hf hx

theorem headLeft (hs : s.RecordsBounded) : s.headLeft.RecordsBounded :=
  hs.mapLive fun _ hr => hr.checkDoneTest s

theorem recalled (hs : s.RecordsBounded) (failed : Head) (epoch : BitVec 16) :
    (s.recall failed epoch).RecordsBounded :=
  (hs.mapLive fun _ hr => hr.recallRecord s failed epoch).of_same (by simp [State.recall]) (by simp)

theorem applyRecall (hs : s.RecordsBounded) (p : Fin 24) {r : LiveRecord}
    (hr : r.Bounded s.banks.active.lapLimit) (hp : r.isPurged = false) (measuring : Head) :
    (s.applyRecall p r measuring).RecordsBounded :=
  (hs.setLive p (hr.clearRecallPending.recallTo hp measuring (s.inService measuring))).reportPart r _

theorem checkFail (hs : s.RecordsBounded) (h : Head) (drift : Int) : (s.checkFail h drift).RecordsBounded :=
  ((((hs.onHead h _).headLeft).raiseHead _).recalled h (s.head h).epoch).nextEpoch h

theorem checkDecision (hs : s.RecordsBounded) (x : Reading) : (s.checkDecision x).RecordsBounded := by
  unfold State.checkDecision
  split
  next v _ _ =>
    dsimp only
    split
    · exact (hs.onCheck _).nextEpoch _
    · exact (hs.onCheck _).checkFail _ _
  next => exact hs.onCheck _

end State.RecordsBounded

namespace State.RecordsBounded

variable {s : State}

theorem judgeCheck (hs : s.RecordsBounded) (p : Fin 24) {r : LiveRecord}
    (hr : r.Bounded s.banks.active.lapLimit) (hp : r.isPurged = false) {x : Reading} (hx : x.InBounds) :
    (s.judgeCheck p r x).RecordsBounded := by
  have hd := hs.checkDecision x
  have hr1 : (r.append x).Bounded (s.checkDecision x).banks.active.lapLimit := by
    rw [State.checkDecision_banks]; exact hr.append hx
  dsimp only [State.judgeCheck]
  split
  · exact hd.setLive p ((hr1.withPhase hp _).checkDoneTest _)
  · exact hd.setLive p (hr1.withPhase hp _)

theorem keepReading (hs : s.RecordsBounded) (p : Fin 24) {r : LiveRecord}
    (hr : r.Bounded s.banks.active.lapLimit) (hp : r.isPurged = false) (openPair : Bool) {h : Head}
    (hc : s.ConvertsInRange h) (range : Fin 7) (raw : Option (BitVec 24 × Byte)) :
    (s.keepReading p r openPair h range raw).RecordsBounded := by
  have hx := hc.judge r.kind range raw
  dsimp only [State.keepReading]
  split
  next => exact (hs.onHead h _).judgePart p hr hp openPair hx
  next => exact (hs.onHead h _).judgeCheck p hr hp hx

theorem handReading (hs : s.RecordsBounded) {h : Head} (hc : s.ConvertsInRange h) (p : Fin 24)
    (range : Fin 7) (raw : Option (BitVec 24 × Byte)) : (s.handReading h p range raw).RecordsBounded := by
  unfold State.handReading
  split
  next r hr =>
    have hb := hs p r hr
    split
    next m openPair mark hm =>
      have hp : r.isPurged = false := LiveRecord.isPurged_of_phase hm rfl
      split
      · split
        next v => exact hs.setLive p (hb.clearRecallPending.purge v.reason)
        next =>
          split
          · exact hs.applyRecall p hb hp h
          · exact hs.keepReading p hb hp openPair hc range raw
      · exact hs
    next => exact hs
  next => exact hs

theorem abandonRecord (hs : s.RecordsBounded) (h : Head) (p : Fin 24) (disabled : Bool) :
    (s.abandonRecord h p disabled).RecordsBounded := by
  unfold State.abandonRecord
  split
  next r hr =>
    have hb := hs p r hr
    split
    next m openPair mark hm =>
      have hp : r.isPurged = false := LiveRecord.isPurged_of_phase hm rfl
      split
      · split
        next v => exact hs.setLive p (hb.clearRecallPending.purge v.reason)
        next =>
          split
          · exact hs.applyRecall p hb hp h
          · split
            · exact hs.setLive p ((hb.withPhase hp _).checkDoneTest s)
            · exact hs.setLive p ((hb.withPhase hp _).checkDoneTest s)
      · exact hs
    next => exact hs
  next => exact hs

theorem giveUpRecords (s : State) : s.giveUpRecords.RecordsBounded := by
  intro p r hr
  simp only [State.giveUpRecords, State.drainTest_pocket, State.onCounters_pocket, State.pocket_mapLive] at hr
  split at hr
  next => cases hr
  next hne => exact absurd hr (hne r)

/-! ### The heads -/

theorem completeResult (hs : s.RecordsBounded) {h : Head} (hc : s.ConvertsInRange h) (p : Fin 24)
    (range : Fin 7) (raw : BitVec 24 × Byte) : (s.completeResult h p range raw).RecordsBounded :=
  ((hs.onHead h _).leaveBusy _).handReading
    (hc.of_same (by simp [HeadUnit.resultTaken, HeadUnit.endRequest, HeadUnit.onCounters]) (by simp)) p range _

theorem completeNoReply (hs : s.RecordsBounded) {h : Head} (hc : s.ConvertsInRange h) (p : Fin 24)
    (range : Fin 7) : (s.completeNoReply h p range).RecordsBounded := by
  have hs1 := hs.onHead h HeadUnit.noReply
  have hc1 : (s.onHead h HeadUnit.noReply).ConvertsInRange h :=
    hc.of_same (by simp [HeadUnit.noReply, HeadUnit.endRequest, HeadUnit.onCounters]) (by simp)
  dsimp only [State.completeNoReply]
  split
  · exact (hs1.leaveBusy _).handReading (hc1.of_same (by simp) (by simp)) p range none
  · exact ((hs1.headLeft.raiseHead _).leaveBusy _).handReading (hc1.of_same (by simp) (by simp)) p range none

theorem takeHeadFrame (hs : s.RecordsBounded) {h : Head} (hc : s.ConvertsInRange h) (f : HeadFrame) :
    (s.takeHeadFrame h f).RecordsBounded := by
  unfold State.takeHeadFrame
  split
  next p range aperture tag code status _ =>
    split
    · exact hs.completeResult hc p range _
    · exact hs.onHead h _
  next tag maxRange _ =>
    split
    · exact hs.onHead h _
    · exact hs.onHead h _
  next => exact hs.onHead h _

theorem receiveByte (hs : s.RecordsBounded) {h : Head} (hc : s.ConvertsInRange h) (b : Byte) :
    (s.receiveByte h b).RecordsBounded := by
  unfold State.receiveByte
  split
  next => split <;> exact hs.onHead h _
  next =>
    split
    next f _ => exact (hs.onHead h _).takeHeadFrame (hc.of_same (by simp) (by simp)) f
    next => exact hs.onHead h _
  next => exact hs

theorem receiveFrame (hs : s.RecordsBounded) {h : Head} (hc : s.ConvertsInRange h) (f : HeadFrame) :
    (s.receiveFrame h f).RecordsBounded := by
  unfold State.receiveFrame
  split
  next => exact hs.takeHeadFrame hc f
  next =>
    split
    · exact (hs.onHead h _).takeHeadFrame (hc.of_same (by simp) (by simp)) f
    · exact hs
  next => exact hs

theorem responseTimeout (hs : s.RecordsBounded) {h : Head} (hc : s.ConvertsInRange h) :
    (s.responseTimeout h).RecordsBounded := by
  unfold State.responseTimeout
  split
  · split
    next p range aperture sent _ => exact hs.completeNoReply hc p range
    next => exact (hs.onHead h _).raiseHead _
    next => exact hs
  · exact hs

theorem abandonMeasurement (hs : s.RecordsBounded) (h : Head) (after : HeadState) (disabled : Bool) :
    (s.abandonMeasurement h after disabled).RecordsBounded := by
  have h1 := (hs.onHead h fun u => u.abandon after).leaveBusy (.head h)
  have h2 : (if after.inService then (s.onHead h fun u => u.abandon after).leaveBusy (.head h)
      else ((s.onHead h fun u => u.abandon after).leaveBusy (.head h)).headLeft).RecordsBounded := by
    split
    · exact h1
    · exact h1.headLeft
  dsimp only [State.abandonMeasurement]
  split
  next p _ => exact h2.abandonRecord h p disabled
  next => exact h2

theorem abandonAll (hs : s.RecordsBounded) : s.abandonAll.RecordsBounded := by
  have key : ∀ {u : State} (h : Head), u.RecordsBounded → (u.abandonAt h).RecordsBounded := by
    intro u h hu
    unfold State.abandonAt
    split
    · exact hu.abandonMeasurement h _ _
    · exact hu
  exact key .b (key .a hs)

theorem disableHead (hs : s.RecordsBounded) (h : Head) : (s.disableHead h).RecordsBounded := by
  unfold State.disableHead
  split
  next => exact hs
  next => exact hs.onHead h _
  next => exact (hs.onHead h _).headLeft
  next => exact (hs.abandonMeasurement h _ _).endDwellTest

/-! ### The feed -/

/-- An arrival at LOAD counts the lap of a record that is not purged. -/
theorem arriveLoad (hs : s.RecordsBounded) : s.arriveLoad.RecordsBounded := by
  dsimp only [State.arriveLoad]
  split
  next =>
    split
    · exact hs.of_same (by simp [State.beginFeed]) (by simp [State.beginFeed])
    · exact hs
  next => exact hs
  next r hr =>
    have hb := hs _ r hr
    split
    next hp => exact hs.setLive _ (hb.countLap (LiveRecord.isPurged_of_phase hp rfl))
    next hp => exact hs.setLive _ (hb.countLap (LiveRecord.isPurged_of_phase hp rfl))
    next hp => exact hs.setLive _ (hb.countLap (LiveRecord.isPurged_of_phase hp rfl))
    all_goals exact hs

/-- A load writes its record and no other (R29). -/
theorem load (hs : s.RecordsBounded) (hl : 1 ≤ s.banks.active.lapLimit) (f : Feed) :
    (s.load f).RecordsBounded :=
  (hs.setLive f.target (s.loadRecord_bounded f hl)).of_same
    (by simp [State.load]) (by simp [State.load])

theorem loadSense (hs : s.RecordsBounded) (hl : 1 ≤ s.banks.active.lapLimit) : s.loadSense.RecordsBounded := by
  unfold State.loadSense
  split
  next f _ =>
    split
    · have h1 : (s.endFeed.onFeed fun u => u.clearMisses f.kind).RecordsBounded :=
        hs.of_same (by simp [State.endFeed]) (by simp [State.endFeed])
      dsimp only
      split
      · exact (h1.load hl f).drainTest
      · exact h1.drainTest
    · exact hs
  next => exact hs

theorem countFeedMiss (hs : s.RecordsBounded) : s.countFeedMiss.RecordsBounded := by
  unfold State.countFeedMiss
  split
  · exact (hs.onFeed _).raise _
  · exact hs.onFeed _

theorem countCheckFeedMiss (hs : s.RecordsBounded) : s.countCheckFeedMiss.RecordsBounded := by
  unfold State.countCheckFeedMiss
  split
  · exact ((hs.onFeed _).raise _).onCheck _
  · exact hs.onFeed _

theorem feedMiss (hs : s.RecordsBounded) : s.feedMiss.RecordsBounded := by
  unfold State.feedMiss
  split
  next f _ =>
    have h1 : s.endFeed.RecordsBounded := hs.of_same (by simp [State.endFeed]) (by simp [State.endFeed])
    split
    · split
      · exact h1.countFeedMiss.drainTest
      · exact h1.countCheckFeedMiss.drainTest
    · exact hs
  next => exact hs

/-! ### The other arrivals of a dwell -/

theorem arriveHead (hs : s.RecordsBounded) (h : Head) : (s.arriveHead h).RecordsBounded := by
  dsimp only [State.arriveHead]
  split
  next r hr =>
    have hb := hs _ r hr
    split
    next dest openPair hm =>
      have hp : r.isPurged = false := LiveRecord.isPurged_of_phase hm rfl
      split
      · split
        next =>
          exact ((hs.onHead h _).joinBusy _).setLive _ (hb.withPhase hp _)
        next => exact hs
        next =>
          split
          · exact hs.setLive _ ((hb.withPhase hp _).checkDoneTest s)
          · exact hs
      · exact hs
    next => exact hs
  next => exact hs

theorem fireEjector (hs : s.RecordsBounded) (c : Chute) (p : Fin 24) (sweep : Bool) :
    (s.fireEjector c p sweep).RecordsBounded := (hs.onEjector c _).joinBusy (.eject c)

theorem arriveGate (hs : s.RecordsBounded) (g : Fin 12) : (s.arriveGate g).RecordsBounded := by
  dsimp only [State.arriveGate]
  split
  next r hr =>
    split
    next k hm _ =>
      split
      next c _ =>
        split
        · exact (hs.fireEjector _ _ _).setLive _ ((hs _ r hr).withPhase (LiveRecord.isPurged_of_phase hm rfl) _)
        · exact hs
      next => exact hs
    next => exact hs
  next => exact hs

theorem arriveCheckReturn (hs : s.RecordsBounded) : s.arriveCheckReturn.RecordsBounded := by
  dsimp only [State.arriveCheckReturn]
  split
  next r hr =>
    split
    next hm =>
      exact (hs.fireEjector _ _ _).setLive _ ((hs _ r hr).withPhase (LiveRecord.isPurged_of_phase hm rfl) _)
    next => exact hs.of_same (by simp [State.passUnsorted]) (by simp [State.passUnsorted])
    next => exact hs
  next => exact hs

theorem arrivePurge (hs : s.RecordsBounded) : s.arrivePurge.RecordsBounded := by
  dsimp only [State.arrivePurge]
  split
  next => exact hs.fireEjector _ _ _
  next => exact hs
  next r hr =>
    split
    next reason _ => exact (hs.fireEjector _ _ _).setLive _ ((hs _ r hr).withPurgedPhase rfl)
    next => exact hs

theorem arriveEmptyCheck (hs : s.RecordsBounded) (sensed : Bool) : (s.arriveEmptyCheck sensed).RecordsBounded := by
  have hlost : ∀ p r, (s.lostPart p r).drainTest.RecordsBounded := fun p r =>
    (hs.setEmpty p).of_same (by simp [State.lostPart]) (by simp [State.lostPart])
  dsimp only [State.arriveEmptyCheck]
  split
  next => exact ((hs.raisePocket _).setUnknown _).drainTest
  next => exact hs
  next => exact hs
  next => exact (hs.setEmpty _).drainTest
  next => exact hs
  next r _ =>
    split
    next => exact hs
    next => exact hs
    all_goals exact hlost _ r

/-- Each station's own arrival keeps the records within their bounds. -/
theorem ownArrival (hs : s.RecordsBounded) (st : Station) : (s.ownArrival st).RecordsBounded := by
  unfold State.ownArrival
  split
  · exact hs
  · split
    · exact hs.arriveLoad
    · exact hs.arriveHead _
    · exact hs.arriveGate _
    · exact hs.arriveCheckReturn
    · exact hs.arrivePurge

theorem arriveGates (hs : s.RecordsBounded) : s.arriveGates.RecordsBounded := by
  unfold State.arriveGates
  induction List.finRange 12 generalizing s with
  | nil => exact hs
  | cons g gs ih => exact ih (hs.ownArrival (.eject (.gate g)))

theorem beginDwell (hs : s.RecordsBounded) (sensed : Bool) : (s.beginDwell sensed).RecordsBounded := by
  have h0 := hs.onDial fun d => { d with state := .dwell, dwellTimer := .running d.minDwell }
  have h3 := ((h0.ownArrival .load).ownArrival (.head .a)).ownArrival (.head .b)
  exact ((h3.arriveGates.ownArrival (.eject .checkReturn)).ownArrival (.eject .purge)).arriveEmptyCheck sensed

theorem honourIndex (hs : s.RecordsBounded) (sensed : Bool) : (s.honourIndex sensed).RecordsBounded :=
  State.RecordsBounded.beginDwell ((hs.onDial _).onDial _) sensed

theorem spuriousIndex (hs : s.RecordsBounded) : s.spuriousIndex.RecordsBounded := by
  have h1 := (hs.onDial fun d => { d with position := d.position + 1 }).raise .spuriousIndex
  exact h1.abandonAll.endDwellTest

theorem emergencyStop (hs : s.RecordsBounded) : s.emergencyStop.RecordsBounded := by
  have h1 : (State.releaseOutputs (s.onDial fun d =>
      { d with dwellTimer := .stopped, moveTimer := .stopped, stopPending := false })).RecordsBounded :=
    hs.of_same (by simp [State.releaseOutputs]) (by simp [State.releaseOutputs])
  dsimp only [State.emergencyStop]
  split
  · exact (State.RecordsBounded.giveUpRecords _).onDial _
  · exact h1.abandonAll.onDial _

/-! ### The end of an ejection -/

theorem confirm (hs : s.RecordsBounded) (c : Chute) (p : Fin 24) (sweep : Bool) :
    (s.confirm c p sweep).RecordsBounded := by
  have hempty := hs.setEmpty p
  unfold State.confirm
  split
  next g =>
    dsimp only [State.confirmGate]
    split
    next r _ =>
      split
      · exact hempty.of_same (by simp [State.binPart, State.fillBin]) (by simp [State.binPart, State.fillBin])
      · exact hempty.of_same (by simp [State.spillPart]) (by simp [State.spillPart])
    next => exact hs.onBin g _
  next =>
    unfold State.confirmReturn
    split
    next r _ =>
      unfold State.countReturn
      split
      · exact hempty.onCounters _
      · exact hempty
    next => exact hs
  next =>
    dsimp only [State.confirmPurge]
    split
    · split
      · exact State.RecordsBounded.onCounters (State.RecordsBounded.setEmpty (hs.onGates _) p) _
      · exact (hs.onGates _).onCounters _
    · split
      next r _ =>
        unfold State.countPurge
        split
        · exact State.RecordsBounded.reportPart (State.RecordsBounded.setEmpty (hs.onGates _) p) r _
        · exact State.RecordsBounded.setEmpty (hs.onGates _) p
      next => exact hs.onGates _

theorem chutePulse (hs : s.RecordsBounded) (c : Chute) : (s.chutePulse c).RecordsBounded := by
  unfold State.chutePulse
  split
  next => exact hs.onEjector c _
  next p sweep _ =>
    refine State.RecordsBounded.drainTest (State.RecordsBounded.confirm ?_ c p sweep)
    exact (hs.onEjector c _).leaveBusy _
  next => exact hs

theorem countGateMiss (hs : s.RecordsBounded) (g : Fin 12) : (s.countGateMiss g).RecordsBounded := by
  dsimp only [State.countGateMiss]
  split
  · exact ((hs.onBin g _).raise _).onFaults _
  · exact hs.onBin g _

theorem missGate (hs : s.RecordsBounded) (g : Fin 12) (p : Fin 24) : (s.missGate g p).RecordsBounded := by
  unfold State.missGate
  split
  next r hr => exact ((hs.setLive p ((hs p r hr).purge .ejectMiss)).raisePocket _).countGateMiss g
  next => exact hs.countGateMiss g

/-- A record missed at CR was EJECTING there, and so not purged (R126). -/
theorem missReturn (hs : s.RecordsBounded) {p : Fin 24} (he : s.ejectingAt p .checkReturn) :
    (s.missReturn p).RecordsBounded := by
  obtain ⟨r, hr, hst⟩ := he
  have hp : r.isPurged = false := by
    unfold LiveRecord.isPurged
    revert hst
    cases r.phase with
    | ejecting e => cases e <;> simp [Phase.ejectStation, Ejecting.chute, Phase.purgeReason]
    | _ => simp [Phase.ejectStation]
  simp only [State.missReturn, hr]
  exact hs.setLive p ((hs p r hr).withPhase hp _)

theorem countPurgeMiss (hs : s.RecordsBounded) : s.countPurgeMiss.RecordsBounded := by
  dsimp only [State.countPurgeMiss]
  split
  · exact (hs.onGates _).raise _
  · exact hs.onGates _

theorem missPurge (hs : s.RecordsBounded) (p : Fin 24) (sweep : Bool) : (s.missPurge p sweep).RecordsBounded := by
  unfold State.missPurge
  split
  · exact hs
  · split
    next r hr =>
      split
      next reason _ => exact (hs.setLive p ((hs p r hr).purge reason)).countPurgeMiss
      next => exact hs.countPurgeMiss
    next => exact hs.countPurgeMiss

theorem windowExpiry (hs : s.RecordsBounded) (hc : s.Coherent) (c : Chute) :
    (s.windowExpiry c).RecordsBounded := by
  dsimp only [State.windowExpiry]
  have h1 : (s.onEjector c fun e => { e with state := .idle, windowTimer := .stopped }).RecordsBounded :=
    hs.onEjector c _
  have h2 := h1.leaveBusy (.eject c)
  split
  next => exact hs
  next p sweep hf =>
    cases c with
    | gate g => exact h2.missGate g p
    | purge => exact h2.missPurge p sweep
    | checkReturn =>
      cases sweep with
      | true => exact absurd (hc.sweeps .checkReturn p hf) (by decide)
      | false => exact h2.missReturn ((hc.ejecting .checkReturn p).mp hf)
  next => exact h1

end State.RecordsBounded

end Sys2Proof.Machine
end

section
/-! SUPPORT. Every command, every row and every step keeps the records within their bounds (R27, R75, R158). -/

namespace Sys2Proof.Machine

/-! ### LOT_OPEN -/

theorem State.pocket_withBanks (s : State) (banks : Banks) (armed : Option (Fin 12)) (p : Fin 24) :
    State.pocket { s with banks := banks, forceClass := armed } p = s.pocket p := rfl

/-- The opening of a lot makes the check-done test on each record, with the heads as they are then, and lowers its
lap (R158). -/
theorem State.openLot_pocket (s : State) (p : Fin 24) :
    ∃ u : State, s.openLot.pocket p =
      match s.pocket p with
      | .live r => .live ((u.checkDoneTest r).lowerLap s.banks.pending.lapLimit)
      | other => other := by
  refine ⟨(s.onHead .a fun u => u.dropIncapable s.banks.pending.range).onHead .b fun u =>
      u.dropIncapable s.banks.pending.range, ?_⟩
  dsimp only [State.openLot]
  rw [State.onLot_pocket, State.pocket_mapLive, State.onCheck_pocket, State.onHead_pocket, State.onHead_pocket,
    State.pocket_withBanks, State.headLeft, State.pocket_mapLive, State.onHead_pocket, State.onHead_pocket]
  cases s.pocket p <;> rfl

theorem LiveRecord.exists_purgePending {r : LiveRecord} (h : r.isPurgePending = true) :
    ∃ reason, r.phase = .purgePending reason := by
  unfold LiveRecord.isPurgePending at h
  split at h
  next reason hp => exact ⟨reason, hp⟩
  next => cases h

/-- The check-done test passes over a record that is PURGE_PENDING (R105). -/
theorem State.checkDoneTest_of_isPurgePending {r : LiveRecord} (h : r.isPurgePending = true) (s : State) :
    s.checkDoneTest r = r := by
  obtain ⟨reason, hp⟩ := LiveRecord.exists_purgePending h
  simp [State.checkDoneTest, State.checkIsDone, LiveRecord.isPending, hp]

/-- The lap of a PURGE_PENDING record lowered to a lap limit is within that limit (R27, R158). -/
theorem LiveRecord.Bounded.lowerLap {old : Nat} {r : LiveRecord} (h : r.Bounded old)
    (hp : r.isPurgePending = true) (limit : Nat) : (r.lowerLap limit).Bounded limit := by
  obtain ⟨reason, hphase⟩ := LiveRecord.exists_purgePending hp
  rw [LiveRecord.lowerLap, if_pos hp]
  exact ⟨min_le_right _ _, fun hn => by simp [LiveRecord.isPurged, hphase, Phase.purgeReason] at hn,
    h.readings, h.grading⟩

/-! ### What a block returns -/

@[simp] theorem State.done_state (s : State) : s.done.state = s := rfl

namespace State.RecordsBounded

variable {s : State}

theorem withHead (hs : s.RecordsBounded) (i : Byte) {act : Head → Reply}
    (ha : ∀ h, (act h).state.RecordsBounded) : (s.withHead i act).state.RecordsBounded := by
  unfold State.withHead
  split
  next h _ => exact ha h
  next => exact hs

theorem withBin (hs : s.RecordsBounded) (i : Byte) {act : Fin 12 → Reply}
    (ha : ∀ g, (act g).state.RecordsBounded) : (s.withBin i act).state.RecordsBounded := by
  unfold State.withBin
  split
  next g _ => exact ha g
  next => exact hs

theorem withPocket (hs : s.RecordsBounded) (i : Byte) {act : Fin 24 → Reply}
    (ha : ∀ p, (act p).state.RecordsBounded) : (s.withPocket i act).state.RecordsBounded := by
  unfold State.withPocket
  split
  next p _ => exact ha p
  next => exact hs

theorem stopDial (hs : s.RecordsBounded) : s.stopDial.RecordsBounded := by
  unfold State.stopDial
  split
  next => exact hs.onDial _
  next => exact hs.onDial _
  next => exact hs.onDial _
  next => exact State.RecordsBounded.onDial (State.RecordsBounded.onDial (.giveUpRecords s) _) _
  next => exact hs
  next => exact hs

theorem voidPocket (hs : s.RecordsBounded) (p : Fin 24) : (s.voidPocket p).state.RecordsBounded := by
  unfold State.voidPocket
  split
  next => exact hs
  next => exact hs
  next r hr =>
    have hb := hs p r hr
    split
    next hm => exact hs.setLive p (hb.withPhase (LiveRecord.isPurged_of_phase hm rfl) _)
    next => exact hs
    all_goals exact hs.setLive p (hb.purge .voided)

theorem reroutePocket (hs : s.RecordsBounded) (cls : Byte) (p : Fin 24) :
    (s.reroutePocket cls p).state.RecordsBounded := by
  unfold State.reroutePocket
  split
  next r hr =>
    have hb := hs p r hr
    split
    next =>
      split
      next c _ => exact hs.setLive p ⟨hb.lap, hb.below, hb.readings, hb.grading⟩
      next => exact hs
    next => exact hs
  next => exact hs

/-- The lot opens with every record drained: each is PURGE_PENDING, and its lap is lowered to the new lap
limit (R156, R158). -/
theorem openLot (hs : s.RecordsBounded) (hd : s.allPockets PocketRecord.isDrained = true) :
    s.openLot.RecordsBounded := by
  rw [State.allPockets_iff] at hd
  intro p r hr
  have hactive : s.openLot.banks.active = s.banks.pending := by simp [State.openLot]
  rw [hactive]
  obtain ⟨u, hu⟩ := s.openLot_pocket p
  rw [hu] at hr
  split at hr
  next r0 h0 =>
    have hpp : r0.isPurgePending = true := by simpa [h0, PocketRecord.isDrained] using hd p
    rw [State.checkDoneTest_of_isPurgePending hpp] at hr
    exact PocketRecord.live.inj hr ▸ (hs p r0 h0).lowerLap hpp _
  next hne => exact absurd hr (hne r)

theorem softReset (hs : s.RecordsBounded) : s.softReset.RecordsBounded :=
  (hs.mapLive fun _ hr => hr.softReset).of_same (by simp [State.softReset]) (by simp [State.softReset])

/-- Whatever command its block is handed, the records stay within their bounds. -/
theorem replyOf (hs : s.RecordsBounded) (i : Instr) : (replyOf i s).state.RecordsBounded := by
  cases i with
  | setDial minDwell moveTimeout startEnable =>
    show (replySetDial minDwell moveTimeout startEnable s).state.RecordsBounded
    unfold replySetDial
    split
    · exact hs.onDial _
    · exact hs
  | setFeed window =>
    show (replySetFeed window s).state.RecordsBounded
    unfold replySetFeed
    split
    · exact hs.onFeed _
    · exact hs
  | start sensed =>
    show (replyStart sensed s).state.RecordsBounded
    unfold replyStart
    split
    · rw [State.done_state]
      exact hs.beginDwell sensed
    · exact hs
  | stop =>
    show s.stopDial.RecordsBounded
    exact hs.stopDial
  | hold =>
    show (replyHold s).state.RecordsBounded
    exact hs.onDial _
  | release =>
    show (replyRelease s).state.RecordsBounded
    exact (hs.onDial _).heldTest
  | lotOpen =>
    show (replyLotOpen s).state.RecordsBounded
    unfold replyLotOpen
    split
    · exact hs
    · split
      · exact hs
      next hd =>
        split
        · exact hs
        · split
          · exact hs
          · exact hs.openLot (by simpa using hd)
  | lotClose =>
    show (replyLotClose s).state.RecordsBounded
    unfold replyLotClose
    split
    · exact (State.RecordsBounded.drainTest (hs.onLot _)).reportSevere s
    · exact hs
  | lotAbort =>
    show (replyLotAbort s).state.RecordsBounded
    unfold replyLotAbort
    split
    · exact hs
    · exact ((((hs.mapLive fun _ hr => hr.abort).onFeed _).onLot _).drainTest).reportSevere s
  | setNominal => exact hs.onPendingBank _
  | setMeasure mode aperture agreeLimit =>
    show (replySetMeasure mode aperture agreeLimit s).state.RecordsBounded
    unfold replySetMeasure
    split
    · exact hs
    · exact hs.onPendingBank _
  | setRetest doubtMask retestLimit slot1 slot2 lapLimit =>
    show (replySetRetest doubtMask retestLimit slot1 slot2 lapLimit s).state.RecordsBounded
    unfold replySetRetest
    split
    · exact hs.onPendingBank _
    · exact hs
  | setClass index lo hi guardBand primary overflow catchAll =>
    show (replySetClass index lo hi guardBand primary overflow catchAll s).state.RecordsBounded
    unfold replySetClass
    split
    · exact hs.onPendingBank _
    · exact hs
  | clearClasses => exact hs.onPendingBank _
  | setCheck => exact hs.onPendingBank _
  | copyActive => exact hs.onPendingBank _
  | readRecipe bank =>
    show (replyReadRecipe bank s).state.RecordsBounded
    unfold replyReadRecipe
    split <;> exact hs
  | setHead head timeoutSelect =>
    refine hs.withHead head fun h => ?_
    split
    · exact hs.onHead h _
    · exact hs
  | setHeadCal head range offset gain =>
    refine hs.withHead head fun h => ?_
    split
    · split
      · exact hs
      · exact hs.onHead h _
    · exact hs
  | headEnable head =>
    refine hs.withHead head fun h => ?_
    unfold State.enableHead
    split
    · exact hs.onHead h _
    · exact hs
  | headDisable head => exact hs.withHead head fun h => hs.disableHead h
  | readHead head => exact hs.withHead head fun _ => hs
  | readHeadStats head => exact hs.withHead head fun h => hs.onHead h _
  | forceDoubt head => exact hs.withHead head fun h => hs.onHead h _
  | setGate => exact hs.onGates _
  | setBin bin => exact hs.withBin bin fun g => (hs.onBin g _).testFill g (s.bin g)
  | stall bin => exact hs.withBin bin fun g => hs.onBin g _
  | unstall bin => exact hs.withBin bin fun g => hs.onBin g _
  | readBin index =>
    show (replyReadBin index s).state.RecordsBounded
    unfold replyReadBin
    split
    next c _ =>
      cases c with
      | gate g => exact (hs.onEjector _ _).onBin g _
      | checkReturn => exact hs.onEjector _ _
      | purge => exact hs.onEjector _ _
    next => exact hs
  | readPocket pocket => exact hs.withPocket pocket fun _ => hs
  | voidPocket pocket => exact hs.withPocket pocket hs.voidPocket
  | reroutePocket pocket cls => exact hs.withPocket pocket (hs.reroutePocket cls)
  | forceClass cls =>
    show (replyForceClass cls s).state.RecordsBounded
    unfold replyForceClass
    split
    · exact hs
    · exact hs
  | requestCheck =>
    show (replyRequestCheck s).state.RecordsBounded
    unfold replyRequestCheck
    split
    · exact hs.onCheck _
    · exact hs
  | ackFaults flags =>
    show (s.ackFaults (flagSetOf flags)).RecordsBounded
    unfold State.ackFaults
    split
    · exact ((hs.onFaults _).onGates _).reportSevere s
    · exact (hs.onFaults _).reportSevere s
  | readCapture which =>
    show (replyReadCapture which s).state.RecordsBounded
    unfold replyReadCapture
    split <;> exact hs
  | ackCapture which =>
    show (replyAckCapture which s).state.RecordsBounded
    unfold replyAckCapture
    split
    · exact hs.onFaults _
    · exact hs.onFaults _
    · exact hs
  | setAttnMask => exact hs.onFaults _
  | resetSort =>
    show (replyResetSort s).state.RecordsBounded
    unfold replyResetSort
    split
    · exact hs.softReset
    · exact hs
  | _ => exact hs

/-! ### The command link -/

theorem takeWritten (hs : s.RecordsBounded) (f : Frame) : (s.takeWritten f).RecordsBounded := by
  unfold State.takeWritten
  split
  next i _ => exact ((hs.onLink _).replyOf i).onLink _
  next => exact hs.answer _ _

theorem endTransaction (hs : s.RecordsBounded) (sdi : List Byte) : (s.endTransaction sdi).RecordsBounded := by
  have hfinish : ∀ phase, (s.finishTransaction phase sdi).RecordsBounded := by
    intro phase
    have h1 : ∀ l, (s.onLink l).RecordsBounded := fun l => hs.onLink l
    dsimp only [State.finishTransaction]
    split
    next =>
      split
      · unfold State.endWrite
        split
        · exact h1 _
        · split
          · exact (h1 _).takeWritten _
          · exact (h1 _).answer _ _
      · exact h1 _
    next => exact h1 _
    next =>
      unfold State.endRead
      split
      · split
        · exact (h1 _).onLink _
        · exact h1 _
      · exact h1 _
  unfold State.endTransaction State.endUntaken
  split
  · exact hs.onLink _
  · split
    · exact hfinish _
    · exact hs.onLink _
    · exact hfinish _

/-! ### Every row -/

/-- An event row acts, or nothing happens while RESET_N is asserted. -/
theorem of_event {t : State} {f : State → State} (hs : s.RecordsBounded)
    (h : s.event f = .next t) (hf : (f s).RecordsBounded) : t.RecordsBounded := by
  unfold State.event at h
  cases h
  split
  · exact hs
  · exact hf

/-- A command row is lost, returns the answer kept, or is handed to its block. -/
theorem of_command {t : State} {i : Instr} (hs : s.RecordsBounded)
    (h : s.command i (Machine.replyOf i) = .next t) : t.RecordsBounded := by
  refine hs.of_event h ?_
  split
  · exact hs
  · split
    · exact hs.answer _ _
    · exact hs
  · split
    · exact hs
    next hu =>
      have hw := (State.takeFrame_some.mp hu).2.2
      subst hw
      exact ((hs.onLink _).replyOf i).answer _ _

theorem powerOn (s : State) (estop : Bool) (cans : BitVec 12) : (s.powerOn estop cans).RecordsBounded := by
  intro p r hr
  have hu : (s.powerOn estop cans).pocket p = .unknown := by simp [State.powerOn, State.pocket, State.reset]
  rw [hu] at hr
  cases hr

/-- Every row keeps the records within their bounds, from a coherent state with its settings in range. -/
theorem exec {t : State} {i : Instr} (hs : s.RecordsBounded) (hc : s.Coherent) (hr : s.SettingsInRange)
    (h : exec i s = .next t) : t.RecordsBounded := by
  cases hf : frameOf i with
  | some f => exact hs.of_command (exec_command hf s ▸ h)
  | none =>
    cases i with
    | powerOnReset estop cans => cases h; exact .powerOn s estop cans
    | resetNAsserted => cases h; exact hs
    | indexDone sensed =>
      change execIndexDone sensed s = .next t at h
      refine hs.of_event h ?_
      split
      · exact hs.honourIndex sensed
      · exact hs.honourIndex sensed
      · exact hs.spuriousIndex
    | minDwellExpiry =>
      change execMinDwellExpiry s = .next t at h
      refine hs.of_event h ?_
      split
      · exact (hs.onDial _).endDwellTest
      · exact hs
    | moveTimerExpiry =>
      change execMoveTimerExpiry s = .next t at h
      refine hs.of_event h ?_
      split
      · exact (hs.onDial _).raise .dialJam
      · exact hs
    | estopAsserted =>
      change execEstopAsserted s = .next t at h
      have h1 : RecordsBounded { s with lines := { s.lines with estop := true } } := hs
      refine hs.of_event h ?_
      dsimp only
      split
      · exact h1
      · exact h1.emergencyStop
    | estopReleased =>
      change execEstopReleased s = .next t at h
      have h1 : RecordsBounded { s with lines := { s.lines with estop := false } } := hs
      refine hs.of_event h (State.RecordsBounded.reportSevere ?_ s)
      split
      · exact h1.onDial _
      · exact h1
    | startLineEdge sensed =>
      change execStartLineEdge sensed s = .next t at h
      refine hs.of_event h ?_
      split
      · exact hs.beginDwell sensed
      · exact hs
    | feedPulseEnd =>
      change execFeedPulseEnd s = .next t at h
      exact hs.of_event h (hs.onFeed _)
    | loadSense =>
      change execLoadSense s = .next t at h
      exact hs.of_event h (((hs.loadSense hr.activeBank.lapLimit.1).endDwellTest).reportSevere s)
    | feedWindowExpiry =>
      change execFeedWindowExpiry s = .next t at h
      exact hs.of_event h hs.feedMiss.endDwellTest
    | requestSent k =>
      change execRequestSent k s = .next t at h
      exact hs.of_event h (hs.onHead k _)
    | quietTimerExpiry k =>
      change execQuietTimerExpiry k s = .next t at h
      exact hs.of_event h (hs.onHead k _)
    | result k tag code status =>
      change execResult k tag code status s = .next t at h
      exact hs.of_event h (hs.receiveFrame (hr.convertsInRange k) _).endDwellTest
    | identAnswer k tag maxRange =>
      change execIdentAnswer k tag maxRange s = .next t at h
      exact hs.of_event h ((hs.receiveFrame (hr.convertsInRange k) _).reportSevere s)
    | responseTimeout k =>
      change execResponseTimeout k s = .next t at h
      exact hs.of_event h (hs.responseTimeout (hr.convertsInRange k)).endDwellTest
    | linkPause k =>
      change execLinkPause k s = .next t at h
      refine hs.of_event h ?_
      split
      · exact hs.onHead k _
      · exact hs
    | framingError k =>
      change execFramingError k s = .next t at h
      refine hs.of_event h ?_
      split
      · exact hs
      · exact hs.onHead k _
    | unknownType k b =>
      change execUnknownType k b s = .next t at h
      exact hs.of_event h ((hs.receiveByte (hr.convertsInRange k) b).endDwellTest.reportSevere s)
    | discardQuiet k =>
      change execDiscardQuiet k s = .next t at h
      refine hs.of_event h ?_
      split
      · exact hs.onHead k _
      · exact hs
    | pulseTimerExpiry c =>
      change execPulseTimerExpiry c s = .next t at h
      exact hs.of_event h (hs.onEjector c _)
    | chutePulse c =>
      change execChutePulse c s = .next t at h
      exact hs.of_event h (hs.chutePulse c).endDwellTest
    | windowTimerExpiry c =>
      change execWindowTimerExpiry c s = .next t at h
      exact hs.of_event h (hs.windowExpiry hc c).endDwellTest
    | canRemoved g =>
      change execCanRemoved g s = .next t at h
      exact hs.of_event h (hs.onBin g _)
    | canInserted g =>
      change execCanInserted g s = .next t at h
      exact hs.of_event h (hs.onBin g _)
    | writeTransaction sdi => cases h; exact hs.endTransaction sdi
    | poll sdi => cases h; exact hs.endTransaction sdi
    | discard sdi => cases h; exact hs.endTransaction sdi
    | readTransaction sdi => cases h; exact hs.endTransaction sdi
    | transactionBegin =>
      cases h
      unfold State.beginTransaction
      split
      · split
        · exact hs.onLink _
        · exact hs.onLink _
      · exact hs
    | byteReceived k b =>
      change execByteReceived k b s = .next t at h
      exact hs.of_event h ((hs.receiveByte (hr.convertsInRange k) b).endDwellTest.reportSevere s)
    | _ => cases hf

end State.RecordsBounded

/-! ### The queue -/

theorem State.Coherent.withPending {s : State} (hc : s.Coherent) (q : List Instr) :
    State.Coherent { s with pending := q } where
  window := hc.window
  load := hc.load
  chutes := hc.chutes
  heads h :=
    let ha := hc.heads h
    ⟨ha.busy, ha.measuring, ha.probing, ha.resting, ha.record⟩
  ejecting := hc.ejecting
  sweeps := hc.sweeps
  settled := hc.settled
  still := hc.still
  kinds := hc.kinds

theorem State.SettingsInRange.withPending {s : State} (hr : s.SettingsInRange) (q : List Instr) :
    State.SettingsInRange { s with pending := q } :=
  ⟨hr.minDwell, hr.moveTimeout, hr.feedWindow, hr.calibration, hr.capacity, hr.threshold, hr.pulseWidth,
    hr.confirmWindow, hr.windowHoldsPulse, hr.pendingBank, hr.activeBank, hr.attnMask⟩

theorem State.RecordsBounded.step {s t : State} (hs : s.RecordsBounded) (hc : s.Coherent)
    (hr : s.SettingsInRange) (h : step s = .next t) : t.RecordsBounded := by
  unfold Machine.step at h
  split at h
  · cases h; exact hs
  next i rest _ =>
    have h1 : State.RecordsBounded { s with pending := rest } := hs
    exact h1.exec (hc.withPending rest) (hr.withPending rest) h

/-- Settles O57: the bounds of every record together are kept by every operation on the records, and so by every
row and every step. -/
theorem recordsStayInBounds : Obligations.RecordsStayInBounds := by
  intro s t hc hr hl hd h
  exact t.recordsBounded_iff.mp ((s.recordsBounded_iff.mpr ⟨hl, hd⟩).step hc hr h)

end Sys2Proof.Machine
end

section
/-! SUPPORT. Commands that the part hands to their blocks: what the answered row leaves, which replies are refusals,
and the operations of the host on records and on the lot (R37 to R40, R102, R138, R159, R160, R179). -/

namespace Sys2Proof.Machine

/-! ### A command handed to its block -/

/-- A command handed to its block leaves what the block returns, with its answer in the response slot (R174). -/
theorem State.Hands.exec_eq {s u : State} {i : Instr} (h : s.Hands i u) :
    exec i s = .next (replyOf i u).answered := by
  obtain ⟨hreset, f, hf, ht⟩ := h
  rw [exec_command hf, State.command_eq _ hreset hf ht]
  rfl

@[simp] theorem State.done_answered (s : State) : s.done.answered = s.answer .ok [] := rfl
@[simp] theorem State.report_answered (s : State) (payload : List Byte) :
    (s.report payload).answered = s.answer .ok payload := rfl
@[simp] theorem State.refuse_answered (s : State) (status : Status) :
    (s.refuse status).answered = s.answer status [] := rfl

/-! ### Indexes -/

theorem indexBelow_eq_some {n : Nat} {i : Byte} {k : Fin n} (h : i.toNat = k.val) : indexBelow n i = some k := by
  have hlt : i.toNat < n := h ▸ k.isLt
  simp only [indexBelow, hlt, dite_true, Option.some.injEq]
  exact Fin.ext h

theorem indexBelow_eq_none {n : Nat} {i : Byte} (h : n ≤ i.toNat) : indexBelow n i = none := by
  simp [indexBelow, Nat.not_lt.mpr h]

theorem headOf_eq_none {i : Byte} (h : 2 ≤ i.toNat) : headOf i = none := by
  unfold headOf
  split
  · omega
  · omega
  · rfl

theorem chuteOf_eq_none {i : Byte} (h : 14 ≤ i.toNat) : chuteOf i = none := by
  have h0 : ¬i.toNat < 12 := by omega
  have h1 : ¬i.toNat = 12 := by omega
  have h2 : ¬i.toNat = 13 := by omega
  simp [chuteOf, h0, h1, h2]

theorem State.withPocket_of_eq {s : State} {i : Byte} {p : Fin 24} (h : i.toNat = p.val) (act : Fin 24 → Reply) :
    s.withPocket i act = act p := by
  simp [State.withPocket, indexBelow_eq_some h]

theorem State.withPocket_of_le {s : State} {i : Byte} (h : 24 ≤ i.toNat) (act : Fin 24 → Reply) :
    s.withPocket i act = s.refuse .badIndex := by
  simp [State.withPocket, indexBelow_eq_none h]

theorem State.withBin_of_le {s : State} {i : Byte} (h : 12 ≤ i.toNat) (act : Fin 12 → Reply) :
    s.withBin i act = s.refuse .badIndex := by
  simp [State.withBin, indexBelow_eq_none h]

theorem State.withHead_of_le {s : State} {i : Byte} (h : 2 ≤ i.toNat) (act : Head → Reply) :
    s.withHead i act = s.refuse .badIndex := by
  simp [State.withHead, headOf_eq_none h]

/-! ### The answer to an index out of range (R37, R38, R40, R48, R130, R131, R134, R153, R170) -/

theorem replyReadRecipe_of_le {i : Byte} (h : 2 ≤ i.toNat) (s : State) :
    replyReadRecipe i s = s.refuse .badIndex := by
  unfold replyReadRecipe
  split
  · omega
  · omega
  · rfl

theorem replyReadCapture_of_le {i : Byte} (h : 2 ≤ i.toNat) (s : State) :
    replyReadCapture i s = s.refuse .badIndex := by
  unfold replyReadCapture
  split
  · omega
  · omega
  · rfl

theorem replyAckCapture_of_le {i : Byte} (h : 2 ≤ i.toNat) (s : State) :
    replyAckCapture i s = s.refuse .badIndex := by
  unfold replyAckCapture
  split
  · omega
  · omega
  · rfl

theorem replyReadBin_of_le {i : Byte} (h : 14 ≤ i.toNat) (s : State) :
    replyReadBin i s = s.refuse .badIndex := by
  simp [replyReadBin, chuteOf_eq_none h]

/-! ### Replies that leave the state alone -/

/-- The reply says that the command took effect, or it leaves the state it was given (R179). -/
def Reply.RefusesCleanly (r : Reply) (s : State) : Prop := r.status = .ok ∨ r.status = .clamped ∨ r.state = s

namespace Reply.RefusesCleanly

variable {s : State}

theorem done (t : State) : t.done.RefusesCleanly s := .inl rfl

theorem report (t : State) (payload : List Byte) : (t.report payload).RefusesCleanly s := .inl rfl

theorem doneClamped (t : State) (clamped : Bool) : (t.doneClamped clamped).RefusesCleanly s := by
  cases clamped
  · exact .inl rfl
  · exact .inr (.inl rfl)

theorem refuse (s : State) (status : Status) : (s.refuse status).RefusesCleanly s := .inr (.inr rfl)

theorem withHead (i : Byte) {act : Head → Reply} (h : ∀ k, (act k).RefusesCleanly s) :
    (s.withHead i act).RefusesCleanly s := by
  unfold State.withHead
  split
  · exact h _
  · exact .refuse s _

theorem withBin (i : Byte) {act : Fin 12 → Reply} (h : ∀ g, (act g).RefusesCleanly s) :
    (s.withBin i act).RefusesCleanly s := by
  unfold State.withBin
  split
  · exact h _
  · exact .refuse s _

theorem withPocket (i : Byte) {act : Fin 24 → Reply} (h : ∀ p, (act p).RefusesCleanly s) :
    (s.withPocket i act).RefusesCleanly s := by
  unfold State.withPocket
  split
  · exact h _
  · exact .refuse s _

/-- A reply with a choice between an effect and a refusal. -/
theorem ite {c : Prop} [Decidable c] {x y : Reply} (hx : x.RefusesCleanly s) (hy : y.RefusesCleanly s) :
    (if c then x else y).RefusesCleanly s := by
  split
  · exact hx
  · exact hy

theorem voidPocket (s : State) (p : Fin 24) : (s.voidPocket p).RefusesCleanly s := by
  unfold State.voidPocket
  split
  · exact .refuse s _
  · exact .done _
  · split
    case h_2 => exact .refuse s _
    all_goals exact .done _

theorem reroutePocket (s : State) (cls : Byte) (p : Fin 24) : (s.reroutePocket cls p).RefusesCleanly s := by
  unfold State.reroutePocket
  split
  · split
    · split
      · exact .done _
      · exact .refuse s _
    · exact .refuse s _
  · exact .refuse s _

theorem lotOpen (s : State) : (replyLotOpen s).RefusesCleanly s := by
  unfold replyLotOpen
  refine ite (.refuse s _) (ite (.refuse s _) (ite (.refuse s _) ?_))
  split
  · exact .inr (.inr rfl)
  · exact .done _

/-- Every block refuses a command by leaving the state as it is. -/
theorem replyOf (i : Instr) (s : State) : (replyOf i s).RefusesCleanly s := by
  cases i with
  | setDial minDwell moveTimeout startEnable => exact ite (.doneClamped _ _) (.refuse s _)
  | setFeed window => exact ite (.doneClamped _ _) (.refuse s _)
  | start sensed => exact ite (.done _) (.refuse s _)
  | stop => exact .done _
  | hold => exact .done _
  | release => exact .done _
  | readDial => exact .report _ _
  | lotOpen => exact .lotOpen s
  | lotClose => exact ite (.done _) (.refuse s _)
  | lotAbort => exact ite (.refuse s _) (.done _)
  | readLot => exact .report _ _
  | setNominal mantissa exponent => exact .doneClamped _ _
  | setMeasure mode aperture agreeLimit =>
    show (replySetMeasure mode aperture agreeLimit s).RefusesCleanly s
    unfold replySetMeasure
    split
    · exact .refuse s _
    · exact .doneClamped _ _
  | setRetest doubtMask retestLimit slot1 slot2 lapLimit =>
    show (replySetRetest doubtMask retestLimit slot1 slot2 lapLimit s).RefusesCleanly s
    unfold replySetRetest
    split
    · exact .doneClamped _ _
    · exact .refuse s _
  | setClass index lo hi guardBand primary overflow catchAll =>
    show (replySetClass index lo hi guardBand primary overflow catchAll s).RefusesCleanly s
    unfold replySetClass
    split
    · exact .doneClamped _ _
    · exact .refuse s _
  | clearClasses => exact .done _
  | setCheck interval certified driftLimit => exact .doneClamped _ _
  | copyActive => exact .done _
  | readRecipe bank =>
    show (replyReadRecipe bank s).RefusesCleanly s
    unfold replyReadRecipe
    split
    · exact .report _ _
    · exact .report _ _
    · exact .refuse s _
  | setHead head timeoutSelect => exact .withHead head fun _ => ite (.doneClamped _ _) (.refuse s _)
  | setHeadCal head range offset gain =>
    refine .withHead head fun h => ite ?_ (.refuse s _)
    split
    · exact .refuse s _
    · exact .doneClamped _ _
  | headEnable head => exact .withHead head fun _ => ite (.done _) (.refuse s _)
  | headDisable head => exact .withHead head fun _ => .done _
  | readHead head => exact .withHead head fun _ => .report _ _
  | readHeadStats head => exact .withHead head fun _ => .report _ _
  | forceDoubt head => exact .withHead head fun _ => .done _
  | setGate pulseWidth confirmWindow => exact .doneClamped _ _
  | setBin bin capacity threshold => exact .withBin bin fun _ => .doneClamped _ _
  | stall bin => exact .withBin bin fun _ => .done _
  | unstall bin => exact .withBin bin fun _ => .done _
  | readBin index =>
    show (replyReadBin index s).RefusesCleanly s
    unfold replyReadBin
    split
    · exact .report _ _
    · exact .refuse s _
  | readPocket pocket => exact .withPocket pocket fun _ => .report _ _
  | voidPocket pocket => exact .withPocket pocket (.voidPocket s)
  | reroutePocket pocket cls => exact .withPocket pocket (.reroutePocket s cls)
  | forceClass cls =>
    show (replyForceClass cls s).RefusesCleanly s
    unfold replyForceClass
    split
    · exact .done _
    · exact .refuse s _
  | requestCheck => exact ite (.done _) (.refuse s _)
  | readFaults => exact .report _ _
  | ackFaults flags => exact .done _
  | readCapture which =>
    show (replyReadCapture which s).RefusesCleanly s
    unfold replyReadCapture
    split
    · exact .report _ _
    · exact .report _ _
    · exact .refuse s _
  | ackCapture which =>
    show (replyAckCapture which s).RefusesCleanly s
    unfold replyAckCapture
    split
    · exact .done _
    · exact .done _
    · exact .refuse s _
  | setAttnMask mask => exact .done _
  | resetSort => exact ite (.done _) (.refuse s _)
  | _ => exact .refuse s _

end Reply.RefusesCleanly

/-- A row handed to its block and answered with anything but OK and CLAMPED leaves the state it was handed. -/
theorem State.Hands.eq_answer {s u t : State} {i : Instr} {status : Status} {payload : List Byte}
    (h : s.Hands i u) (ht : exec i s = .next t) (hr : t.link.state = .response ⟨status, payload⟩)
    (hok : status ≠ .ok) (hcl : status ≠ .clamped) : t = u.answer status payload := by
  rw [h.exec_eq] at ht
  cases ht
  obtain ⟨rfl, rfl⟩ : (replyOf i u).status = status ∧ (replyOf i u).payload = payload := by
    simpa [Reply.answered] using hr
  rcases Reply.RefusesCleanly.replyOf i u with h1 | h1 | h1
  · exact absurd h1 hok
  · exact absurd h1 hcl
  · rw [Reply.answered, h1]

/-- Settles O53: every block refuses by leaving its state, and every index out of range is refused. -/
theorem refusedCommandsLeaveTheState : Obligations.RefusedCommandsLeaveTheState := by
  refine ⟨fun i s u t status payload h ht hr hok hcl => h.eq_answer ht hr hok hcl, ?_⟩
  intro s u i c h hc
  have key : replyOf c u = u.refuse .badIndex := by
    rcases hc with ⟨hi, hc⟩ | ⟨hi, hc⟩ | ⟨hi, rfl⟩ | ⟨hi, hc⟩
    · rcases hc with rfl | rfl | ⟨sel, rfl⟩ | ⟨range, offset, gain, rfl⟩ | rfl | rfl | rfl | rfl | rfl | rfl
      · exact State.withHead_of_le hi _
      · exact State.withHead_of_le hi _
      · exact State.withHead_of_le hi _
      · exact State.withHead_of_le hi _
      · exact State.withHead_of_le hi _
      · exact State.withHead_of_le hi _
      · exact State.withHead_of_le hi _
      · exact replyReadRecipe_of_le hi u
      · exact replyReadCapture_of_le hi u
      · exact replyAckCapture_of_le hi u
    · rcases hc with ⟨cap, thr, rfl⟩ | rfl | rfl
      · exact State.withBin_of_le hi _
      · exact State.withBin_of_le hi _
      · exact State.withBin_of_le hi _
    · exact replyReadBin_of_le hi u
    · rcases hc with rfl | rfl | ⟨k, rfl⟩
      · exact State.withPocket_of_le hi _
      · exact State.withPocket_of_le hi _
      · exact State.withPocket_of_le hi _
  rw [h.exec_eq, key, State.refuse_answered]

end Sys2Proof.Machine
end

section
/-! SUPPORT. The host's operations on records and on the lot (R38, R40, R102, R138, R159, R160). -/

namespace Sys2Proof.Machine

/-! ### Classes named by an index -/

theorem Recipe.names_eq_some {rec : Recipe} {cls : Byte} {c : Fin 12} (h : cls.toNat = c.val)
    (hd : rec.cls c ≠ none) : rec.names cls = some c := by
  simp [Recipe.names, indexBelow_eq_some h, Option.isSome_iff_ne_none, hd]

theorem Recipe.names_eq_none {rec : Recipe} {cls : Byte}
    (h : ∀ c : Fin 12, cls.toNat = c.val → rec.cls c = none) : rec.names cls = none := by
  by_cases hlt : cls.toNat < 12
  · have hc : cls.toNat = (⟨cls.toNat, hlt⟩ : Fin 12).val := rfl
    simp [Recipe.names, indexBelow_eq_some hc, h _ hc]
  · simp [Recipe.names, indexBelow_eq_none (Nat.not_lt.mp hlt)]

/-! ### VOID_POCKET and REROUTE_POCKET by the record -/

theorem State.voidPocket_empty {s : State} {p : Fin 24} (h : s.pocket p = .empty) :
    s.voidPocket p = s.refuse .notLive := by
  simp [State.voidPocket, h]

theorem State.voidPocket_unknown {s : State} {p : Fin 24} (h : s.pocket p = .unknown) :
    s.voidPocket p = s.done := by
  simp [State.voidPocket, h]

theorem State.voidPocket_ejecting {s : State} {p : Fin 24} {r : LiveRecord} {e : Ejecting}
    (h : s.pocket p = .live r) (hp : r.phase = .ejecting e) : s.voidPocket p = s.refuse .inFlight := by
  simp [State.voidPocket, h, hp]

theorem State.voidPocket_measuring {s : State} {p : Fin 24} {r : LiveRecord} {hd : Head} {o : Bool}
    {m : Option PurgeMark} (h : s.pocket p = .live r) (hp : r.phase = .measuring hd o m) :
    s.voidPocket p = (s.setLive p { r with phase := .measuring hd o (some .voided) }).done := by
  simp [State.voidPocket, h, hp]

/-- VOID_POCKET purges a record at rest (R38). -/
theorem State.voidPocket_resting {s : State} {p : Fin 24} {r : LiveRecord} (h : s.pocket p = .live r)
    (hp : (∃ hd o, r.phase = .pending hd o) ∨ r.phase = .classified ∨ (∃ w, r.phase = .purgePending w) ∨
      r.phase = .checkDone) :
    s.voidPocket p = (s.setLive p (r.purge .voided)).done := by
  rcases hp with ⟨hd, o, hp⟩ | hp | ⟨w, hp⟩ | hp <;> simp [State.voidPocket, h, hp]

theorem State.reroutePocket_refused {s : State} {cls : Byte} {p : Fin 24}
    (h : ∀ r, s.pocket p = .live r → r.phase ≠ .classified) :
    s.reroutePocket cls p = s.refuse .refusedState := by
  unfold State.reroutePocket
  split
  next r hr =>
    split
    next hp => exact absurd hp (h r hr)
    next => rfl
  next => rfl

theorem State.reroutePocket_named {s : State} {cls : Byte} {p : Fin 24} {r : LiveRecord} {c : Fin 12}
    (h : s.pocket p = .live r) (hp : r.phase = .classified) (hn : s.banks.active.names cls = some c) :
    s.reroutePocket cls p =
      (s.setLive p { r with cls := some c, flags := { r.flags with forced := true } }).done := by
  simp [State.reroutePocket, h, hp, hn]

theorem State.reroutePocket_unnamed {s : State} {cls : Byte} {p : Fin 24} {r : LiveRecord}
    (h : s.pocket p = .live r) (hp : r.phase = .classified) (hn : s.banks.active.names cls = none) :
    s.reroutePocket cls p = s.refuse .badIndex := by
  simp [State.reroutePocket, h, hp, hn]

/-- Settles O43: each command by the state of the record, or by the class its index names. -/
theorem voidRerouteAndForce : Obligations.VoidRerouteAndForce := by
  refine ⟨fun s u i p h hi => ?_, fun s u i k p h hi => ?_, fun s u k h => ?_⟩
  · have hexec : exec (.voidPocket i) s = .next (u.voidPocket p).answered := by
      rw [h.exec_eq]
      exact congrArg (fun r : Reply => Host.Outcome.next r.answered) (State.withPocket_of_eq hi u.voidPocket)
    rw [hexec]
    refine ⟨fun hr => ?_, fun hr => ?_, fun r hr => ⟨fun ⟨e, he⟩ => ?_, fun hd o m hm => ?_, fun hp => ?_⟩⟩
    · rw [State.voidPocket_empty hr, State.refuse_answered]
    · rw [State.voidPocket_unknown hr, State.done_answered]
    · rw [State.voidPocket_ejecting hr he, State.refuse_answered]
    · rw [State.voidPocket_measuring hr hm, State.done_answered]; rfl
    · rw [State.voidPocket_resting hr hp, State.done_answered]; rfl
  · have hexec : exec (.reroutePocket i k) s = .next (u.reroutePocket k p).answered := by
      rw [h.exec_eq]
      exact congrArg (fun r : Reply => Host.Outcome.next r.answered)
        (State.withPocket_of_eq hi (u.reroutePocket k))
    rw [hexec]
    refine ⟨fun hn => ?_, fun r hr hp => ⟨fun c d hk hd => ?_, fun hn => ?_⟩⟩
    · rw [State.reroutePocket_refused hn, State.refuse_answered]
    · rw [State.reroutePocket_named hr hp (Recipe.names_eq_some hk (by simp [hd])), State.done_answered]; rfl
    · rw [State.reroutePocket_unnamed hr hp (Recipe.names_eq_none hn), State.refuse_answered]
  · have hexec : exec (.forceClass k) s = .next (replyForceClass k u).answered := h.exec_eq
    rw [hexec]
    refine ⟨fun c hk hd => ?_, fun hn => ?_⟩
    · have hnames : (u.banks.pending.names k).or (u.banks.active.names k) = some c := by
        by_cases hpend : u.banks.pending.cls c = none
        · have hother : ∀ c' : Fin 12, k.toNat = c'.val → u.banks.pending.cls c' = none := fun c' hc' => by
            rw [Fin.ext (hc'.symm.trans hk)]; exact hpend
          rw [Recipe.names_eq_none hother, Recipe.names_eq_some hk (hd.resolve_left (not_not.mpr hpend))]
          rfl
        · rw [Recipe.names_eq_some hk hpend]
          rfl
      rw [replyForceClass, hnames]
      rfl
    · rw [replyForceClass, Recipe.names_eq_none fun c hc => (hn c hc).1,
        Recipe.names_eq_none fun c hc => (hn c hc).2]
      rfl

/-! ### LOT_ABORT by the record -/

theorem LiveRecord.abort_ejecting {r : LiveRecord} {e : Ejecting} (h : r.phase = .ejecting e) : r.abort = r := by
  simp only [LiveRecord.abort, h]

theorem LiveRecord.abort_measuring {r : LiveRecord} {hd : Head} {o : Bool} {m : Option PurgeMark}
    (h : r.phase = .measuring hd o m) : r.abort = { r with phase := .measuring hd o (some .abort) } := by
  simp only [LiveRecord.abort, h]

theorem LiveRecord.abort_resting {r : LiveRecord}
    (h : (∃ hd o, r.phase = .pending hd o) ∨ r.phase = .classified ∨ (∃ w, r.phase = .purgePending w) ∨
      r.phase = .checkDone) : r.abort = { r with phase := .purgePending .abort } := by
  rcases h with ⟨hd, o, h⟩ | h | ⟨w, h⟩ | h <;> simp only [LiveRecord.abort, h] <;> rfl

/-- The records purged or marked, the feed in flight marked, and the lot DRAINING (R31, R160). -/
def State.aborted (s : State) : State :=
  ((s.mapLive fun r => .live r.abort).onFeed FeedUnit.abort).onLot fun l => { l with state := .draining }

theorem replyLotAbort_of_lot {s : State} (h : s.lot.state ≠ .noLot) :
    replyLotAbort s = (s.aborted.drainTest.reportSevere s).done := by
  rw [replyLotAbort, if_neg h]
  rfl

theorem State.aborted_pocket_live {s : State} {p : Fin 24} {r : LiveRecord} (h : s.pocket p = .live r) :
    s.aborted.pocket p = .live r.abort := by
  rw [State.aborted, State.onLot_pocket, State.onFeed_pocket, State.pocket_mapLive_live _ h]

theorem State.aborted_pocket_other {s : State} {p : Fin 24} (h : ∀ r, s.pocket p ≠ .live r) :
    s.aborted.pocket p = s.pocket p := by
  rw [State.aborted, State.onLot_pocket, State.onFeed_pocket, State.pocket_mapLive_other _ h]

theorem State.aborted_eq (s : State) :
    s.aborted =
      { s with
        pockets := s.aborted.pockets
        feed :=
          { s.feed with inFlight :=
            match s.feed.inFlight with
            | some f => some { f with aborted := true }
            | none => none }
        lot := { s.lot with state := .draining } } := by
  cases hf : s.feed.inFlight <;>
    simp only [State.aborted, State.onLot, State.onFeed, State.mapLive, FeedUnit.abort, hf] <;> rfl

/-- Settles O48: the three commands by the state of the lot. -/
theorem lotCloseAbortAndCheckRequest : Obligations.LotCloseAbortAndCheckRequest := by
  refine ⟨fun s u h => ?_, fun s u h => ⟨fun hn => ?_, fun hl => ?_⟩, fun s u h => ?_⟩
  · have hexec : exec .lotClose s = .next (replyLotClose u).answered := h.exec_eq
    rw [hexec, replyLotClose]
    split
    · rfl
    · rfl
  · have hexec : exec .lotAbort s = .next (replyLotAbort u).answered := h.exec_eq
    rw [hexec, replyLotAbort, if_pos hn, State.refuse_answered]
  · have hexec : exec .lotAbort s = .next (replyLotAbort u).answered := h.exec_eq
    refine ⟨u.aborted, fun p hp => State.aborted_pocket_other hp, fun p r hr => ?_, u.aborted_eq, ?_⟩
    · rw [State.aborted_pocket_live hr]
      exact ⟨fun e he => by rw [LiveRecord.abort_ejecting he],
        fun hd o m hm => by rw [LiveRecord.abort_measuring hm],
        fun hrest => by rw [LiveRecord.abort_resting hrest]⟩
    · rw [hexec, replyLotAbort_of_lot hl, State.done_answered]
  · have hexec : exec .requestCheck s = .next (replyRequestCheck u).answered := h.exec_eq
    rw [hexec, replyRequestCheck]
    split
    · rfl
    · rfl

end Sys2Proof.Machine
end

section
/-! SUPPORT. The nineteen flags and the two lines that follow them (R18, R95, R166, R171). -/

namespace Sys2Proof.Machine

/-! ### Flags and their numbers -/

theorem Flag.exists_number {i : Nat} (h : i < 19) : ∃ f : Flag, f.number = i := by
  interval_cases i
  exacts [⟨.dialJam, rfl⟩, ⟨.spuriousIndex, rfl⟩, ⟨.strayPart, rfl⟩, ⟨.purgeBlocked, rfl⟩, ⟨.noHead, rfl⟩,
    ⟨.estop, rfl⟩, ⟨.spill, rfl⟩, ⟨.lostPart, rfl⟩, ⟨.ejectMiss, rfl⟩, ⟨.headDrift, rfl⟩, ⟨.headLost, rfl⟩,
    ⟨.headSubstituted, rfl⟩, ⟨.feederStarved, rfl⟩, ⟨.checkStarved, rfl⟩, ⟨.gateBlocked, rfl⟩,
    ⟨.binNearFull, rfl⟩, ⟨.binFull, rfl⟩, ⟨.passedUnsorted, rfl⟩, ⟨.recordsUnknown, rfl⟩]

theorem Flag.number_injective {f k : Flag} (h : f.number = k.number) : f = k := by
  have hidx : ∀ x : Flag, x.number = x.ctorIdx := fun x => by cases x <;> rfl
  rw [← Flag.ofNat_ctorIdx f, ← Flag.ofNat_ctorIdx k, ← hidx, ← hidx, h]

/-- The set holding one flag holds no other. -/
theorem Flag.getLsbD_bit (f k : Flag) : f.bit.getLsbD k.number = decide (k = f) := by
  have hlt : ∀ x : Flag, x.number < 19 := fun x => by cases x <;> decide
  have hiff : k = f ↔ k.number = f.number := ⟨congrArg _, Flag.number_injective⟩
  rw [Flag.bit, BitVec.getLsbD_shiftLeft, BitVec.getLsbD_one, Bool.eq_iff_iff]
  simp only [Bool.and_eq_true, Bool.not_eq_true', decide_eq_true_eq, decide_eq_false_iff_not, hiff]
  have := hlt k
  omega

/-- The severe flags are those numbered 0 to 5. -/
theorem Flag.severe_iff (f : Flag) : severeFlags.getLsbD f.number = true ↔ f.number ≤ 5 := by
  cases f <;> decide

/-- The attention flags are those numbered 6 to 18. -/
theorem Flag.attention_iff (f : Flag) : attentionFlags.getLsbD f.number = true ↔ 6 ≤ f.number := by
  cases f <;> decide

/-- A set of flags is not empty when it holds some flag. -/
theorem FlagSet.ne_zero_iff (x : FlagSet) : x ≠ 0#19 ↔ ∃ f : Flag, x.getLsbD f.number = true := by
  constructor
  · intro h
    by_contra hn
    refine h (BitVec.eq_of_getLsbD_eq fun i hi => ?_)
    obtain ⟨f, rfl⟩ := Flag.exists_number hi
    rw [BitVec.getLsbD_zero]
    exact Bool.eq_false_iff.mpr fun hf => hn ⟨f, hf⟩
  · rintro ⟨f, hf⟩ rfl
    simp at hf

/-! ### Each flag -/

theorem State.flagSet_eq (s : State) (f : Flag) :
    s.flagSet f =
      (s.faults.events.getLsbD f.number && eventFlags.getLsbD f.number || s.conditionFlags.getLsbD f.number) := by
  simp only [State.flagSet, State.flags, BitVec.getLsbD_or, BitVec.getLsbD_and]

theorem Flag.getLsbD_ite_bit (c : Bool) (f k : Flag) :
    (if c then f.bit else 0#19).getLsbD k.number = (c && decide (k = f)) := by
  cases c
  · simp
  · simpa using Flag.getLsbD_bit f k

/-- A condition flag stands with its condition (R166). -/
theorem State.getLsbD_conditionFlags (s : State) (k : Flag) :
    s.conditionFlags.getLsbD k.number =
      (s.noHead && decide (k = .noHead) || s.lines.estop && decide (k = .estop) ||
        s.recordsUnknown && decide (k = .recordsUnknown)) := by
  simp only [State.conditionFlags, BitVec.getLsbD_or, Flag.getLsbD_ite_bit]

theorem eventFlags_getLsbD (k : Flag) :
    eventFlags.getLsbD k.number = (k != .noHead && k != .estop && k != .recordsUnknown) := by
  cases k <;> decide

theorem State.flagSet_noHead (s : State) : s.flagSet .noHead = s.noHead := by
  simp [State.flagSet_eq, eventFlags_getLsbD, State.getLsbD_conditionFlags]

theorem State.flagSet_estop (s : State) : s.flagSet .estop = s.lines.estop := by
  simp [State.flagSet_eq, eventFlags_getLsbD, State.getLsbD_conditionFlags]

theorem State.flagSet_recordsUnknown (s : State) : s.flagSet .recordsUnknown = s.recordsUnknown := by
  simp [State.flagSet_eq, eventFlags_getLsbD, State.getLsbD_conditionFlags]

/-- A flag that is no condition is the event flag stored. -/
theorem State.flagSet_event (s : State) {f : Flag} (h1 : f ≠ .recordsUnknown) (h2 : f ≠ .estop)
    (h3 : f ≠ .noHead) : s.flagSet f = s.faults.events.getLsbD f.number := by
  simp [State.flagSet_eq, eventFlags_getLsbD, State.getLsbD_conditionFlags, h1, h2, h3]

/-! ### The conditions and the lines -/

theorem State.noHead_iff (s : State) :
    s.noHead = true ↔ s.lot.state = .open_ ∧ ∀ h, s.inService h = false := by
  simp only [State.noHead, Bool.and_eq_true, beq_iff_eq, Bool.not_eq_true', and_assoc, and_congr_right_iff]
  intro _
  exact ⟨fun ⟨ha, hb⟩ h => by cases h <;> assumption, fun h => ⟨h .a, h .b⟩⟩

theorem State.anySevere_iff (s : State) :
    s.anySevere = true ↔ ∃ f : Flag, f.number ≤ 5 ∧ s.flagSet f = true := by
  simp only [State.anySevere, bne_iff_ne, FlagSet.ne_zero_iff, BitVec.getLsbD_and, Bool.and_eq_true,
    Flag.severe_iff, State.flagSet, and_comm]

theorem State.attention_iff (s : State) :
    s.flags &&& s.faults.attnMask &&& attentionFlags ≠ 0#19 ↔
      ∃ f : Flag, 6 ≤ f.number ∧ s.flagSet f = true ∧ s.faults.attnMask.getLsbD f.number = true := by
  simp only [FlagSet.ne_zero_iff, BitVec.getLsbD_and, Bool.and_eq_true, Flag.attention_iff, State.flagSet]
  exact exists_congr fun f => by rw [and_comm]

/-- Settles O5: each flag read from the set, and the lines from the flags. -/
theorem conditionFlagsAndLines : Obligations.ConditionFlagsAndLines := by
  intro s
  refine ⟨?_, ?_, ?_, fun f h1 h2 h3 => s.flagSet_event h1 h2 h3, s.anySevere_iff, fun hr => ?_, fun hr => ?_⟩
  · rw [State.flagSet_recordsUnknown, State.recordsUnknown_iff]
  · rw [State.flagSet_estop]
  · rw [State.flagSet_noHead, State.noHead_iff]
  · simp [State.holdLine, hr]
  · rw [← State.attention_iff]
    simp [State.attnLine, hr]

end Sys2Proof.Machine
end

section
/-! SUPPORT. The arrivals at LOAD, the ejecting stations and EC (R27, R28, R33, R34, R36, R107, R111, R118). -/

namespace Sys2Proof.Machine

/-! ### The pocket at a station -/

/-- The pocket under LOAD is D (R2). -/
theorem State.pocketAt_load (s : State) : s.pocketAt Config.offsetLoad = s.dial.position := by
  have := s.dial.position.isLt
  apply Fin.ext
  simp only [State.pocketAt, Config.offsetLoad]
  omega

/-- The pocket at an offset is the one that stands at that offset (R2, R37). -/
theorem State.pocketAt_of_offsetOf {s : State} {p : Fin 24} {k : Nat} (hk : k < 24) (h : s.offsetOf p = k) :
    s.pocketAt k = p := by
  have := s.dial.position.isLt
  have := p.isLt
  apply Fin.ext
  simp only [State.pocketAt, State.offsetOf] at *
  omega

/-! ### LOAD -/

theorem State.arriveLoad_empty {s : State} (h : s.pocket s.dial.position = .empty) :
    s.arriveLoad =
      if s.lot.state = .open_ ∧ s.flagSet .noHead = false then s.beginFeed s.dial.position else s := by
  simp only [State.arriveLoad, State.pocketAt_load, h, State.flagSet_noHead, Bool.and_eq_true, beq_iff_eq,
    Bool.not_eq_true']

theorem State.arriveLoad_unknown {s : State} (h : s.pocket s.dial.position = .unknown) : s.arriveLoad = s := by
  simp only [State.arriveLoad, State.pocketAt_load, h]

/-- A record that waits for a station, is CLASSIFIED, or is CHECK_DONE counts its lap at LOAD (R27). -/
theorem State.arriveLoad_counts {s : State} {r : LiveRecord} (h : s.pocket s.dial.position = .live r)
    (hp : (∃ hd o, r.phase = .pending hd o) ∨ r.phase = .classified ∨ r.phase = .checkDone) :
    s.arriveLoad = s.setLive s.dial.position (s.banks.active.countLap r) := by
  rcases hp with ⟨hd, o, hp⟩ | hp | hp <;> simp only [State.arriveLoad, State.pocketAt_load, h, hp]

theorem State.arriveLoad_passes {s : State} {r : LiveRecord} (h : s.pocket s.dial.position = .live r)
    (hp : ¬((∃ hd o, r.phase = .pending hd o) ∨ r.phase = .classified ∨ r.phase = .checkDone)) :
    s.arriveLoad = s := by
  cases hphase : r.phase with
  | pending hd o => exact absurd (.inl ⟨hd, o, hphase⟩) hp
  | classified => exact absurd (.inr (.inl hphase)) hp
  | checkDone => exact absurd (.inr (.inr hphase)) hp
  | measuring => simp only [State.arriveLoad, State.pocketAt_load, h, hphase]
  | ejecting => simp only [State.arriveLoad, State.pocketAt_load, h, hphase]
  | purgePending => simp only [State.arriveLoad, State.pocketAt_load, h, hphase]

/-- Settles O17: the arrival at LOAD by the record that stands there. -/
theorem loadArrival : Obligations.LoadArrival := by
  refine ⟨fun s h hl hn => ?_, fun s h hl => ?_, fun s h => State.arriveLoad_unknown h, fun s r h hp => ?_,
    fun s r h hp => State.arriveLoad_passes h hp⟩
  · rw [State.arriveLoad_empty h, if_pos ⟨hl, hn⟩]
    rfl
  · rw [State.arriveLoad_empty h, if_neg]
    rintro ⟨hopen, hno⟩
    rcases hl with hl | hl
    · exact hl hopen
    · simp [hno] at hl
  · rw [State.arriveLoad_counts h hp, Recipe.countLap_eq]
    rfl

/-! ### The gates -/

theorem Bin.isOpen_iff (b : Bin) : b.isOpen = true ↔ b.Open := by
  simp only [Bin.isOpen, Bool.and_eq_true, Bool.not_eq_true', decide_eq_true_eq]
  exact ⟨fun ⟨⟨⟨h1, h2⟩, h3⟩, h4⟩ => ⟨h1, h2, h3, h4⟩,
    fun h => ⟨⟨⟨h.present, h.notStalled⟩, h.notBlocked⟩, h.notFull⟩⟩

theorem State.routes_iff (s : State) (g : Fin 12) (c : ClassDef) : s.routes g c = true ↔ s.takesClass g c := by
  simp only [State.routes, State.takesClass, Bool.and_eq_true, Bool.or_eq_true, beq_iff_eq, Bool.not_eq_true',
    Bool.eq_false_iff, ne_eq, Bin.isOpen_iff]

/-- A firing that writes a record, as one record update (R119). -/
theorem State.afterFiring_live (s : State) (c : Chute) (p : Fin 24) (sweep : Bool) (r : LiveRecord) :
    s.afterFiring c p sweep (.live r) = (s.fireEjector c p sweep).setLive p r := rfl

/-- A firing that leaves the record as it is (R36). -/
theorem State.afterFiring_same {s : State} {p : Fin 24} {x : PocketRecord} (h : s.pocket p = x) (c : Chute)
    (sweep : Bool) : s.afterFiring c p sweep x = s.fireEjector c p sweep := by
  subst h
  have hset : s.pockets.set p.val (s.pocket p) = s.pockets := Vector.set_getElem_self _
  rw [State.afterFiring, hset]
  rfl

theorem State.arriveGate_takes {s : State} {p : Fin 24} {g : Fin 12} {r : LiveRecord} {k : Fin 12} {c : ClassDef}
    (ho : s.offsetOf p = 8 + g.val) (hr : s.pocket p = .live r) (hp : r.phase = .classified)
    (hk : r.cls = some k) (hc : s.banks.active.cls k = some c) (ht : s.takesClass g c) :
    s.arriveGate g = s.afterFiring (.gate g) p false (.live { r with phase := .ejecting (.gate g) }) := by
  have hat : s.pocketAt (Config.offsetChute (.gate g)) = p :=
    State.pocketAt_of_offsetOf (by simp only [Config.offsetChute]; omega) ho
  simp only [State.arriveGate, hat, hr, hp, hk, hc, (s.routes_iff g c).mpr ht, if_true,
    State.afterFiring_live]

theorem State.arriveGate_passes {s : State} {p : Fin 24} {g : Fin 12} (ho : s.offsetOf p = 8 + g.val)
    (hn : ¬∃ r k c, s.pocket p = .live r ∧ r.phase = .classified ∧ r.cls = some k ∧
      s.banks.active.cls k = some c ∧ s.takesClass g c) : s.arriveGate g = s := by
  have hat : s.pocketAt (Config.offsetChute (.gate g)) = p :=
    State.pocketAt_of_offsetOf (by simp only [Config.offsetChute]; omega) ho
  simp only [State.arriveGate, hat]
  split
  next r hr =>
    split
    next k hp hk =>
      split
      next c hc =>
        exact if_neg fun ht => hn ⟨r, k, c, hr, hp, hk, hc, (s.routes_iff g c).mp ht⟩
      next => rfl
    next => rfl
  next => rfl

/-! ### CR and PG -/

/-- A CLASSIFIED record passed unsorted, as one record update (R111, R154). -/
theorem State.passUnsorted_eq (s : State) (r : LiveRecord) :
    s.passUnsorted r =
      { s with
        lot :=
          if r.kind = .part ∧ s.isCurrentLot r.lot = true then
            { s.lot with counters :=
              { s.lot.counters with passedUnsorted := min 4294967295 (s.lot.counters.passedUnsorted + 1) } }
          else s.lot
        faults :=
          { s.faults with
            events := s.faults.events ||| 0x20000#19
            unsortedClasses :=
              s.faults.unsortedClasses |||
                (match r.cls with
                  | some k => 1#12 <<< k.val
                  | none => 0#12) } } := by
  rw [State.passUnsorted, State.reportPart_eq]
  cases hc : r.cls with
  | some k => rfl
  | none =>
    simp only [BitVec.or_zero]
    rfl

theorem State.pocketAt_checkReturn {s : State} {p : Fin 24} (h : s.offsetOf p = 20) :
    s.pocketAt (Config.offsetChute .checkReturn) = p := State.pocketAt_of_offsetOf (by decide) h

theorem State.pocketAt_purge {s : State} {p : Fin 24} (h : s.offsetOf p = 21) :
    s.pocketAt (Config.offsetChute .purge) = p := State.pocketAt_of_offsetOf (by decide) h

theorem State.arriveCheckReturn_passes {s : State} {p : Fin 24} (h : s.offsetOf p = 20)
    (hn : ∀ r, s.pocket p = .live r → r.phase ≠ .checkDone ∧ r.phase ≠ .classified) :
    s.arriveCheckReturn = s := by
  simp only [State.arriveCheckReturn, State.pocketAt_checkReturn h]
  split
  next r hr =>
    split
    next hp => exact absurd hp (hn r hr).1
    next hp => exact absurd hp (hn r hr).2
    next => rfl
  next => rfl

theorem State.arrivePurge_passes {s : State} {p : Fin 24} (h : s.offsetOf p = 21) (hu : s.pocket p ≠ .unknown)
    (hn : ∀ r reason, s.pocket p = .live r → r.phase ≠ .purgePending reason) : s.arrivePurge = s := by
  simp only [State.arrivePurge, State.pocketAt_purge h]
  split
  next hr => exact absurd hr hu
  next => rfl
  next r hr =>
    split
    next reason hp => exact absurd hp (hn r reason hr)
    next => rfl

/-! ### EC -/

theorem State.pocketAt_emptyCheck {s : State} {p : Fin 24} (h : s.offsetOf p = 22) :
    s.pocketAt Config.offsetEmptyCheck = p := State.pocketAt_of_offsetOf (by decide) h

/-- A stray part found, as one record update (R33, R34). -/
theorem State.strayPart_eq (s : State) (p : Fin 24) :
    s.strayPart p =
      { s with
        pockets := (s.pockets.set p.val .unknown)
        faults :=
          { s.faults with
            events := s.faults.events ||| 4#19
            pocketCapture :=
              takePocketOffer s.faults.pocketCapture
                { kind := .strayPart, pocket := p, lot := 0, serial := 0, station := 22, cls := none } } } := rfl

/-- A lost part found, as one record update (R33, R34, R154). -/
theorem State.lostPart_eq (s : State) (p : Fin 24) (r : LiveRecord) :
    s.lostPart p r =
      { s with
        pockets := (s.pockets.set p.val .empty)
        lot :=
          if r.kind = .part ∧ s.isCurrentLot r.lot = true then
            { s.lot with counters := { s.lot.counters with lost := min 4294967295 (s.lot.counters.lost + 1) } }
          else s.lot
        faults :=
          { s.faults with
            events := s.faults.events ||| 0x80#19
            pocketCapture :=
              takePocketOffer s.faults.pocketCapture
                { kind := .lostPart, pocket := p, lot := r.lot, serial := r.serial, station := 22,
                  cls := r.cls } } } := by
  rw [State.lostPart, State.reportPart_eq]
  rfl

theorem State.arriveEmptyCheck_lost {s : State} {p : Fin 24} {r : LiveRecord} (h : s.offsetOf p = 22)
    (hr : s.pocket p = .live r) (hm : ∀ hd o m, r.phase ≠ .measuring hd o m)
    (he : ∀ e, r.phase ≠ .ejecting e) :
    s.arriveEmptyCheck false = (s.lostPart p r).drainTest := by
  simp only [State.arriveEmptyCheck, State.pocketAt_emptyCheck h, hr]
  split
  next hd o m hp => exact absurd hp (hm hd o m)
  next e hp => exact absurd hp (he e)
  all_goals rfl

theorem State.arriveEmptyCheck_inWork {s : State} {p : Fin 24} {r : LiveRecord} (h : s.offsetOf p = 22)
    (hr : s.pocket p = .live r) (hp : (∃ hd o m, r.phase = .measuring hd o m) ∨ ∃ e, r.phase = .ejecting e) :
    s.arriveEmptyCheck false = s := by
  rcases hp with ⟨hd, o, m, hp⟩ | ⟨e, hp⟩ <;>
    simp only [State.arriveEmptyCheck, State.pocketAt_emptyCheck h, hr, hp]

theorem State.arriveEmptyCheck_sensed {s : State} {p : Fin 24} (h : s.offsetOf p = 22)
    (hp : s.pocket p ≠ .empty) : s.arriveEmptyCheck true = s := by
  cases hr : s.pocket p with
  | empty => exact absurd hr hp
  | unknown => simp only [State.arriveEmptyCheck, State.pocketAt_emptyCheck h, hr]
  | live r => simp only [State.arriveEmptyCheck, State.pocketAt_emptyCheck h, hr]

/-- Settles O37: each station's arrival by the record that stands there. -/
theorem ejectorAndEmptyCheckArrivals : Obligations.EjectorAndEmptyCheckArrivals := by
  intro s p
  refine ⟨fun g ho => ⟨fun r k c hr hp hk hc ht => State.arriveGate_takes ho hr hp hk hc ht,
    State.arriveGate_passes ho⟩, fun ho => ⟨fun r hr hp => ?_, fun r hr hp => ?_,
    State.arriveCheckReturn_passes ho⟩, fun ho => ⟨fun hr => ?_, fun r reason hr hp => ?_,
    fun ⟨hu, hn⟩ => State.arrivePurge_passes ho hu hn⟩, fun ho => ⟨fun hr => ?_, fun r hr hm he => ?_,
    fun hr => ?_, fun hr => ?_, State.arriveEmptyCheck_sensed ho,
    fun r hr hp => State.arriveEmptyCheck_inWork ho hr hp⟩⟩
  · simp only [State.arriveCheckReturn, State.pocketAt_checkReturn ho, hr, hp, State.afterFiring_live]
  · simp only [State.arriveCheckReturn, State.pocketAt_checkReturn ho, hr, hp]
    exact s.passUnsorted_eq r
  · simp only [State.arrivePurge, State.pocketAt_purge ho, hr, State.afterFiring_same hr]
  · simp only [State.arrivePurge, State.pocketAt_purge ho, hr, hp, State.afterFiring_live]
  · simp only [State.arriveEmptyCheck, State.pocketAt_emptyCheck ho, hr, State.strayPart_eq]
  · rw [State.arriveEmptyCheck_lost ho hr hm he, State.lostPart_eq]
  · simp only [State.arriveEmptyCheck, State.pocketAt_emptyCheck ho, hr]
    rfl
  · simp only [State.arriveEmptyCheck, State.pocketAt_emptyCheck ho, hr]

end Sys2Proof.Machine
end

section
/-! SUPPORT. A RESULT that is awaited, for a record that is marked or recalled (R24, R55, R57, R146, R148). -/

namespace Sys2Proof.Machine

/-- The head record after a RESULT taken, in the terms the statements use: no doubtful reading, no one-shot used
(R55). -/
theorem HeadUnit.resultTaken_eq (u : HeadUnit) : u.resultTaken = u.afterResult false false := by
  simp [HeadUnit.resultTaken, HeadUnit.afterResult, HeadUnit.endRequest, HeadUnit.onCounters, count16, bump,
    satAdd, Config.maxCount16]

/-- The part after the head has taken a RESULT and before its reading is handed on (R3, R55). -/
def State.resultIn (s : State) (h : Head) : State := (s.onHead h HeadUnit.resultTaken).leaveBusy (.head h)

/-- An awaited RESULT completes the measurement, and then the dwell may end (R47, R55). -/
theorem State.Awaits.exec_result {s : State} {h : Head} {p : Fin 24} {range : Fin 7} (ha : s.Awaits h p range)
    (code : BitVec 24) (status : Byte) :
    exec (.result h (BitVec.ofNat 8 p.val) code status) s =
      .next ((s.resultIn h).handReading h p range (some (code, status))).endDwellTest := by
  obtain ⟨hreset, hidle, ⟨aperture, hreq⟩, htimer⟩ := ha
  have hframe : s.receiveFrame h (.result (BitVec.ofNat 8 p.val) code status) =
      (s.resultIn h).handReading h p range (some (code, status)) := by
    simp only [State.receiveFrame, hidle, State.takeHeadFrame, hreq, htimer, beq_self_eq_true, Bool.and_self,
      if_true]
    rfl
  show execResult h (BitVec.ofNat 8 p.val) code status s = _
  rw [execResult, State.event_eq _ hreset, hframe]

/-- A reading of a record that carries a purge mark is discarded, and the mark is applied (R24). -/
theorem State.handReading_marked {s : State} {h : Head} {p : Fin 24} {r : LiveRecord} {openPair : Bool}
    {v : PurgeMark} (hr : s.pocket p = .live r) (hp : r.phase = .measuring h openPair (some v)) (range : Fin 7)
    (raw : Option (BitVec 24 × Byte)) :
    s.handReading h p range raw = s.setLive p (r.clearRecallPending.purge v.reason) := by
  simp only [State.handReading, hr, hp, if_true]

/-- A reading of a record that carries RECALL_PENDING and no mark is discarded, and the recall is applied (R24,
R146). -/
theorem State.handReading_recalled {s : State} {h : Head} {p : Fin 24} {r : LiveRecord} {openPair : Bool}
    (hr : s.pocket p = .live r) (hp : r.phase = .measuring h openPair none) (hq : r.flags.recallPending = true)
    (range : Fin 7) (raw : Option (BitVec 24 × Byte)) :
    s.handReading h p range raw = s.applyRecall p r h := by
  simp only [State.handReading, hr, hp, hq, if_true]

/-- The head that has taken its RESULT is READY, and so in service. -/
theorem State.inService_resultIn (s : State) (h : Head) : (s.resultIn h).inService h = true := by
  simp [State.resultIn, State.inService, HeadUnit.resultTaken, HeadUnit.endRequest, HeadUnit.onCounters,
    HeadState.inService]

theorem State.resultIn_eq (s : State) (h : Head) :
    s.resultIn h =
      { s with
        heads := s.heads.set h ((s.head h).afterResult false false)
        dial := { s.dial with busy := s.dial.busy.set (Station.head h).index.val false } } := by
  rw [← HeadUnit.resultTaken_eq]
  rfl

/-- The recall applied at the end of a measurement whose head is in service (R145, R146). -/
theorem LiveRecord.recallTo_inService (r : LiveRecord) (h : Head) :
    r.clearRecallPending.recallTo h true =
      if r.flags.recalled then
        { r with flags := { r.flags with recallPending := false }, phase := .purgePending .recall }
      else
        { r with
          readings := [], attempts := 0, grading := none, cls := none
          flags := { r.flags with recallPending := false, recalled := true }
          phase := .pending h false } := by
  cases hrec : r.flags.recalled <;>
    simp [LiveRecord.recallTo, LiveRecord.clearRecallPending, LiveRecord.sendBack, LiveRecord.purge, hrec]

/-- Settles O34: the RESULT completes the measurement, and the record takes what its mark or its recall says. -/
theorem markedAndRecalledReadings : Obligations.MarkedAndRecalledReadings := by
  intro s h p range r openPair mark code status ha hr hp
  have hr' : (s.resultIn h).pocket p = .live r := hr
  rw [ha.exec_result]
  refine ⟨fun v hv => ?_, fun hn hq => ?_⟩
  · subst hv
    rw [State.handReading_marked hr' hp, State.resultIn_eq]
    cases v <;> rfl
  · subst hn
    rw [State.handReading_recalled hr' hp hq, State.applyRecall, State.inService_resultIn,
      LiveRecord.recallTo_inService, State.reportPart_eq, State.resultIn_eq]
    rfl

end Sys2Proof.Machine
end

section
/-! SUPPORT. The READ_POCKET payload: its fields by their place (R37, section 11.4). -/

namespace Sys2Proof.Machine

/-! ### Sets of bits and runs of equal parts -/

theorem packBits_lt (bs : List Bool) : packBits bs < 2 ^ bs.length := by
  induction bs with
  | nil => simp [packBits]
  | cons b bs ih =>
    have := b.toNat_le
    rw [packBits, List.length_cons, pow_succ]
    omega

@[simp] theorem testBit_packBits (bs : List Bool) (i : Nat) : (packBits bs).testBit i = bs.getD i false := by
  induction bs generalizing i with
  | nil => simp [packBits]
  | cons b bs ih =>
    cases i with
    | zero =>
      rw [packBits, Nat.testBit_zero]
      cases b <;> simp
    | succ i =>
      rw [packBits, Nat.testBit_succ]
      have hdiv : (b.toNat + 2 * packBits bs) / 2 = packBits bs := by
        have := b.toNat_le
        have : b.toNat < 2 := by omega
        omega
      rw [hdiv, ih, List.getD_cons_succ]

@[simp] theorem numBE_signedBE_four (x : Int) : numBE (signedBE 4 x) = (BitVec.ofInt 32 x).toNat := by
  rw [signedBE, numBE_bytesBE]
  exact Nat.mod_eq_of_lt (BitVec.ofInt 32 x).isLt

@[simp] theorem numBE_singleton (b : Byte) : numBE [b] = b.toNat := by simp [numBE]

/-- A field that lies in the first of two parts. -/
theorem fieldAt_of_append {xs ys : List Byte} {k n : Nat} (h : k + n ≤ xs.length) :
    fieldAt (xs ++ ys) k n = fieldAt xs k n := by
  have hk : k ≤ xs.length := by omega
  have hn : n ≤ (xs.drop k).length := by rw [List.length_drop]; omega
  rw [fieldAt, fieldAt, List.drop_append_of_le_length hk, List.take_append_of_le_length hn]

/-- A field that is the `i`th of a run of parts whose lengths are known. -/
theorem fieldAt_flatten {ps : List (List Byte)} {lens : List Nat} (hl : ps.map List.length = lens) (i : Nat)
    {x : List Byte} {n : Nat} (hx : ps[i]? = some x) (hn : lens[i]? = some n) :
    fieldAt ps.flatten (lens.take i).sum n = numBE x := by
  induction ps generalizing lens i with
  | nil => simp at hx
  | cons y ys ih =>
    subst hl
    cases i with
    | zero =>
      obtain rfl : y = x := by simpa using hx
      obtain rfl : y.length = n := by simpa using hn
      rw [List.flatten_cons]
      exact fieldAt_append_left rfl
    | succ i =>
      rw [List.flatten_cons, List.map_cons, List.take_succ_cons, List.sum_cons,
        fieldAt_append_right (Nat.le_add_right _ _), Nat.add_sub_cancel_left]
      exact ih rfl i (by simpa using hx) (by simpa using hn)

/-- A field of the `k`th of a run of parts of equal length. -/
theorem fieldAt_flatMap {α : Type} {f : α → List Byte} {len : Nat} (hf : ∀ x, (f x).length = len)
    {l : List α} {k : Nat} {x : α} (hx : l[k]? = some x) {j n : Nat} (hj : j + n ≤ len) :
    fieldAt (l.flatMap f) (len * k + j) n = fieldAt (f x) j n := by
  induction l generalizing k with
  | nil => simp at hx
  | cons y ys ih =>
    rw [List.flatMap_cons]
    cases k with
    | zero =>
      obtain rfl : y = x := by simpa using hx
      rw [Nat.mul_zero, Nat.zero_add, fieldAt_of_append (by rw [hf]; exact hj)]
    | succ k =>
      have hskip : len * (k + 1) + j - len = len * k + j := by rw [Nat.mul_succ]; omega
      rw [fieldAt_append_right (by rw [hf, Nat.mul_succ]; omega), hf, hskip]
      exact ih (by simpa using hx)

/-! ### The parts of the payload -/

@[simp] theorem Reading.payload_length (x : Reading) : x.payload.length = 12 := by
  cases hs : x.sample <;> simp [Reading.payload, hs]

/-! ### The fields of a reading -/

/-- The flags of a reading, bit 0 first (R20). -/
def Reading.flagBits (x : Reading) : List Bool :=
  [x.sample.isSome, x.sample.isSome, x.isSaturated, x.doubtful, x.forced]

theorem Reading.flagBits_lt (x : Reading) : packBits x.flagBits < 32 :=
  (packBits_lt _).trans_eq (by norm_num [Reading.flagBits])

/-- The parts of a reading's payload (R20). -/
def Reading.parts (x : Reading) : List (List Byte) :=
  [byte1 (headCode x.head), byte1 (packBits x.flagBits), bytesBE 3 (x.sample.elim 0 fun v => v.code.toNat),
    [x.sample.elim 0#8 fun v => v.status], signedBE 4 (x.sample.elim 0 fun v => v.deviation), bytes16 x.epoch]

theorem Reading.payload_eq (x : Reading) : x.payload = x.parts.flatten := by
  cases hs : x.sample <;> simp [Reading.payload, Reading.parts, Reading.flagBits, Reading.isSaturated, hs]

theorem Reading.parts_lengths (x : Reading) : x.parts.map List.length = [1, 1, 3, 1, 4, 2] := by
  simp [Reading.parts]

theorem Reading.fieldAt_head (x : Reading) : fieldAt x.payload 0 1 = headCode x.head := by
  rw [x.payload_eq]
  refine (fieldAt_flatten x.parts_lengths 0 rfl rfl).trans ?_
  rw [numBE_byte1]
  cases x.head <;> rfl

/-- A set of fewer than nine bits written in one byte. -/
theorem packBits_mod_byte {bs : List Bool} (h : bs.length ≤ 8) : packBits bs % 256 = packBits bs :=
  Nat.mod_eq_of_lt ((packBits_lt bs).trans_le (Nat.pow_le_pow_right (by decide) h))

theorem Reading.fieldAt_flags (x : Reading) : fieldAt x.payload 1 1 = packBits x.flagBits := by
  rw [x.payload_eq]
  refine (fieldAt_flatten x.parts_lengths 1 rfl rfl).trans ?_
  rw [numBE_byte1, packBits_mod_byte (by simp [Reading.flagBits])]

theorem Reading.fieldAt_code (x : Reading) :
    fieldAt x.payload 2 3 = x.sample.elim 0 fun v => v.code.toNat := by
  have hlt : (x.sample.elim 0 fun v => v.code.toNat) < 256 ^ 3 := by
    cases x.sample with
    | none => simp
    | some v => exact v.code.isLt
  rw [x.payload_eq]
  refine (fieldAt_flatten x.parts_lengths 2 rfl rfl).trans ?_
  rw [numBE_bytesBE, Nat.mod_eq_of_lt hlt]

theorem Reading.fieldAt_status (x : Reading) :
    fieldAt x.payload 5 1 = (x.sample.elim 0#8 fun v => v.status).toNat := by
  rw [x.payload_eq]
  exact (fieldAt_flatten x.parts_lengths 3 rfl rfl).trans (numBE_singleton _)

theorem Reading.fieldAt_deviation (x : Reading) :
    fieldAt x.payload 6 4 = (BitVec.ofInt 32 (x.sample.elim 0 fun v => v.deviation)).toNat := by
  rw [x.payload_eq]
  exact (fieldAt_flatten x.parts_lengths 4 rfl rfl).trans (numBE_signedBE_four _)

theorem Reading.fieldAt_epoch (x : Reading) : fieldAt x.payload 10 2 = x.epoch.toNat := by
  rw [x.payload_eq]
  exact (fieldAt_flatten x.parts_lengths 5 rfl rfl).trans (numBE_bytes16 _)

/-! ### The fields of a live record -/

/-- The deciding heads as READ_POCKET gives them. -/
def decidersCode : Option Grading → Nat
  | some ⟨_, .one .a _⟩ => 1
  | some ⟨_, .one .b _⟩ => 2
  | some ⟨_, .both _ _⟩ => 3
  | none => 0

/-- The epoch of a head as READ_POCKET gives it: 0 for a head that does not decide. -/
def decidingEpoch (h : Head) : Option Grading → BitVec 16
  | some ⟨_, .one k e⟩ => if k = h then e else 0#16
  | some ⟨_, .both a b⟩ => if h = .a then a else b
  | none => 0#16

theorem gradingPayload_eq (g : Option Grading) :
    gradingPayload g =
      [signedBE 4 (g.elim 0 fun v => v.deviation), byte1 (decidersCode g), bytes16 (decidingEpoch .a g),
        bytes16 (decidingEpoch .b g)].flatten := by
  rcases g with _ | ⟨dev, ⟨h, e⟩ | ⟨a, b⟩⟩
  · simp [gradingPayload, decidersCode, decidingEpoch]
  · cases h <;> simp [gradingPayload, Deciders.payload, decidersCode, decidingEpoch]
  · simp [gradingPayload, Deciders.payload, decidersCode, decidingEpoch]

/-- The parts of the READ_POCKET payload of a live record, the readings last (section 11.4). -/
def State.pocketParts (s : State) (p : Fin 24) (r : LiveRecord) : List (List Byte) :=
  [byte1 p.val, byte1 (s.offsetOf p), byte1 r.phase.code, bytesBE 2 (packBits r.presence), byte1 r.kind.code,
    bytesBE 2 r.lot, bytesBE 3 r.serial, byte1 r.lap, byte1 r.attempts, byte1 (packBits r.flagBits),
    byte1 (fieldCode (r.phase.nextHead.or r.phase.measuringHead) headCode),
    byte1 (fieldCode r.phase.mark PurgeMark.code), signedBE 4 (r.grading.elim 0 fun v => v.deviation),
    byte1 (decidersCode r.grading), bytes16 (decidingEpoch .a r.grading), bytes16 (decidingEpoch .b r.grading),
    byte1 (fieldCode r.cls Fin.val), byte1 (fieldCode r.phase.ejectStation Config.offsetChute),
    byte1 (fieldCode r.phase.purgeReason fun x => x.code.val), byte1 r.readings.length,
    r.readings.flatMap Reading.payload]

/-- The lengths of those parts: 29 bytes, and 12 for each reading. -/
def pocketLengths (n : Nat) : List Nat := [1, 1, 1, 2, 1, 2, 3, 1, 1, 1, 1, 1, 4, 1, 2, 2, 1, 1, 1, 1, 12 * n]

theorem pocketLengths_sum (n : Nat) : (pocketLengths n).sum = 29 + 12 * n := by
  simp only [pocketLengths, List.sum_cons, List.sum_nil]
  omega

theorem pocketLengths_front (n : Nat) : ((pocketLengths n).take 20).sum = 29 := by
  simp only [pocketLengths, List.take_succ_cons, List.take_zero, List.sum_cons, List.sum_nil, Nat.reduceAdd]

theorem State.pocketParts_lengths (s : State) (p : Fin 24) (r : LiveRecord) :
    (s.pocketParts p r).map List.length = pocketLengths r.readings.length := by
  simp [State.pocketParts, pocketLengths, Nat.mul_comm]

theorem State.pocketPayload_live {s : State} {p : Fin 24} {r : LiveRecord} (h : s.pocket p = .live r) :
    s.pocketPayload p = (s.pocketParts p r).flatten := by
  simp only [State.pocketPayload, h, PocketRecord.payload, LiveRecord.payload, gradingPayload_eq,
    State.pocketParts, List.flatten_cons, List.flatten_nil, List.append_nil, List.append_assoc]

/-- The `i`th field of the payload of a live record. -/
theorem State.pocketPayload_field {s : State} {p : Fin 24} {r : LiveRecord} (h : s.pocket p = .live r) (i : Nat)
    {x : List Byte} {k n : Nat} (hk : ((pocketLengths r.readings.length).take i).sum = k)
    (hx : (s.pocketParts p r)[i]? = some x) (hn : (pocketLengths r.readings.length)[i]? = some n) :
    fieldAt (s.pocketPayload p) k n = numBE x := by
  rw [s.pocketPayload_live h, ← hk]
  exact fieldAt_flatten (s.pocketParts_lengths p r) i hx hn

/-! ### What the codes of a record say -/

theorem LiveRecord.presence_lt (r : LiveRecord) : packBits r.presence < 512 :=
  (packBits_lt _).trans_eq (by norm_num [LiveRecord.presence])

theorem LiveRecord.flagBits_lt (r : LiveRecord) : packBits r.flagBits < 64 :=
  (packBits_lt _).trans_eq (by norm_num [LiveRecord.flagBits])

section Record

variable {s : State} {p : Fin 24} {r : LiveRecord} (h : s.pocket p = .live r)
include h

theorem State.fieldAt_phase : fieldAt (s.pocketPayload p) 2 1 = r.phase.code := by
  refine (s.pocketPayload_field h 2 (by simp [pocketLengths]) rfl rfl).trans ?_
  rw [numBE_byte1]
  cases r.phase <;> rfl

theorem State.fieldAt_presence : fieldAt (s.pocketPayload p) 3 2 = packBits r.presence := by
  refine (s.pocketPayload_field h 3 (by simp [pocketLengths]) rfl rfl).trans ?_
  rw [numBE_bytesBE]
  exact Nat.mod_eq_of_lt (r.presence_lt.trans (by decide))

theorem State.fieldAt_kind : fieldAt (s.pocketPayload p) 5 1 = r.kind.code := by
  refine (s.pocketPayload_field h 4 (by simp [pocketLengths]) rfl rfl).trans ?_
  rw [numBE_byte1]
  cases r.kind <;> rfl

theorem State.fieldAt_lot : fieldAt (s.pocketPayload p) 6 2 = r.lot % 65536 :=
  (s.pocketPayload_field h 5 (by simp [pocketLengths]) rfl rfl).trans (numBE_bytesBE 2 r.lot)

theorem State.fieldAt_serial : fieldAt (s.pocketPayload p) 8 3 = r.serial % 16777216 :=
  (s.pocketPayload_field h 6 (by simp [pocketLengths]) rfl rfl).trans (numBE_bytesBE 3 r.serial)

theorem State.fieldAt_lap : fieldAt (s.pocketPayload p) 11 1 = r.lap % 256 :=
  (s.pocketPayload_field h 7 (by simp [pocketLengths]) rfl rfl).trans (numBE_byte1 r.lap)

theorem State.fieldAt_attempts : fieldAt (s.pocketPayload p) 12 1 = r.attempts % 256 :=
  (s.pocketPayload_field h 8 (by simp [pocketLengths]) rfl rfl).trans (numBE_byte1 r.attempts)

theorem State.fieldAt_flags : fieldAt (s.pocketPayload p) 13 1 = packBits r.flagBits := by
  refine (s.pocketPayload_field h 9 (by simp [pocketLengths]) rfl rfl).trans ?_
  rw [numBE_byte1, packBits_mod_byte (by simp [LiveRecord.flagBits])]

theorem State.fieldAt_head :
    fieldAt (s.pocketPayload p) 14 1 = fieldCode (r.phase.nextHead.or r.phase.measuringHead) headCode := by
  refine (s.pocketPayload_field h 10 (by simp [pocketLengths]) rfl rfl).trans ?_
  rw [numBE_byte1]
  refine Nat.mod_eq_of_lt ?_
  rcases r.phase.nextHead.or r.phase.measuringHead with _ | hd
  · simp [fieldCode]
  · cases hd <;> simp [fieldCode, headCode]

theorem State.fieldAt_mark : fieldAt (s.pocketPayload p) 15 1 = fieldCode r.phase.mark PurgeMark.code := by
  refine (s.pocketPayload_field h 11 (by simp [pocketLengths]) rfl rfl).trans ?_
  rw [numBE_byte1]
  refine Nat.mod_eq_of_lt ?_
  rcases r.phase.mark with _ | m
  · simp [fieldCode]
  · cases m <;> simp [fieldCode, PurgeMark.code]

theorem State.fieldAt_deviation :
    fieldAt (s.pocketPayload p) 16 4 = (BitVec.ofInt 32 (r.grading.elim 0 fun v => v.deviation)).toNat :=
  (s.pocketPayload_field h 12 (by simp [pocketLengths]) rfl rfl).trans (numBE_signedBE_four _)

theorem State.fieldAt_deciders : fieldAt (s.pocketPayload p) 20 1 = decidersCode r.grading := by
  refine (s.pocketPayload_field h 13 (by simp [pocketLengths]) rfl rfl).trans ?_
  rw [numBE_byte1]
  refine Nat.mod_eq_of_lt ?_
  rcases r.grading with _ | ⟨dev, ⟨⟨⟩, e⟩ | ⟨a, b⟩⟩ <;> simp [decidersCode]

theorem State.fieldAt_epochA : fieldAt (s.pocketPayload p) 21 2 = (decidingEpoch .a r.grading).toNat :=
  (s.pocketPayload_field h 14 (by simp [pocketLengths]) rfl rfl).trans (numBE_bytes16 _)

theorem State.fieldAt_epochB : fieldAt (s.pocketPayload p) 23 2 = (decidingEpoch .b r.grading).toNat :=
  (s.pocketPayload_field h 15 (by simp [pocketLengths]) rfl rfl).trans (numBE_bytes16 _)

theorem State.fieldAt_cls : fieldAt (s.pocketPayload p) 25 1 = fieldCode r.cls Fin.val := by
  refine (s.pocketPayload_field h 16 (by simp [pocketLengths]) rfl rfl).trans ?_
  rw [numBE_byte1]
  refine Nat.mod_eq_of_lt ?_
  rcases r.cls with _ | k
  · simp [fieldCode]
  · simp only [fieldCode]; omega

theorem State.fieldAt_ejectStation :
    fieldAt (s.pocketPayload p) 26 1 = fieldCode r.phase.ejectStation Config.offsetChute := by
  refine (s.pocketPayload_field h 17 (by simp [pocketLengths]) rfl rfl).trans ?_
  rw [numBE_byte1]
  refine Nat.mod_eq_of_lt ?_
  rcases r.phase.ejectStation with _ | ⟨g | _ | _⟩ <;> simp only [fieldCode, Config.offsetChute] <;> omega

theorem State.fieldAt_purgeReason :
    fieldAt (s.pocketPayload p) 27 1 = fieldCode r.phase.purgeReason fun x => x.code.val := by
  refine (s.pocketPayload_field h 18 (by simp [pocketLengths]) rfl rfl).trans ?_
  rw [numBE_byte1]
  refine Nat.mod_eq_of_lt ?_
  rcases r.phase.purgeReason with _ | w <;> simp only [fieldCode] <;> omega

theorem State.fieldAt_readingCount : fieldAt (s.pocketPayload p) 28 1 = r.readings.length % 256 :=
  (s.pocketPayload_field h 19 (by simp [pocketLengths]) rfl rfl).trans (numBE_byte1 _)

theorem State.pocketPayload_length : (s.pocketPayload p).length = 29 + 12 * r.readings.length := by
  rw [s.pocketPayload_live h, List.length_flatten, State.pocketParts_lengths, pocketLengths_sum]

/-- A field of the `k`th reading. -/
theorem State.fieldAt_reading {k : Nat} {x : Reading} (hx : r.readings[k]? = some x) {j n at_ : Nat}
    (hj : j + n ≤ 12) (hat : at_ = 29 + (12 * k + j)) :
    fieldAt (s.pocketPayload p) at_ n = fieldAt x.payload j n := by
  have hfront : ((s.pocketParts p r).take 20).flatten.length = 29 := by
    rw [List.length_flatten, List.map_take, State.pocketParts_lengths, pocketLengths_front]
  have hsplit : s.pocketPayload p =
      ((s.pocketParts p r).take 20).flatten ++ r.readings.flatMap Reading.payload := by
    rw [s.pocketPayload_live h]
    simp only [State.pocketParts, List.take_succ_cons, List.take_zero, List.flatten_cons, List.flatten_nil,
      List.append_nil, List.append_assoc]
  rw [hsplit, fieldAt_append_right (by omega), hfront, hat, Nat.add_sub_cancel_left]
  exact fieldAt_flatMap Reading.payload_length hx hj

end Record

/-! ### What the items present in a state say of it -/

theorem Phase.isSome_nextHead (x : Phase) : x.nextHead.isSome = true ↔ ∃ hd o, x = .pending hd o := by
  cases x <;> simp [Phase.nextHead]

theorem Phase.isSome_measuringHead (x : Phase) :
    x.measuringHead.isSome = true ↔ ∃ hd o m, x = .measuring hd o m := by
  cases x <;> simp [Phase.measuringHead]

theorem Phase.isSome_mark (x : Phase) : x.mark.isSome = true ↔ ∃ hd o m, x = .measuring hd o (some m) := by
  cases x <;> simp [Phase.mark, Option.isSome_iff_exists]

theorem Phase.isSome_ejectStation (x : Phase) : x.ejectStation.isSome = true ↔ ∃ e, x = .ejecting e := by
  cases x <;> simp [Phase.ejectStation]

theorem Phase.isSome_purgeReason (x : Phase) :
    x.purgeReason.isSome = true ↔ (∃ w, x = .purgePending w) ∨ ∃ w, x = .ejecting (.purge w) := by
  cases x with
  | ejecting e => cases e <;> simp [Phase.purgeReason]
  | _ => simp [Phase.purgeReason]

theorem Phase.openPair_iff (x : Phase) :
    x.openPair = true ↔ (∃ hd, x = .pending hd true) ∨ ∃ hd m, x = .measuring hd true m := by
  cases x <;> simp [Phase.openPair]

/-! ### READ_POCKET -/

theorem State.fieldAt_pocket (s : State) (p : Fin 24) : fieldAt (s.pocketPayload p) 0 1 = p.val := by
  rw [State.pocketPayload, List.append_assoc, fieldAt_append_left (byte1_length _), numBE_byte1]
  omega

theorem State.fieldAt_offset (s : State) (p : Fin 24) : fieldAt (s.pocketPayload p) 1 1 = s.offsetOf p := by
  have hlt : s.offsetOf p < 24 := Nat.mod_lt _ (by decide)
  rw [State.pocketPayload, List.append_assoc, fieldAt_append_right (by simp), byte1_length, Nat.sub_self,
    fieldAt_append_left (byte1_length _), numBE_byte1]
  omega

/-- The payload from its third byte on is that of the record. -/
theorem State.drop_pocketPayload (s : State) (p : Fin 24) :
    (s.pocketPayload p).drop 2 = (s.pocket p).payload := rfl

/-- Settles O42: the payload is the run of its parts, and each field is the part at its place. -/
theorem readPocket : Obligations.ReadPocket := by
  refine ⟨fun s u i h hi => ?_, fun s u i p h hi => ⟨u.pocketPayload p, ?_, u.fieldAt_pocket p, u.fieldAt_offset p,
    fun hr => ?_, fun hr => ?_, fun r hr => ?_⟩⟩
  · rw [h.exec_eq]
    exact congrArg (fun r : Reply => Host.Outcome.next r.answered) (State.withPocket_of_le hi _)
  · rw [h.exec_eq]
    exact congrArg (fun r : Reply => Host.Outcome.next r.answered) (State.withPocket_of_eq hi _)
  · rw [State.drop_pocketPayload, hr]; rfl
  · rw [State.drop_pocketPayload, hr]; rfl
  · rw [State.fieldAt_phase hr, State.fieldAt_presence hr, State.fieldAt_kind hr, State.fieldAt_lot hr,
      State.fieldAt_serial hr, State.fieldAt_lap hr, State.fieldAt_attempts hr, State.fieldAt_flags hr,
      State.fieldAt_head hr, State.fieldAt_mark hr, State.fieldAt_deviation hr, State.fieldAt_deciders hr,
      State.fieldAt_epochA hr, State.fieldAt_epochB hr, State.fieldAt_cls hr, State.fieldAt_ejectStation hr,
      State.fieldAt_purgeReason hr, State.fieldAt_readingCount hr]
    simp only [testBit_packBits]
    refine ⟨State.pocketPayload_length hr, ?_, rfl, r.phase.isSome_nextHead, r.phase.isSome_measuringHead,
      r.phase.isSome_mark, rfl, rfl, rfl, r.phase.isSome_ejectStation, r.phase.isSome_purgeReason,
      r.presence_lt, ?_, trivial, trivial, trivial, trivial, rfl, rfl, rfl, rfl, rfl, r.phase.openPair_iff,
      r.flagBits_lt, ?_, ?_, ?_, ?_, ?_, ?_, ?_, ?_, ?_, trivial, fun k x hx => ?_⟩
    · cases r.phase <;> rfl
    · cases r.kind <;> rfl
    · cases r.phase with
      | pending hd o => cases hd <;> rfl
      | measuring hd o m => cases hd <;> rfl
      | _ => rfl
    · cases r.phase with
      | measuring hd o m => rcases m with _ | ⟨⟨⟩⟩ <;> rfl
      | _ => rfl
    · cases r.grading <;> rfl
    · rcases r.grading with _ | ⟨dev, ⟨⟨⟩, e⟩ | ⟨a, b⟩⟩ <;> rfl
    · rcases r.grading with _ | ⟨dev, ⟨⟨⟩, e⟩ | ⟨a, b⟩⟩ <;> rfl
    · rcases r.grading with _ | ⟨dev, ⟨⟨⟩, e⟩ | ⟨a, b⟩⟩ <;> rfl
    · cases r.cls <;> rfl
    · cases r.phase with
      | ejecting e => cases e <;> rfl
      | _ => rfl
    · cases r.phase with
      | ejecting e => cases e <;> rfl
      | _ => rfl
    · have hhead := (State.fieldAt_reading hr hx (at_ := 29 + 12 * k) (by decide) (by omega)).trans x.fieldAt_head
      have hflags := (State.fieldAt_reading hr hx (at_ := 30 + 12 * k) (by decide) (by omega)).trans x.fieldAt_flags
      have hcode := (State.fieldAt_reading hr hx (at_ := 31 + 12 * k) (by decide) (by omega)).trans x.fieldAt_code
      have hstatus :=
        (State.fieldAt_reading hr hx (at_ := 34 + 12 * k) (by decide) (by omega)).trans x.fieldAt_status
      have hdeviation :=
        (State.fieldAt_reading hr hx (at_ := 35 + 12 * k) (by decide) (by omega)).trans x.fieldAt_deviation
      have hepoch := (State.fieldAt_reading hr hx (at_ := 39 + 12 * k) (by decide) (by omega)).trans x.fieldAt_epoch
      simp only [hhead, hflags, hcode, hstatus, hdeviation, hepoch, testBit_packBits]
      refine ⟨?_, rfl, rfl, ?_, rfl, rfl, x.flagBits_lt, fun v hv => ?_, fun hv => ?_, trivial⟩
      · cases x.head <;> rfl
      · cases hs : x.sample <;> simp [Reading.flagBits, Reading.isSaturated, hs]
      · simp [hv]
      · simp [hv]

end Sys2Proof.Machine
end

section
/-! SUPPORT. The head interfaces: the arrival at a head station, requests and timers, the link receiver, frames
that are not awaited, and the completion of a probe (R43, R45 to R47, R51 to R53, R85). -/

namespace Sys2Proof.Machine

/-! ### One head record changed -/

@[simp] theorem PerHead.set_get {α : Type} (v : PerHead α) (h : Head) : v.set h (v.get h) = v := by
  cases h <;> rfl

/-- A head record that a rule leaves as it is leaves the state as it is. -/
theorem State.onHead_fixed {s : State} {h : Head} {f : HeadUnit → HeadUnit} (hf : f (s.head h) = s.head h) :
    s.onHead h f = s := by
  show { s with heads := s.heads.set h (f (s.head h)) } = s
  rw [hf, State.head_def, PerHead.set_get]

section SameState

variable {s : State} {h : Head} {f : HeadUnit → HeadUnit} (hf : (f (s.head h)).state = (s.head h).state)
include hf

/-- A head is in service by its state alone (R44). -/
theorem State.inService_onHead_same (k : Head) : (s.onHead h f).inService k = s.inService k := by
  by_cases hk : k = h
  · subst hk; simp [State.inService, hf]
  · simp [State.inService, hk]

/-- A change that keeps the head state keeps NO_HEAD, and with it every flag (R95, R166). -/
theorem State.anySevere_onHead_same : (s.onHead h f).anySevere = s.anySevere := by
  have hno : (s.onHead h f).noHead = s.noHead := by
    simp only [State.noHead, State.onHead_lot, State.inService_onHead_same hf]
  have hconditions : (s.onHead h f).conditionFlags = s.conditionFlags := by
    unfold State.conditionFlags
    rw [hno, State.onHead_lines, State.onHead_recordsUnknown]
  rw [State.anySevere, State.flags, hconditions, State.onHead_faults]
  rfl

/-- Such a change reports no severe flag cleared (R167). -/
theorem State.reportSevere_onHead_same : (s.onHead h f).reportSevere s = s.onHead h f := by
  have hsame := State.anySevere_onHead_same hf
  rw [State.reportSevere_eq, if_neg]
  rintro ⟨hset, hclear, -⟩
  rw [hsame, hset] at hclear
  cases hclear

end SameState

theorem State.reportSevere_self (s : State) : s.reportSevere s = s := by
  rw [State.reportSevere_eq, if_neg]
  rintro ⟨hset, hclear, -⟩
  rw [hset] at hclear
  cases hclear

/-- What a byte does to a head record alone ends no dwell. -/
theorem State.endDwellTest_onHead {s : State} (hd : s.dwellOver = false) (h : Head) (f : HeadUnit → HeadUnit) :
    (s.onHead h f).endDwellTest = s.onHead h f :=
  State.endDwellTest_of_not_over hd

/-! ### Arrival at a head station (R52, R53, R85) -/

theorem State.pocketAt_head {s : State} {h : Head} {p : Fin 24} (hp : s.offsetOf p = Config.offsetHead h) :
    s.pocketAt (Config.offsetHead h) = p :=
  State.pocketAt_of_offsetOf (by cases h <;> decide) hp

section Arrival

variable {s : State} {h : Head} {p : Fin 24} (hp : s.offsetOf p = Config.offsetHead h)
include hp

theorem State.arriveHead_ready {r : LiveRecord} {openPair : Bool} (hr : s.pocket p = .live r)
    (hph : r.phase = .pending h openPair) (hs : (s.head h).state = .ready) :
    s.arriveHead h = s.beginMeasurement h p r openPair := by
  simp only [State.arriveHead, State.pocketAt_head hp, hr, hph, hs, if_true]

theorem State.arriveHead_absent {r : LiveRecord} {openPair : Bool} (hr : s.pocket p = .live r)
    (hph : r.phase = .pending h openPair)
    (hs : (∃ why, (s.head h).state = .out why) ∨ (s.head h).state = .probing) :
    s.arriveHead h =
      if s.inService h.other then s.setLive p (s.checkDoneTest { r with phase := .pending h.other false })
      else s := by
  rcases hs with ⟨why, hs⟩ | hs <;> simp only [State.arriveHead, State.pocketAt_head hp, hr, hph, hs, if_true]

theorem State.arriveHead_passes (hn : ∀ r openPair, s.pocket p = .live r → r.phase ≠ .pending h openPair) :
    s.arriveHead h = s := by
  cases hr : s.pocket p with
  | empty => simp only [State.arriveHead, State.pocketAt_head hp, hr]
  | unknown => simp only [State.arriveHead, State.pocketAt_head hp, hr]
  | live r =>
    cases hph : r.phase with
    | pending next openPair =>
      have hne : next ≠ h := fun e => hn r openPair hr (e ▸ hph)
      simp only [State.arriveHead, State.pocketAt_head hp, hr, hph, if_neg hne]
    | _ => simp only [State.arriveHead, State.pocketAt_head hp, hr, hph]

end Arrival

/-- Settles O20: the arrival by the record that stands at the head and by the state of the head. -/
theorem headArrival : Obligations.HeadArrival := by
  intro s h p hoff
  have hp : s.offsetOf p = Config.offsetHead h := hoff
  refine ⟨fun r openPair hr hph => ⟨fun hs => ?_, fun hs => ?_⟩, State.arriveHead_passes hp⟩
  · rw [State.arriveHead_ready hp hr hph hs]
    rfl
  · rw [State.arriveHead_absent hp hr hph hs]
    rfl

/-! ### Requests and timers (R43, R46) -/

/-- The response timeout of a select: 4, 8, 16 or 32 ms (the table under R43). -/
theorem responseTimeoutMs_eq (sel : Fin 4) : Config.responseTimeoutMs sel = 2 ^ (2 + sel.val) := by
  revert sel; decide

theorem Timer.isRunning_eq_true {t : Timer} : t.isRunning = true ↔ t ≠ .stopped := by
  cases t <;> simp [Timer.isRunning]

theorem HeadUnit.requestSent_waiting {u : HeadUnit} {kind : RequestKind} (hq : u.request = some ⟨kind, false⟩)
    (ht : u.quietTimer = .stopped) :
    u.requestSent =
      { u with
        request := some ⟨kind, true⟩
        responseTimer := .running (2 ^ (2 + u.timeoutSelect.val)) } := by
  simp [HeadUnit.requestSent, hq, ht, Timer.isRunning, responseTimeoutMs_eq]

/-- With no request, one already sent, or one held for the quiet timer, nothing is being sent (R46). -/
theorem HeadUnit.requestSent_of_none {u : HeadUnit}
    (h : u.request = none ∨ (∃ kind, u.request = some ⟨kind, true⟩) ∨ u.quietTimer ≠ .stopped) :
    u.requestSent = u := by
  rcases h with hq | ⟨kind, hq⟩ | ht
  · simp [HeadUnit.requestSent, hq]
  · simp [HeadUnit.requestSent, hq]
  · rw [← Timer.isRunning_eq_true] at ht
    cases hq : u.request <;> simp [HeadUnit.requestSent, hq, ht]

theorem exec_requestSent {s : State} (hreset : s.lines.inReset = false) (h : Head) :
    exec (.requestSent h) s = .next (s.onHead h HeadUnit.requestSent) := by
  show execRequestSent h s = _
  rw [execRequestSent, State.event_eq _ hreset]

theorem exec_quietTimerExpiry {s : State} (hreset : s.lines.inReset = false) (h : Head) :
    exec (.quietTimerExpiry h) s = .next (s.onHead h fun u => { u with quietTimer := .stopped }) := by
  show execQuietTimerExpiry h s = _
  rw [execQuietTimerExpiry, State.event_eq _ hreset]

/-- Settles O21: what the two rows do to the head record. -/
theorem requestTiming : Obligations.RequestTiming := by
  intro s h hreset
  rw [exec_requestSent hreset]
  refine ⟨fun kind hq ht => ?_, fun hn => ?_, exec_quietTimerExpiry hreset h⟩
  · rw [← HeadUnit.requestSent_waiting hq ht]
    rfl
  · rw [State.onHead_fixed (HeadUnit.requestSent_of_none hn)]

/-! ### Frames that are not awaited (R47, R66) -/

theorem State.takeHeadFrame_result_unawaited {s : State} {h : Head} {tag : Byte}
    (hn : ∀ p range aperture, (s.head h).request = some ⟨.measure p range aperture, true⟩ →
      tag ≠ BitVec.ofNat 8 p.val) (code : BitVec 24) (status : Byte) :
    s.takeHeadFrame h (.result tag code status) = s.onHead h HeadUnit.countLate := by
  unfold State.takeHeadFrame
  split
  next p range aperture tag' code' status' hq hf =>
    cases hf
    rw [if_neg]
    simp [hn p range aperture hq]
  next hf => cases hf
  next => rfl

theorem State.takeHeadFrame_ident_unawaited {s : State} {h : Head} {tag : Byte}
    (hn : (s.head h).request = some ⟨.ident, true⟩ → tag ≠ 0xFF#8) (maxRange : Byte) :
    s.takeHeadFrame h (.ident tag maxRange) = s.onHead h HeadUnit.countLate := by
  unfold State.takeHeadFrame
  split
  next hf => cases hf
  next tag' maxRange' hq hf =>
    cases hf
    rw [if_neg]
    simp [Config.identTag, hn hq]
  next => rfl

theorem State.receiveFrame_idle {s : State} {h : Head} (hidle : (s.head h).receiver = .idle) (f : HeadFrame) :
    s.receiveFrame h f = s.takeHeadFrame h f := by
  simp only [State.receiveFrame, hidle]

theorem exec_result {s : State} (hreset : s.lines.inReset = false) (h : Head) (tag : Byte) (code : BitVec 24)
    (status : Byte) :
    exec (.result h tag code status) s = .next (s.receiveFrame h (.result tag code status)).endDwellTest := by
  show execResult h tag code status s = _
  rw [execResult, State.event_eq _ hreset]

theorem exec_identAnswer {s : State} (hreset : s.lines.inReset = false) (h : Head) (tag maxRange : Byte) :
    exec (.identAnswer h tag maxRange) s = .next ((s.receiveFrame h (.ident tag maxRange)).reportSevere s) := by
  show execIdentAnswer h tag maxRange s = _
  rw [execIdentAnswer, State.event_eq _ hreset]

/-- Settles O23: such a frame is counted by its head, and no test at the end of its event finds a change. -/
theorem unawaitedFramesAreDiscarded : Obligations.UnawaitedFramesAreDiscarded := by
  refine ⟨fun s h tag code status hreset hd hidle hn => ?_, fun s h tag maxRange hreset hidle hn => ?_⟩
  · rw [exec_result hreset, State.receiveFrame_idle hidle, State.takeHeadFrame_result_unawaited hn,
      State.endDwellTest_onHead hd]
    rfl
  · rw [exec_identAnswer hreset, State.receiveFrame_idle hidle, State.takeHeadFrame_ident_unawaited hn,
      State.reportSevere_onHead_same rfl]
    rfl

/-! ### The link receiver (R45) -/

/-- The bytes of a response frame complete it. -/
theorem completedFrame_bytes (f : HeadFrame) : completedFrame f.bytes = some f := by
  cases f with
  | ident tag maxRange => rfl
  | result tag code status =>
    have hcode : code.extractLsb' 16 8 ++ code.extractLsb' 8 8 ++ code.extractLsb' 0 8 = code := by
      rw [BitVec.extractLsb'_append_extractLsb'_eq_extractLsb' (by decide),
        BitVec.extractLsb'_append_extractLsb'_eq_extractLsb' (by decide)]
      simp
    show some (HeadFrame.result tag _ status) = _
    rw [hcode]

/-- Fewer than six bytes from 0xB1 on, or than three from 0xB2 on, are no whole frame. -/
theorem completedFrame_partial {bytes : List Byte}
    (h : bytes.head? = some 0xB1#8 ∧ bytes.length < 6 ∨ bytes.head? = some 0xB2#8 ∧ bytes.length < 3) :
    completedFrame bytes = none := by
  unfold completedFrame
  split
  next => simp at h
  next => simp at h; simp [h, Config.typeIdentAnswer]
  next => rfl

section Byte

variable {s : State} {h : Head}

theorem State.receiveByte_begins (hi : (s.head h).receiver = .idle) {b : Byte}
    (hb : b = Config.typeResult ∨ b = Config.typeIdentAnswer) :
    s.receiveByte h b = s.onHead h fun u => { u with receiver := .inFrame [b] } := by
  simp only [State.receiveByte, hi, if_pos hb]

theorem State.receiveByte_unknown (hi : (s.head h).receiver = .idle) {b : Byte} (h1 : b ≠ Config.typeResult)
    (h2 : b ≠ Config.typeIdentAnswer) :
    s.receiveByte h b = s.onHead h fun u => { u.countLinkError with receiver := .discarding } := by
  simp only [State.receiveByte, hi, if_neg (not_or.mpr ⟨h1, h2⟩)]

theorem State.receiveByte_goesOn {held : List Byte} (hi : (s.head h).receiver = .inFrame held) {b : Byte}
    (hb : completedFrame (held ++ [b]) = none) :
    s.receiveByte h b = s.onHead h fun u => { u with receiver := .inFrame (held ++ [b]) } := by
  simp only [State.receiveByte, hi, hb]

theorem State.receiveByte_discarding (hi : (s.head h).receiver = .discarding) (b : Byte) :
    s.receiveByte h b = s := by
  simp only [State.receiveByte, hi]

/-- The byte that completes a frame does what the row of that frame does (R45; log entry 8). -/
theorem State.receiveByte_completes {held : List Byte} (hi : (s.head h).receiver = .inFrame held) {b : Byte}
    {f : HeadFrame} (hf : held ++ [b] = f.bytes) : s.receiveByte h b = s.receiveFrame h f := by
  have hpre : held.isPrefixOf f.bytes = true := by rw [← hf]; simp
  have hlen : held.length < f.bytes.length := by rw [← hf]; simp
  simp only [State.receiveByte, State.receiveFrame, hi, hf, completedFrame_bytes, hpre, hlen, decide_true,
    Bool.and_self, if_true]

end Byte

/-- A probe's answer, or a frame that no probe awaits, changes the head records alone (R47, R51). -/
theorem State.takeHeadFrame_ident_dwellOver (s : State) (h : Head) (tag maxRange : Byte) :
    (s.takeHeadFrame h (.ident tag maxRange)).dwellOver = s.dwellOver := by
  unfold State.takeHeadFrame
  split
  next hf => cases hf
  next =>
    split
    · exact State.onHead_dwellOver s h _
    · exact State.onHead_dwellOver s h _
  next => exact State.onHead_dwellOver s h _

theorem State.receiveFrame_ident_dwellOver (s : State) (h : Head) (tag maxRange : Byte) :
    (s.receiveFrame h (.ident tag maxRange)).dwellOver = s.dwellOver := by
  unfold State.receiveFrame
  split
  next => exact State.takeHeadFrame_ident_dwellOver s h tag maxRange
  next =>
    split
    · exact State.takeHeadFrame_ident_dwellOver _ h tag maxRange
    · rfl
  next => rfl

/-! ### The rows of the receiver (R45) -/

section Rows

variable {s : State} (hreset : s.lines.inReset = false) (h : Head)
include hreset

theorem exec_byteReceived (b : Byte) :
    exec (.byteReceived h b) s = .next (((s.receiveByte h b).endDwellTest).reportSevere s) := by
  show execByteReceived h b s = _
  rw [execByteReceived, State.event_eq _ hreset]

/-- A byte that does no more than change its head record. -/
theorem exec_byteReceived_onHead (hd : s.dwellOver = false) {b : Byte} {f : HeadUnit → HeadUnit}
    (hb : s.receiveByte h b = s.onHead h f) (hf : (f (s.head h)).state = (s.head h).state) :
    exec (.byteReceived h b) s = .next (s.onHead h f) := by
  rw [exec_byteReceived hreset, hb, State.endDwellTest_onHead hd, State.reportSevere_onHead_same hf]

theorem exec_byteReceived_discarding (hd : s.dwellOver = false) (hi : (s.head h).receiver = .discarding)
    (b : Byte) : exec (.byteReceived h b) s = .next s := by
  rw [exec_byteReceived hreset, State.receiveByte_discarding hi, State.endDwellTest_of_not_over hd,
    State.reportSevere_self]

theorem exec_linkPause_inFrame {held : List Byte} (hi : (s.head h).receiver = .inFrame held) :
    exec (.linkPause h) s = .next (s.onHead h fun u => { u.countLinkError with receiver := .idle }) := by
  show execLinkPause h s = _
  rw [execLinkPause, State.event_eq _ hreset]
  simp only [hi]

theorem exec_linkPause_other (hi : ∀ held, (s.head h).receiver ≠ .inFrame held) :
    exec (.linkPause h) s = .next s := by
  show execLinkPause h s = _
  rw [execLinkPause, State.event_eq _ hreset]
  cases hrec : (s.head h).receiver with
  | inFrame held => exact absurd hrec (hi held)
  | _ => rfl

theorem exec_framingError_discarding (hi : (s.head h).receiver = .discarding) :
    exec (.framingError h) s = .next s := by
  show execFramingError h s = _
  rw [execFramingError, State.event_eq _ hreset]
  simp only [hi]

theorem exec_framingError_other (hi : (s.head h).receiver ≠ .discarding) :
    exec (.framingError h) s =
      .next (s.onHead h fun u => { u.countLinkError with receiver := .discarding }) := by
  show execFramingError h s = _
  rw [execFramingError, State.event_eq _ hreset]
  cases hrec : (s.head h).receiver with
  | discarding => exact absurd hrec hi
  | _ => rfl

theorem exec_discardQuiet_discarding (hi : (s.head h).receiver = .discarding) :
    exec (.discardQuiet h) s = .next (s.onHead h fun u => { u with receiver := .idle }) := by
  show execDiscardQuiet h s = _
  rw [execDiscardQuiet, State.event_eq _ hreset]
  simp only [hi]

theorem exec_discardQuiet_other (hi : (s.head h).receiver ≠ .discarding) :
    exec (.discardQuiet h) s = .next s := by
  show execDiscardQuiet h s = _
  rw [execDiscardQuiet, State.event_eq _ hreset]
  cases hrec : (s.head h).receiver with
  | discarding => exact absurd hrec hi
  | _ => rfl

end Rows

/-- Settles O22: the receiver by its state and by what arrives. -/
theorem linkReceiver : Obligations.LinkReceiver := by
  intro s h hreset hd
  refine ⟨fun hi => ⟨fun b hb => ?_, fun b h1 h2 => ⟨rfl, ?_⟩, ?_, ?_⟩,
    fun held hi => ⟨fun b hb => ?_, fun tag code status t hheld ht => ?_, fun tag maxRange t hheld ht hdt => ?_,
      exec_linkPause_inFrame hreset h hi, ?_⟩,
    exec_framingError_other hreset h,
    fun hi => ⟨fun b => ⟨?_, ?_⟩, exec_framingError_discarding hreset h hi, ?_,
      exec_discardQuiet_discarding hreset h hi⟩⟩
  · exact exec_byteReceived_onHead hreset h hd (State.receiveByte_begins hi hb) rfl
  · exact exec_byteReceived_onHead hreset h hd (State.receiveByte_unknown hi h1 h2) rfl
  · exact exec_linkPause_other hreset h fun held => by simp [hi]
  · exact exec_discardQuiet_other hreset h (by simp [hi])
  · have hpartial : completedFrame (held ++ [b]) = none := by
      have hlength : (held ++ [b]).length = held.length + 1 := by simp
      refine completedFrame_partial (hb.imp ?_ ?_)
      · exact fun ⟨hhead, hlen⟩ => ⟨by simp [hhead], by omega⟩
      · exact fun ⟨hhead, hlen⟩ => ⟨by simp [hhead], by omega⟩
    exact exec_byteReceived_onHead hreset h hd (State.receiveByte_goesOn hi hpartial) rfl
  · subst hheld
    have hlast : s.receiveByte h status = s.receiveFrame h (.result tag code status) :=
      State.receiveByte_completes hi rfl
    rw [exec_result hreset] at ht
    cases ht
    rw [exec_byteReceived hreset, hlast]
  · subst hheld
    have hlast : s.receiveByte h maxRange = s.receiveFrame h (.ident tag maxRange) :=
      State.receiveByte_completes hi rfl
    have hover := (State.receiveFrame_ident_dwellOver s h tag maxRange).trans hd
    rw [exec_identAnswer hreset] at ht
    cases ht
    rw [exec_byteReceived hreset, hlast, State.endDwellTest_of_not_over hover]
  · exact exec_discardQuiet_other hreset h (by simp [hi])
  · exact exec_byteReceived_discarding hreset h hd hi b
  · exact exec_byteReceived_discarding hreset h hd hi b
  · exact exec_linkPause_other hreset h fun held => by simp [hi]

/-! ### The completion of a probe (R51) -/

theorem storedRange_lt_iff (b : Byte) (k : Fin 7) : storedRange b < k ↔ min b.toNat 6 < k.val := Iff.rfl

/-- The integration time of an aperture, in the terms the statements use. -/
theorem HeadUnit.tooShortFor_iff (u : HeadUnit) (aperture : Fin 4) :
    u.tooShortFor aperture = true ↔
      2 ^ (2 + u.timeoutSelect.val) < (match aperture with | 0 => 1 | 1 => 2 | 2 => 5 | 3 => 10) + 2 := by
  rw [HeadUnit.tooShortFor, decide_eq_true_iff, responseTimeoutMs_eq]
  rfl

theorem State.unfit_iff (s : State) (u : HeadUnit) (b : Byte) :
    s.unfit u (storedRange b) = true ↔
      min b.toNat 6 < s.banks.active.range.val ∨
        (s.lot.state ≠ .noLot ∧
          2 ^ (2 + u.timeoutSelect.val) <
            (match s.banks.active.aperture with | 0 => 1 | 1 => 2 | 2 => 5 | 3 => 10) + 2) := by
  rw [← HeadUnit.tooShortFor_iff, ← storedRange_lt_iff]
  simp [State.unfit]

/-- The head record after a valid answer to its probe (R51). -/
theorem State.completeProbe_eq (s : State) (h : Head) (maxRange : Byte) :
    s.completeProbe h maxRange =
      s.onHead h fun u =>
        { u with
          state := if s.unfit u (storedRange maxRange) then .out .incapable else .ready
          maxRange := some (storedRange maxRange)
          request := none, responseTimer := .stopped
          noReplies := if s.unfit u (storedRange maxRange) then u.noReplies else 0 } := by
  unfold State.completeProbe
  congr 1
  funext u
  cases hu : s.unfit u (storedRange maxRange) <;> simp [hu, HeadUnit.endRequest]

/-- A head capture is taken from the epoch and the exposure of its head. -/
theorem State.headCaptureOf_congr {s t : State} {h : Head} (he : (t.head h).epoch = (s.head h).epoch)
    (hc : t.check = s.check) (kind : HeadFault) : t.headCaptureOf kind h = s.headCaptureOf kind h := by
  simp only [State.headCaptureOf, he, hc]

theorem exec_responseTimeout {s : State} (hreset : s.lines.inReset = false) (h : Head) :
    exec (.responseTimeout h) s = .next (s.responseTimeout h).endDwellTest := by
  show execResponseTimeout h s = _
  rw [execResponseTimeout, State.event_eq _ hreset]

/-- Settles O24: the answer to a probe, and the probe that gets none. -/
theorem probeCompletes : Obligations.ProbeCompletes := by
  intro s h hreset hreq htimer
  refine ⟨fun hidle maxRange => ⟨s.unfit (s.head h) (storedRange maxRange), s.unfit_iff _ _, ?_⟩, ?_⟩
  · have hframe : s.receiveFrame h (.ident 0xFF#8 maxRange) = s.completeProbe h maxRange := by
      rw [State.receiveFrame_idle hidle]
      simp only [State.takeHeadFrame, hreq, htimer, Config.identTag, beq_self_eq_true, Bool.and_self, if_true]
    rw [exec_identAnswer hreset, hframe, State.completeProbe_eq]
    rfl
  · have hlost : s.responseTimeout h = (s.onHead h fun u => u.endRequest (.out .lost)).raiseLost h := by
      simp only [State.responseTimeout, hreq, htimer, if_true]
    have hcapture : (s.onHead h fun u => u.endRequest (.out .lost)).headCaptureOf .lost h =
        s.headCaptureOf .lost h :=
      State.headCaptureOf_congr (by simp [HeadUnit.endRequest]) (State.onHead_check s h _) .lost
    rw [exec_responseTimeout hreset, hlost, State.raiseLost, hcapture]
    rfl

end Sys2Proof.Machine
end

section
/-! SUPPORT. The head commands: HEAD_ENABLE, SET_HEAD, SET_HEAD_CAL, FORCE_DOUBT, READ_HEAD and READ_HEAD_STATS (R48,
R50, R60, R61, R64 to R66). -/

namespace Sys2Proof.Machine

/-! ### The head a command names (R48) -/

theorem headOf_eq_some {i : Byte} {h : Head} (hi : i.toNat = headCode h) : headOf i = some h := by
  cases h <;> simp only [headOf, hi, headCode]

theorem State.withHead_of_eq {s : State} {i : Byte} {h : Head} (hi : i.toNat = headCode h) (act : Head → Reply) :
    s.withHead i act = act h := by
  simp only [State.withHead, headOf_eq_some hi]

/-- A command handed to the head interface, by what the head it names replies. -/
theorem State.Hands.exec_withHead {s u : State} {c : Instr} (hc : s.Hands c u) {i : Byte} {h : Head}
    (hi : i.toNat = headCode h) {act : Head → Reply} (hr : replyOf c u = u.withHead i act) :
    exec c s = .next (act h).answered := by
  rw [hc.exec_eq, hr, State.withHead_of_eq hi]

theorem State.Hands.exec_withHead_badIndex {s u : State} {c : Instr} (hc : s.Hands c u) {i : Byte}
    (hi : 2 ≤ i.toNat) {act : Head → Reply} (hr : replyOf c u = u.withHead i act) :
    exec c s = .next (u.answer .badIndex []) := by
  rw [hc.exec_eq, hr, State.withHead_of_le hi, State.refuse_answered]

theorem HeadState.isOut_iff (x : HeadState) : x.isOut = true ↔ ∃ why, x = .out why := by
  cases x <;> simp [HeadState.isOut]

/-- A head is OUT exactly when it is neither in service nor PROBING (R43, R44). -/
theorem HeadState.isOut_iff_not (x : HeadState) : x.isOut = true ↔ ¬(x.inService = true ∨ x = .probing) := by
  cases x <;> simp [HeadState.isOut, HeadState.inService]

theorem State.doneClamped_answered (s : State) (clamped : Bool) :
    (s.doneClamped clamped).answered = s.answer (if clamped then .clamped else .ok) [] := rfl

/-! ### HEAD_ENABLE and the settings (R50, R60, R61) -/

/-- What a command of R60 or R61 replies, by the head state. -/
theorem State.ifOut_refused {s : State} {h : Head} (ho : s.inService h = true ∨ (s.head h).state = .probing)
    {x y : Reply} : (if (s.head h).state.isOut then x else y) = y :=
  if_neg fun hout => (HeadState.isOut_iff_not _).mp hout ho

theorem State.ifOut_out {s : State} {h : Head} (ho : ¬(s.inService h = true ∨ (s.head h).state = .probing))
    {x y : Reply} : (if (s.head h).state.isOut then x else y) = x :=
  if_pos ((HeadState.isOut_iff_not _).mpr ho)

theorem State.enableHead_out {s : State} {h : Head} (ho : (s.head h).state.isOut = true) :
    s.enableHead h = (s.onHead h fun u => { u with state := .probing, request := some ⟨.ident, false⟩ }).done :=
  if_pos ho

theorem State.enableHead_refused {s : State} {h : Head} (ho : ¬(s.head h).state.isOut = true) :
    s.enableHead h = s.refuse .refusedState :=
  if_neg ho

/-- A clamped field differs from the field sent exactly when that was outside its range (R61). -/
theorem clampSigned_ne_iff {lo hi x : Int} (h : lo ≤ hi) : clampSigned lo hi x ≠ x ↔ ¬(lo ≤ x ∧ x ≤ hi) := by
  unfold clampSigned
  omega

theorem calibrationOf_clamped (offset gain : BitVec 16) :
    ((calibrationOf offset gain).offset != offset.toInt || (calibrationOf offset gain).gain != gain.toInt) =
      !decide (-2000 ≤ offset.toInt ∧ offset.toInt ≤ 2000 ∧ -5000 ≤ gain.toInt ∧ gain.toInt ≤ 5000) := by
  have ho := clampSigned_ne_iff (lo := -2000) (hi := 2000) (x := offset.toInt) (by decide)
  have hg := clampSigned_ne_iff (lo := -5000) (hi := 5000) (x := gain.toInt) (by decide)
  rw [Bool.eq_iff_iff]
  simp only [Bool.or_eq_true, bne_iff_ne, calibrationOf, ho, hg, Bool.not_eq_true', decide_eq_false_iff_not]
  tauto

theorem status_ite_not_decide (c : Prop) [Decidable c] :
    (if !decide c then Status.clamped else Status.ok) = if c then .ok else .clamped := by
  by_cases h : c <;> simp [h]

/-- A vector with one entry written, entry by entry. -/
theorem vector_set_eq_ofFn {α : Type} {n : Nat} (v : Vector α n) (i : Nat) (hi : i < n) (x : α) :
    v.set i x = Vector.ofFn fun k : Fin n => if k.val = i then x else v[k.val] := by
  ext k hk
  simp [Vector.getElem_set, eq_comm]

/-- Settles O26: each command by the head it names, the state of that head and the fields sent. -/
theorem headEnableAndSettings : Obligations.HeadEnableAndSettings := by
  refine ⟨fun s u i hc => ⟨fun hi => hc.exec_withHead_badIndex hi rfl, fun h hi => ⟨fun ho => ?_, fun ho => ?_⟩⟩,
    fun s u i h hi => ⟨fun sel hc => ?_, fun range offset gain hc => ?_, fun hc => ?_⟩⟩
  · rw [hc.exec_withHead hi rfl, State.enableHead_out ((HeadState.isOut_iff _).mpr ho), State.done_answered]
    rfl
  · rw [hc.exec_withHead hi rfl, State.enableHead_refused (mt (HeadState.isOut_iff _).mp ho),
      State.refuse_answered]
  · rw [hc.exec_withHead hi rfl]
    by_cases ho : u.inService h = true ∨ (u.head h).state = .probing
    · rw [if_pos ho, State.ifOut_refused ho, State.refuse_answered]
    · rw [if_neg ho, State.ifOut_out ho, State.doneClamped_answered]
      have hstatus : decide (3 < sel.toNat) = !decide (sel.toNat ≤ 3) := by
        rw [← decide_not, decide_eq_decide, Nat.not_le]
      rw [hstatus, status_ite_not_decide]
      rfl
  · rw [hc.exec_withHead hi rfl]
    by_cases ho : u.inService h = true ∨ (u.head h).state = .probing
    · rw [if_pos ho, State.ifOut_refused ho, State.refuse_answered]
    · rw [if_neg ho, State.ifOut_out ho]
      by_cases hrange : 7 ≤ range.toNat
      · rw [if_pos hrange, indexBelow_eq_none hrange]
        rfl
      · obtain ⟨k, hk⟩ : ∃ k : Fin 7, range.toNat = k.val := ⟨⟨range.toNat, by omega⟩, rfl⟩
        rw [if_neg hrange, indexBelow_eq_some hk]
        simp only [State.doneClamped_answered, calibrationOf_clamped, vector_set_eq_ofFn, status_ite_not_decide, hk]
        rfl
  · rw [hc.exec_withHead hi rfl, State.done_answered]
    rfl

/-! ### READ_HEAD (R65) -/

/-- The parts of the READ_HEAD payload, the calibration entries last. -/
def HeadUnit.parts (u : HeadUnit) : List (List Byte) :=
  [byte1 u.state.code, byte1 u.state.reasonCode, byte1 (u.maxRange.elim 255 Fin.val), byte1 u.timeoutSelect.val,
    bytes16 u.epoch, byte1 u.noReplies, byte1 (packBits [u.forceDoubt, u.quietTimer.isRunning, u.isHeld]),
    byte1 u.tagCode, u.calibration.toList.flatMap fun c => signedBE 2 c.offset ++ signedBE 2 c.gain]

theorem HeadUnit.payload_eq (u : HeadUnit) : u.payload = u.parts.flatten := by
  cases hm : u.maxRange <;> simp [HeadUnit.payload, HeadUnit.parts, hm]

theorem HeadUnit.parts_lengths (u : HeadUnit) : u.parts.map List.length = [1, 1, 1, 1, 2, 1, 1, 1, 28] := by
  simp [HeadUnit.parts]

/-- The `i`th field of the payload, before the calibration entries. -/
theorem HeadUnit.payload_field (u : HeadUnit) (i : Nat) {x : List Byte} {k n : Nat}
    (hk : (([1, 1, 1, 1, 2, 1, 1, 1, 28] : List Nat).take i).sum = k) (hx : u.parts[i]? = some x)
    (hn : ([1, 1, 1, 1, 2, 1, 1, 1, 28] : List Nat)[i]? = some n) : fieldAt u.payload k n = numBE x := by
  rw [u.payload_eq, ← hk]
  exact fieldAt_flatten u.parts_lengths i hx hn

theorem HeadUnit.payload_length (u : HeadUnit) : u.payload.length = 37 := by
  rw [u.payload_eq, List.length_flatten, u.parts_lengths]
  rfl

theorem HeadUnit.fieldAt_state (u : HeadUnit) : fieldAt u.payload 0 1 = u.state.code := by
  refine (u.payload_field 0 rfl rfl rfl).trans ?_
  rw [numBE_byte1]
  cases u.state <;> rfl

theorem HeadUnit.fieldAt_reason (u : HeadUnit) : fieldAt u.payload 1 1 = u.state.reasonCode := by
  refine (u.payload_field 1 rfl rfl rfl).trans ?_
  rw [numBE_byte1]
  rcases u.state with ⟨⟨⟩⟩ | _ | _ | _ <;> rfl

theorem HeadUnit.fieldAt_maxRange (u : HeadUnit) : fieldAt u.payload 2 1 = u.maxRange.elim 255 Fin.val := by
  refine (u.payload_field 2 rfl rfl rfl).trans ?_
  rw [numBE_byte1]
  refine Nat.mod_eq_of_lt ?_
  rcases u.maxRange with _ | m
  · decide
  · exact m.isLt.trans (by decide)

theorem HeadUnit.fieldAt_timeoutSelect (u : HeadUnit) : fieldAt u.payload 3 1 = u.timeoutSelect.val := by
  refine (u.payload_field 3 rfl rfl rfl).trans ?_
  rw [numBE_byte1]
  exact Nat.mod_eq_of_lt (u.timeoutSelect.isLt.trans (by decide))

theorem HeadUnit.fieldAt_epoch (u : HeadUnit) : fieldAt u.payload 4 2 = u.epoch.toNat :=
  (u.payload_field 4 rfl rfl rfl).trans (numBE_bytes16 _)

theorem HeadUnit.fieldAt_noReplies (u : HeadUnit) : fieldAt u.payload 6 1 = u.noReplies % 256 :=
  (u.payload_field 5 rfl rfl rfl).trans (numBE_byte1 _)

theorem HeadUnit.fieldAt_flags (u : HeadUnit) :
    fieldAt u.payload 7 1 = packBits [u.forceDoubt, u.quietTimer.isRunning, u.isHeld] := by
  refine (u.payload_field 6 rfl rfl rfl).trans ?_
  rw [numBE_byte1, packBits_mod_byte (by simp)]

theorem HeadUnit.fieldAt_tag (u : HeadUnit) : fieldAt u.payload 8 1 = u.tagCode := by
  refine (u.payload_field 7 rfl rfl rfl).trans ?_
  rw [numBE_byte1]
  refine Nat.mod_eq_of_lt ?_
  unfold HeadUnit.tagCode
  split
  next p _ _ _ _ => exact p.isLt.trans (by decide)
  next => decide
  next => decide

/-- A field of the `k`th calibration entry, four bytes from byte 9 on. -/
theorem HeadUnit.fieldAt_calibration (u : HeadUnit) (k : Fin 7) {j n at_ : Nat} (hj : j + n ≤ 4)
    (hat : at_ = 9 + (4 * k.val + j)) :
    fieldAt u.payload at_ n =
      fieldAt (signedBE 2 u.calibration[k.val].offset ++ signedBE 2 u.calibration[k.val].gain) j n := by
  have hfront : (u.parts.take 8).flatten.length = 9 := by
    rw [List.length_flatten, List.map_take, u.parts_lengths]
    rfl
  have hsplit : u.payload = (u.parts.take 8).flatten ++
      u.calibration.toList.flatMap fun c => signedBE 2 c.offset ++ signedBE 2 c.gain := by
    rw [u.payload_eq]
    simp [HeadUnit.parts]
  rw [hsplit, fieldAt_append_right (by omega), hfront, hat, Nat.add_sub_cancel_left]
  exact fieldAt_flatMap (fun c => by simp) (by simp) hj

theorem numBE_signedBE_two (x : Int) : numBE (signedBE 2 x) = (BitVec.ofInt 16 x).toNat := by
  rw [signedBE, numBE_bytesBE]
  exact Nat.mod_eq_of_lt (BitVec.ofInt 16 x).isLt

theorem HeadUnit.fieldAt_offset (u : HeadUnit) (k : Fin 7) :
    fieldAt u.payload (9 + 4 * k.val) 2 = (BitVec.ofInt 16 u.calibration[k.val].offset).toNat := by
  rw [u.fieldAt_calibration k (j := 0) (by decide) (by omega), fieldAt_append_left (signedBE_length _ _),
    numBE_signedBE_two]

theorem HeadUnit.fieldAt_gain (u : HeadUnit) (k : Fin 7) :
    fieldAt u.payload (11 + 4 * k.val) 2 = (BitVec.ofInt 16 u.calibration[k.val].gain).toNat := by
  rw [u.fieldAt_calibration k (j := 2) (by decide) (by omega), fieldAt_append_right (by simp), signedBE_length,
    fieldAt, List.drop_zero, List.take_of_length_le (by simp), numBE_signedBE_two]

/-- A request is held unsent while it waits for a running quiet timer (R46; log entry 17). -/
theorem HeadUnit.isHeld_iff (u : HeadUnit) :
    u.isHeld = true ↔ (∃ kind, u.request = some ⟨kind, false⟩) ∧ u.quietTimer.isRunning = true := by
  unfold HeadUnit.isHeld
  split
  next q hq => cases q; simp [hq]
  next hq => simp [hq]

/-! ### READ_HEAD_STATS (R66) -/

/-- The `i`th counter of the payload. -/
theorem HeadCounters.payload_field (c : HeadCounters) (i : Nat) {v : Nat}
    (hv : [c.measurements, c.doubtful, c.noReplies, c.late, c.linkErrors][i]? = some v) :
    fieldAt c.payload (2 * i) 2 = v % 65536 := by
  have hpayload : c.payload =
      [c.measurements, c.doubtful, c.noReplies, c.late, c.linkErrors].flatMap (bytesBE 2) := by
    simp [HeadCounters.payload]
  rw [hpayload, ← Nat.add_zero (2 * i), fieldAt_flatMap (bytesBE_length 2) hv (by decide), fieldAt, List.drop_zero,
    List.take_of_length_le (by simp), numBE_bytesBE]
  norm_num

/-- Settles O28: each field of the two payloads is the item at its place. -/
theorem readHeadAndStats : Obligations.ReadHeadAndStats := by
  refine fun s u i h hi => ⟨fun hc => ⟨(u.head h).payload, ?_⟩, fun hc => ⟨(u.head h).counters.payload, ?_⟩⟩
  · rw [hc.exec_withHead hi rfl, State.report_answered, HeadUnit.fieldAt_state, HeadUnit.fieldAt_reason,
      HeadUnit.fieldAt_maxRange, HeadUnit.fieldAt_flags, HeadUnit.fieldAt_tag]
    refine ⟨rfl, HeadUnit.payload_length _, rfl, rfl, ?_, HeadUnit.fieldAt_timeoutSelect _,
      HeadUnit.fieldAt_epoch _, HeadUnit.fieldAt_noReplies _, testBit_packBits _ 0, testBit_packBits _ 1, ?_,
      packBits_lt _, rfl, fun k => ⟨HeadUnit.fieldAt_offset _ k, HeadUnit.fieldAt_gain _ k⟩⟩
    · cases (u.head h).maxRange <;> rfl
    · rw [testBit_packBits]
      exact HeadUnit.isHeld_iff _
  · rw [hc.exec_withHead hi rfl, State.report_answered]
    exact ⟨rfl, rfl, HeadCounters.payload_field _ 0 rfl, HeadCounters.payload_field _ 1 rfl,
      HeadCounters.payload_field _ 2 rfl, HeadCounters.payload_field _ 3 rfl, HeadCounters.payload_field _ 4 rfl⟩

end Sys2Proof.Machine
end

section
/-! SUPPORT. A RESULT that is awaited, for a PART record whose reading is kept and is an attempt alone (R55, R57, R64,
R74, R76, R82 to R84, R87, R89, R92, R99, R103). -/

namespace Sys2Proof.Machine

/-! ### The state a kept reading is judged in -/

@[simp] theorem PerHead.set_set {α : Type} (v : PerHead α) (h : Head) (x y : α) :
    (v.set h x).set h y = v.set h y := by
  cases h <;> rfl

/-- The part after the head has taken a RESULT and its reading has been judged and counted (R55, R57, R64). -/
def State.judgedIn (s : State) (h : Head) (doubtful forced : Bool) : State :=
  { s with
    heads := s.heads.set h ((s.head h).afterResult doubtful forced)
    dial := { s.dial with busy := s.dial.busy.set (Station.head h).index.val false } }

@[simp] theorem State.head_judgedIn (s : State) (h k : Head) (doubtful forced : Bool) :
    (s.judgedIn h doubtful forced).head k =
      if k = h then (s.head h).afterResult doubtful forced else s.head k :=
  PerHead.get_set _ _ _ _

theorem State.inService_judgedIn_other (s : State) {h k : Head} (hk : k ≠ h) (doubtful forced : Bool) :
    (s.judgedIn h doubtful forced).inService k = s.inService k := by
  simp [State.inService, hk]

/-- Counting the doubtful reading and using the one-shot, on the head record that has taken the RESULT (R57, R64). -/
theorem HeadUnit.afterResult_judged (u : HeadUnit) (doubtful forced : Bool) :
    ({ u.afterResult false false with
        forceDoubt := (u.afterResult false false).forceDoubt && !forced
        counters := { (u.afterResult false false).counters with
          doubtful :=
            if doubtful then count16 (u.afterResult false false).counters.doubtful
            else (u.afterResult false false).counters.doubtful } } : HeadUnit) =
      u.afterResult doubtful forced := by
  simp [HeadUnit.afterResult, count16, bump, satAdd, Config.maxCount16]

theorem State.head_resultIn (s : State) (h : Head) :
    (s.resultIn h).head h = (s.head h).afterResult false false := by
  rw [State.resultIn_eq, State.head_def, PerHead.get_set, if_pos rfl]

theorem State.judgedIn_eq (s : State) (h : Head) (doubtful forced : Bool) :
    s.judgedIn h doubtful forced =
      (s.resultIn h).onHead h fun u =>
        { u with
          forceDoubt := u.forceDoubt && !forced
          counters := { u.counters with
            doubtful := if doubtful then count16 u.counters.doubtful else u.counters.doubtful } } := by
  have hheads : ∀ f : HeadUnit → HeadUnit, (s.resultIn h).onHead h f =
      { s.resultIn h with heads := s.heads.set h (f ((s.resultIn h).head h)) } := fun f => by
    rw [State.onHead, ← State.head_def, State.resultIn_eq, PerHead.set_set]
  rw [hheads, State.head_resultIn, HeadUnit.afterResult_judged, State.resultIn_eq]
  rfl

/-! ### The reading (R20, R57, R82, R83) -/

/-- The seven flags of the status byte (R20). -/
theorem getLsbD_statusFlags (k : Nat) : statusFlags.getLsbD k = decide (k < 7) := by
  by_cases hk : k < 8
  · revert k; decide
  · rw [BitVec.getLsbD_of_ge _ _ (by omega), decide_eq_false (by omega)]

/-- The maskable flags stand at positions 1 to 5 (R82). -/
theorem getLsbD_maskableFlags (k : Nat) : maskableFlags.getLsbD k = decide (1 ≤ k ∧ k ≤ 5) := by
  by_cases hk : k < 8
  · revert k; decide
  · rw [BitVec.getLsbD_of_ge _ _ (by omega), decide_eq_false (by omega)]

/-- A byte is not 0 when some bit of it is set. -/
theorem byte_ne_zero_iff (b : Byte) : b ≠ 0#8 ↔ ∃ k, b.getLsbD k = true := by
  constructor
  · intro h
    by_contra hn
    refine h (BitVec.eq_of_getLsbD_eq fun k _ => ?_)
    rw [BitVec.getLsbD_zero]
    exact Bool.eq_false_iff.mpr fun hk => hn ⟨k, hk⟩
  · rintro ⟨k, hk⟩ rfl
    simp at hk

/-- A sample is doubtful by OPEN, by HEAD_FAULT, or by a maskable flag that the mask enables (R82). -/
theorem headDoubts_iff (s : State) (h : Head) (range : Fin 7) (code : BitVec 24) (status : Byte) :
    headDoubts s.banks.active.doubtMask (some (s.sampleOf h range (code, status))) = true ↔
      s.statusDoubts status := by
  have hmasked : status &&& statusFlags &&& s.banks.active.doubtMask &&& maskableFlags ≠ 0#8 ↔
      ∃ k : Nat, 1 ≤ k ∧ k ≤ 5 ∧ status.getLsbD k = true ∧ s.banks.active.doubtMask.getLsbD k = true := by
    rw [byte_ne_zero_iff]
    refine exists_congr fun k => ?_
    simp only [BitVec.getLsbD_and, getLsbD_statusFlags, getLsbD_maskableFlags, Bool.and_eq_true,
      decide_eq_true_eq]
    constructor
    · rintro ⟨⟨⟨hs, -⟩, hm⟩, h1, h5⟩
      exact ⟨h1, h5, hs, hm⟩
    · rintro ⟨h1, h5, hs, hm⟩
      exact ⟨⟨⟨hs, by omega⟩, hm⟩, h1, h5⟩
  simp only [headDoubts, State.sampleOf, State.statusDoubts, Bool.or_eq_true, bne_iff_ne, hmasked, statusOpen,
    statusHeadFault, BitVec.getLsbD_and, getLsbD_statusFlags, or_assoc]
  simp

/-- The reading of a PART record, judged in the state in which its head has taken the RESULT. -/
theorem State.judge_part (s : State) (h : Head) (range : Fin 7) (code : BitVec 24) (status : Byte)
    {doubtful : Bool} (hd : doubtful = true ↔ s.statusDoubts status ∨ (s.head h).forceDoubt = true) :
    (s.resultIn h).judge .part h range (some (code, status)) =
      s.readingOf h range code status doubtful (s.head h).forceDoubt := by
  have hsample : (s.resultIn h).sampleOf h range (code, status) = s.sampleOf h range (code, status) := by
    simp only [State.sampleOf, State.head_resultIn]
    rfl
  have hforce : ((s.resultIn h).head h).forceDoubt = (s.head h).forceDoubt := by
    rw [State.head_resultIn]
    exact Bool.and_true _
  have hdoubt : (headDoubts s.banks.active.doubtMask (some (s.sampleOf h range (code, status))) ||
      (s.head h).forceDoubt) = doubtful := by
    rw [Bool.eq_iff_iff, Bool.or_eq_true, headDoubts_iff, hd]
  have hjudge : (s.resultIn h).judge .part h range (some (code, status)) =
      { head := h, sample := some (s.sampleOf h range (code, status)), epoch := (s.head h).epoch
        doubtful :=
          headDoubts s.banks.active.doubtMask (some (s.sampleOf h range (code, status))) ||
            (s.head h).forceDoubt
        forced := (s.head h).forceDoubt } := by
    simp only [State.judge, Option.map_some, hsample, hforce, beq_self_eq_true, Bool.true_and]
    rw [State.head_resultIn]
    rfl
  rw [hjudge, hdoubt]
  rfl

/-- A record that carries neither a mark nor RECALL_PENDING keeps its reading (R24). -/
theorem State.handReading_kept {s : State} {h : Head} {p : Fin 24} {r : LiveRecord} {openPair : Bool}
    (hk : s.Keeps h p r openPair) (range : Fin 7) (raw : Option (BitVec 24 × Byte)) :
    s.handReading h p range raw = s.keepReading p r openPair h range raw := by
  obtain ⟨hr, hp, hq⟩ := hk
  simp only [State.handReading, hr, hp, hq, if_true, Bool.false_eq_true, if_false]

/-- An awaited RESULT for a PART record that keeps its reading: the reading is judged, and then the dwell may end. -/
theorem State.Awaits.exec_result_kept {s : State} {h : Head} {p : Fin 24} {range : Fin 7} (ha : s.Awaits h p range)
    {r : LiveRecord} {openPair : Bool} (hk : s.Keeps h p r openPair) (hpart : r.kind = .part) (code : BitVec 24)
    (status : Byte) {doubtful : Bool}
    (hd : doubtful = true ↔ s.statusDoubts status ∨ (s.head h).forceDoubt = true) :
    exec (.result h (BitVec.ofNat 8 p.val) code status) s =
      .next ((s.judgedIn h doubtful (s.head h).forceDoubt).judgePart p r openPair
        (s.readingOf h range code status doubtful (s.head h).forceDoubt)).endDwellTest := by
  have hk' : (s.resultIn h).Keeps h p r openPair := hk
  have hjudged : (s.resultIn h).keepReading p r openPair h range (some (code, status)) =
      (s.judgedIn h doubtful (s.head h).forceDoubt).judgePart p r openPair
        (s.readingOf h range code status doubtful (s.head h).forceDoubt) := by
    simp only [State.keepReading, hpart, s.judge_part h range code status hd]
    rw [State.judgedIn_eq]
    rfl
  rw [ha.exec_result, State.handReading_kept hk', hjudged]

/-! ### An attempt of one reading (R84, R92) -/

section Single

variable {s : State} {r : LiveRecord} {h intended : Head} {openPair : Bool}

theorem State.SingleAttempt.attemptOf (ha : s.SingleAttempt r h openPair intended) :
    s.attemptOf r h openPair = .single := by
  unfold State.SingleAttempt at ha
  cases hm : s.banks.active.mode with
  | singleA => simp only [State.attemptOf, hm]
  | singleB => simp only [State.attemptOf, hm]
  | confirm =>
    simp only [hm] at ha
    cases h with
    | a => simp [State.attemptOf, hm, ha.1]
    | b =>
      rcases ha.1 with ho | hnil
      · simp [State.attemptOf, hm, ho]
      · simp [State.attemptOf, hm, hnil]

theorem Policy.apply_eq (p : Policy) (h : Head) : p.apply h = policyHead p h := by
  cases p <;> cases h <;> rfl

/-- The head of a retest, in the terms the statements use (R89). -/
theorem Recipe.retestHead_eq (rec : Recipe) {k : Nat} (hk : 1 ≤ k) (h : Head) :
    rec.retestHead k h = rec.retestsAt k h := by
  have hone : k ≤ 1 ↔ k = 1 := by omega
  unfold Recipe.retestHead Recipe.retestsAt
  cases rec.mode with
  | confirm => rfl
  | singleA => simp only [hone, Policy.apply_eq]
  | singleB => simp only [hone, Policy.apply_eq]

/-- The intended head of a SINGLE mode, in the terms the statements use (R92). -/
theorem Recipe.intendedHead_eq (rec : Recipe) (r : LiveRecord) (hm : rec.mode ≠ .confirm) :
    rec.intendedHead r = rec.intends r rec.mode.firstHead := by
  unfold Recipe.intendedHead Recipe.intends
  cases hl : r.readings.getLast? with
  | none => cases r.attempts <;> rfl
  | some x =>
    cases hk : r.attempts with
    | zero => rfl
    | succ n =>
      have hretest : rec.retestsAt (n + 1) x.head =
          if n + 1 = 1 then policyHead rec.slot1 x.head else policyHead rec.slot2 x.head := by
        unfold Recipe.retestsAt
        split
        next he => exact absurd he hm
        next => rfl
      simp only [Recipe.retestHead_eq rec (Nat.le_add_left 1 n), hretest, Nat.succ_ne_zero, if_false]

theorem State.SingleAttempt.substitutedFor (ha : s.SingleAttempt r h openPair intended) :
    s.banks.active.substitutedFor r h .single = if intended = h then none else some intended := by
  have hint := s.banks.active.intendedHead_eq r
  unfold State.SingleAttempt at ha
  cases hm : s.banks.active.mode with
  | singleA =>
    simp only [hm] at ha hint
    simp only [Recipe.substitutedFor, hm, hint (by decide), ha, MeasureMode.firstHead]
  | singleB =>
    simp only [hm] at ha hint
    simp only [Recipe.substitutedFor, hm, hint (by decide), ha, MeasureMode.firstHead]
  | confirm =>
    simp only [hm] at ha
    cases h with
    | a => simp [Recipe.substitutedFor, hm, ha.2, Head.other]
    | b => simp [Recipe.substitutedFor, hm, ha.2, Head.other]

theorem State.SingleAttempt.judgedIn (ha : s.SingleAttempt r h openPair intended) (doubtful forced : Bool) :
    (s.judgedIn h doubtful forced).SingleAttempt r h openPair intended := by
  cases h with
  | a =>
    have hb := s.inService_judgedIn_other (h := .a) (k := .b) (by decide) doubtful forced
    unfold State.SingleAttempt at ha ⊢
    rw [hb]
    exact ha
  | b => exact ha

/-- A kept reading that is an attempt alone completes that attempt. -/
theorem State.SingleAttempt.judgePart (ha : s.SingleAttempt r h openPair intended) (p : Fin 24) {x : Reading}
    (hx : x.head = h) : s.judgePart p r openPair x = s.completeAttempt p r x .single x.verdict := by
  simp only [State.judgePart, hx, ha.attemptOf]

end Single

/-! ### Grading (R98 to R103) -/

/-- Only a class of the one-shot is FORCED (R103). -/
theorem State.gradeClass_forced {s : State} {d : Int} (hn : (s.gradeClass d).1 = none) :
    (s.gradeClass d).2 = false := by
  unfold State.gradeClass at hn ⊢
  split at hn
  next => split at hn <;> simp_all
  next => rfl

theorem State.gradeRecord_eq (s : State) (r : LiveRecord) (g : Grading) :
    s.gradeRecord r g =
      { r with
        phase := if (s.gradeClass g.deviation).1 = none then .purgePending .noClass else .classified
        grading := some g
        cls := (s.gradeClass g.deviation).1
        flags := { r.flags with forced := r.flags.forced || (s.gradeClass g.deviation).2 } } := by
  have hforced := s.gradeClass_forced (d := g.deviation)
  revert hforced
  unfold State.gradeRecord
  rcases s.gradeClass g.deviation with ⟨_ | c, forced⟩
  · intro hforced
    obtain rfl : forced = false := hforced rfl
    simp
  · exact fun _ => rfl

/-! ### The completed attempt (R87, R92) -/

/-- HEAD_SUBSTITUTED is raised for a head that was intended and not used, and nothing else changes (R92). -/
theorem State.raiseSubstituted_eq (s : State) (intended taken : Head) :
    s.raiseSubstituted (if intended = taken then none else some intended) =
      { s with faults := s.faultsAfterSubstitution intended taken } := by
  unfold State.faultsAfterSubstitution
  by_cases hi : intended = taken
  · rw [if_pos hi, if_pos hi]
    rfl
  · rw [if_neg hi, if_neg hi]
    rfl

theorem State.faultsAfterSubstitution_judgedIn (s : State) (h intended : Head) (doubtful forced : Bool) :
    (s.judgedIn h doubtful forced).faultsAfterSubstitution intended h = s.faultsAfterSubstitution intended h := by
  by_cases hi : intended = h
  · simp only [State.faultsAfterSubstitution, if_pos hi]
    rfl
  · simp only [State.faultsAfterSubstitution, if_neg hi, State.head_judgedIn]
    rfl

theorem LiveRecord.degrade_eq (r : LiveRecord) (intended taken : Head) :
    r.degrade (if intended = taken then none else some intended) =
      { r with flags := { r.flags with degraded := r.flags.degraded || decide (intended ≠ taken) } } := by
  by_cases hi : intended = taken <;> simp [LiveRecord.degrade, hi]

section Completed

variable {s : State} {r : LiveRecord} {h intended : Head} {openPair : Bool} {x : Reading}
  (ha : s.SingleAttempt r h openPair intended) (hx : x.head = h)
include ha hx

/-- An attempt of one reading that is graded (R87): the force-class one-shot is spent (R103). -/
theorem State.SingleAttempt.complete_graded (p : Fin 24) (g : Grading) :
    s.completeAttempt p r x .single (some g) =
      { s with
        pockets := s.pockets.set p.val
          (.live
            { r.append x with
              attempts := r.attempts + 1
              flags :=
                { (r.append x).flags with
                  forced := r.flags.forced || (s.gradeClass g.deviation).2
                  degraded := r.flags.degraded || decide (intended ≠ h) }
              phase := if (s.gradeClass g.deviation).1 = none then .purgePending .noClass else .classified
              grading := some g
              cls := (s.gradeClass g.deviation).1 })
        forceClass := none
        faults := s.faultsAfterSubstitution intended h } := by
  have hafter : s.afterAttempt (r.append x) h (some g) =
      (s.gradeRecord { r.append x with attempts := r.attempts + 1 } g, false) := rfl
  unfold State.completeAttempt
  simp only [hx, ha.substitutedFor, hafter, State.gradeRecord_eq, State.raiseSubstituted_eq,
    LiveRecord.degrade_eq]
  rfl

/-- A doubtful attempt of one reading, within the retest limit (R87, R89): it waits for a retest, which is counted
for the current lot. -/
theorem State.SingleAttempt.complete_retested (hk : r.attempts + 1 ≤ s.banks.active.retestLimit)
    (hp : r.kind = .part) (p : Fin 24) :
    s.completeAttempt p r x .single none =
      { s with
        pockets := s.pockets.set p.val
          (.live
            { r.append x with
              attempts := r.attempts + 1
              flags := { (r.append x).flags with degraded := r.flags.degraded || decide (intended ≠ h) }
              phase := .pending (s.banks.active.retestsAt (r.attempts + 1) h) false })
        lot := if s.isCurrentLot r.lot = true then s.lot.retestedOne else s.lot
        faults := s.faultsAfterSubstitution intended h } := by
  have hafter : s.afterAttempt (r.append x) h none =
      ({ r.append x with
          attempts := r.attempts + 1
          phase := .pending (s.banks.active.retestsAt (r.attempts + 1) h) false }, true) := by
    rw [← Recipe.retestHead_eq _ (Nat.le_add_left 1 _)]
    exact if_pos hk
  unfold State.completeAttempt
  simp only [hx, ha.substitutedFor, hafter, State.raiseSubstituted_eq, LiveRecord.degrade_eq,
    State.reportPart_eq, hp, true_and, if_true, Option.isSome_none, Bool.false_eq_true, if_false]
  rfl

/-- A doubtful attempt of one reading, past the retest limit (R87). -/
theorem State.SingleAttempt.complete_noResult (hk : ¬r.attempts + 1 ≤ s.banks.active.retestLimit) (p : Fin 24) :
    s.completeAttempt p r x .single none =
      { s with
        pockets := s.pockets.set p.val
          (.live
            { r.append x with
              attempts := r.attempts + 1
              flags := { (r.append x).flags with degraded := r.flags.degraded || decide (intended ≠ h) }
              phase := .purgePending .noResult })
        faults := s.faultsAfterSubstitution intended h } := by
  have hafter : s.afterAttempt (r.append x) h none =
      ({ r.append x with attempts := r.attempts + 1, phase := .purgePending .noResult }, false) := if_neg hk
  unfold State.completeAttempt
  simp only [hx, ha.substitutedFor, hafter, State.raiseSubstituted_eq, LiveRecord.degrade_eq,
    Option.isSome_none, Bool.false_eq_true, if_false]
  rfl

end Completed

/-- Settles O31: the reading is not doubtful, and the attempt it completes grades the record. -/
theorem singleReadingIsGraded : Obligations.SingleReadingIsGraded := by
  intro s h intended p range r openPair code status d ha hk hpart hs hstatus hforce hd
  subst hd
  have hdoubt : false = true ↔ s.statusDoubts status ∨ (s.head h).forceDoubt = true := by
    simp [hstatus, hforce]
  have hverdict : (s.readingOf h range code status false false).verdict =
      some ⟨(convert s.banks.active.mantissa (s.head h).calibration[range.val] code).1,
        .one h (s.head h).epoch⟩ := rfl
  have hs' := hs.judgedIn false false
  rw [ha.exec_result_kept hk hpart code status hdoubt, hforce, hs'.judgePart p rfl, hverdict, hs'.complete_graded rfl,
    State.faultsAfterSubstitution_judgedIn]
  rfl

/-- Settles O32: the reading is doubtful, and the attempt it completes is retested or ends the measuring. -/
theorem doubtfulReadingIsRetested : Obligations.DoubtfulReadingIsRetested := by
  intro s h intended p range r openPair code status ha hk hpart hs hd
  have hdoubt : true = true ↔ s.statusDoubts status ∨ (s.head h).forceDoubt = true := by simp [hd]
  have hverdict : (s.readingOf h range code status true (s.head h).forceDoubt).verdict = none := rfl
  have hs' := hs.judgedIn true (s.head h).forceDoubt
  rw [ha.exec_result_kept hk hpart code status hdoubt, hs'.judgePart p rfl, hverdict]
  by_cases hlimit : r.attempts + 1 ≤ s.banks.active.retestLimit
  · rw [hs'.complete_retested rfl hlimit hpart, State.faultsAfterSubstitution_judgedIn]
    simp only [hlimit, true_and, if_true]
    rfl
  · rw [hs'.complete_noResult rfl hlimit, State.faultsAfterSubstitution_judgedIn]
    simp only [hlimit, false_and, if_false]
    rfl

end Sys2Proof.Machine
end

section
/-! SUPPORT. The six stages of the conversion, each by what it answers (R67, R69 to R75). -/

namespace Sys2Proof.Machine

/-! ### The stages (R69 to R72) -/

/-- Stage 1 takes the offset off and limits the difference to the code range (R69). -/
theorem stageOffset_eq_ite (cal : Calibration) (code : BitVec 24) :
    stageOffset cal code =
      if (code.toNat : Int) - cal.offset < 0 then 0
      else if 16777215 < (code.toNat : Int) - cal.offset then 16777215
      else (code.toNat : Int) - cal.offset := by
  have hfull : Config.codeFullScale = 16777215 := rfl
  simp only [stageOffset, clampInt, hfull]
  split_ifs <;> omega

theorem stageOffset_le (cal : Calibration) (code : BitVec 24) : stageOffset cal code ≤ 16777215 :=
  max_le (by norm_num) (min_le_left _ _)

/-- Stage 4 rounds once, to the nearest integer with a half upwards (R72). -/
theorem stageQuotient_rounds (n : Int) {dn : Int} (hd : 0 < dn) :
    (2 * stageQuotient n dn - 1) * dn ≤ 2 * n ∧ 2 * n < (2 * stageQuotient n dn + 1) * dn := by
  have hlow : stageQuotient n dn * (2 * dn) ≤ 2 * n + dn := Int.ediv_mul_le _ (by omega)
  have hhigh : 2 * n + dn < (stageQuotient n dn + 1) * (2 * dn) := Int.lt_ediv_add_one_mul_self _ (by omega)
  constructor <;> linarith

/-- The numerator is largest at full scale with the largest gain (R69, R70). -/
theorem stageNumerator_le {cal : Calibration} (hc : cal.InRange) {c1 : Int}
    (hhigh : c1 ≤ 16777215) : stageNumerator cal c1 ≤ 16777215 * 1005000 * 10000 := by
  obtain ⟨hmin, hmax⟩ := hc.gain
  have hgain : c1 * (1000000 + cal.gain) ≤ 16777215 * 1005000 :=
    mul_le_mul hhigh (by omega) (by omega) (by norm_num)
  unfold stageNumerator
  omega

/-- The denominator is smallest at mantissa 1000 (R71). -/
theorem le_stageDenominator {mantissa : Nat} (hm : 1000 ≤ mantissa) :
    1000 * 8388608 ≤ stageDenominator mantissa := by
  simp only [stageDenominator, Config.codeReference]
  omega

/-- The largest numerator over the smallest denominator rounds to 20,099,999 (R69 to R72). -/
theorem stageQuotient_le {mantissa : Nat} {cal : Calibration} (code : BitVec 24) (hm : 1000 ≤ mantissa)
    (hc : cal.InRange) :
    stageQuotient (stageNumerator cal (stageOffset cal code)) (stageDenominator mantissa) ≤ 20099999 := by
  have hn := stageNumerator_le hc (stageOffset_le cal code)
  have hd := le_stageDenominator hm
  exact Int.le_of_lt_add_one (Int.ediv_lt_of_lt_mul (by omega) (by omega))

/-! ### The range of a recipe (R67) -/

theorem Recipe.range_val {r : Recipe} (hlow : -3 ≤ r.exponent) (hhigh : r.exponent ≤ 3) :
    (r.range.val : Int) = r.exponent + 3 := by
  simp only [Recipe.range]
  omega

/-- Settles O29: the model's own stage 1 and stage 4 are the two values asked for. -/
theorem conversionRoundsOnce : Obligations.ConversionRoundsOnce := by
  refine ⟨fun m cal code hm _ hc => ?_, fun r => Recipe.range_val⟩
  have hd : 0 < stageDenominator m := lt_of_lt_of_le (by norm_num) (le_stageDenominator hm)
  obtain ⟨hlow, hhigh⟩ := stageQuotient_rounds (stageNumerator cal (stageOffset cal code)) hd
  exact ⟨stageOffset cal code, _, stageOffset_eq_ite cal code, hlow, hhigh, stageQuotient_nonneg code hm hc,
    stageQuotient_le code hm hc, rfl, deviationInRange_convert code hm hc⟩

end Sys2Proof.Machine
end

section
/-! SUPPORT. The walk over the class list (R98, R99) and the one-shot that takes its place (R103). -/

namespace Sys2Proof.Machine

/-! ### A class that matches (R98) -/

/-- A class matches by its catch-all, or by its window less the guard with both ends included (R98). -/
theorem ClassDef.classMatches_iff {c : ClassDef} {d : Int} :
    c.classMatches d = true ↔ c.catchAll = true ∨ (c.lo + c.guardBand ≤ d ∧ d ≤ c.hi - c.guardBand) := by
  simp [ClassDef.classMatches]

theorem ClassDef.not_classMatches_iff {c : ClassDef} {d : Int} :
    ¬ c.classMatches d = true ↔
      c.catchAll = false ∧ (d < c.lo + c.guardBand ∨ c.hi - c.guardBand < d) := by
  rw [ClassDef.classMatches_iff, not_or, not_and_or, Int.not_le, Int.not_le, Bool.not_eq_true]

/-- The class index is defined and its class matches: what the walk tests at each index (R99). -/
def Recipe.matchesAt (r : Recipe) (d : Int) (c : Fin 12) : Bool :=
  (r.cls c).any fun k => k.classMatches d

theorem Recipe.matchesAt_iff {r : Recipe} {d : Int} {c : Fin 12} :
    r.matchesAt d c = true ↔
      ∃ k, r.cls c = some k ∧ (k.catchAll = true ∨ (k.lo + k.guardBand ≤ d ∧ d ≤ k.hi - k.guardBand)) := by
  simp only [Recipe.matchesAt, Option.any_eq_true, ClassDef.classMatches_iff]

theorem Recipe.not_matchesAt_iff {r : Recipe} {d : Int} {c : Fin 12} :
    ¬ r.matchesAt d c = true ↔
      ∀ k, r.cls c = some k →
        k.catchAll = false ∧ (d < k.lo + k.guardBand ∨ k.hi - k.guardBand < d) := by
  simp only [Recipe.matchesAt, Option.any_eq_true, not_exists, not_and, ClassDef.not_classMatches_iff]

/-! ### The walk (R99) -/

theorem Recipe.walk_eq_find (r : Recipe) (d : Int) :
    r.walk d = (List.finRange 12).find? (r.matchesAt d) := by
  have htest : ∀ c, r.matchesAt d c =
      match r.cls c with
      | some k => k.classMatches d
      | none => false := by
    intro c
    unfold Recipe.matchesAt
    cases r.cls c <;> rfl
  rw [funext htest]
  rfl

/-- The walk stops at the lowest index that matches: the list of indexes is in order and names each once. -/
theorem Recipe.walk_eq_some_iff {r : Recipe} {d : Int} {c : Fin 12} :
    r.walk d = some c ↔ r.matchesAt d c = true ∧ ∀ j < c, ¬ r.matchesAt d j = true := by
  rw [Recipe.walk_eq_find]
  exact List.find?_ofFn_eq_some_of_injective Function.injective_id

theorem Recipe.walk_eq_none_iff {r : Recipe} {d : Int} :
    r.walk d = none ↔ ∀ j, ¬ r.matchesAt d j = true := by
  simp only [Recipe.walk_eq_find, List.find?_eq_none, List.mem_finRange, true_implies]

/-! ### Grading by the one-shot or by the walk (R103) -/

theorem State.gradeClass_unarmed {s : State} (h : s.forceClass = none) (d : Int) :
    s.gradeClass d = (s.banks.active.walk d, false) := by
  simp only [State.gradeClass, h]

theorem State.gradeClass_armed {s : State} {c : Fin 12} (h : s.forceClass = some c) (d : Int) :
    s.gradeClass d =
      if s.banks.active.cls c ≠ none then (some c, true) else (s.banks.active.walk d, false) := by
  simp only [State.gradeClass, h, Option.isSome_iff_ne_none]

/-- Settles O30: the walk is a search of the indexes in order, and the one-shot is split by whether it is armed. -/
theorem walkFindsTheFirstMatch : Obligations.WalkFindsTheFirstMatch := by
  refine ⟨fun r d c => ?_, fun r d => ?_, fun s d => ?_⟩
  · rw [Recipe.walk_eq_some_iff, Recipe.matchesAt_iff]
    simp only [Recipe.not_matchesAt_iff]
    exact and_congr_right' ⟨fun h j k hj => h j hj k, fun h j hj k => h j k hj⟩
  · simp only [Recipe.walk_eq_none_iff, Recipe.not_matchesAt_iff]
  · cases h : s.forceClass with
    | none => exact State.gradeClass_unarmed h d
    | some c => exact State.gradeClass_armed h d

end Sys2Proof.Machine
end

section
/-! SUPPORT. RESET_N asserted: what it leaves of the outputs and the link, and that no other row acts until its release
(R120, R174, R180; log entry 4). -/

namespace Sys2Proof.Machine

theorem Transaction.acrossReset_eq (t : Transaction) : t.acrossReset = if t = .idle then .idle else .notTaken := by
  cases t <;> rfl

/-- Every row but the resets and the edges of CS_N is an event, and so is kept from the part (R180; log entry 4). -/
theorem exec_inReset {i : Instr} {s : State} (h : s.lines.inReset = true) (hpower : ∀ e c, i ≠ .powerOnReset e c)
    (hreset : i ≠ .resetNAsserted) (hfall : i ≠ .transactionBegin) (hrise : riseOf i = none) :
    exec i s = .next s := by
  cases i with
  | powerOnReset estop cans => exact absurd rfl (hpower estop cans)
  | resetNAsserted => exact absurd rfl hreset
  | transactionBegin => exact absurd rfl hfall
  | writeTransaction sdi => cases hrise
  | poll sdi => cases hrise
  | discard sdi => cases hrise
  | readTransaction sdi => cases hrise
  | _ => exact congrArg Host.Outcome.next (if_pos h)

/-- Settles O4: the row writes the outputs and the link, RESET_N masks each line, the other rows are events. -/
theorem resetHoldsThePart : Obligations.ResetHoldsThePart := by
  refine ⟨fun s => ?_, fun s h => ?_, fun _ _ => exec_inReset⟩
  · rw [← Transaction.acrossReset_eq]
    rfl
  · simp [State.holdLine, State.attnLine, State.stepLine, State.rdyLine, State.sdoDriven, h]

end Sys2Proof.Machine
end

section
/-! SUPPORT. The gate and bin unit's settings: the fields clamped by SET_GATE and SET_BIN, and the commands of a bin
(R117, R130, R131). -/

namespace Sys2Proof.Machine

/-! ### The bin a command names (R130, R131) -/

theorem State.withBin_of_eq {s : State} {i : Byte} {g : Fin 12} (hi : i.toNat = g.val) (act : Fin 12 → Reply) :
    s.withBin i act = act g := by
  simp [State.withBin, indexBelow_eq_some hi]

/-- A command handed to the gate and bin unit, by what the bin it names replies. -/
theorem State.Hands.exec_withBin {s u : State} {c : Instr} (hc : s.Hands c u) {i : Byte} {g : Fin 12}
    (hi : i.toNat = g.val) {act : Fin 12 → Reply} (hr : replyOf c u = u.withBin i act) :
    exec c s = .next (act g).answered := by
  rw [hc.exec_eq, hr, State.withBin_of_eq hi]

/-! ### Clamped fields (R117, R130) -/

/-- SET_GATE keeps both fields exactly when each is in its range and the window is not below the pulse width. -/
theorem gateSettingsOf_eq_iff {p w : Nat} :
    gateSettingsOf p w = ⟨p, w⟩ ↔ 2 ≤ p ∧ p ≤ 20 ∧ 5 ≤ w ∧ w ≤ 50 ∧ p ≤ w := by
  simp only [gateSettingsOf, clampNat, GateSettings.mk.injEq]
  omega

theorem gateSettingsOf_clamped (p w : Nat) :
    (gateSettingsOf p w != ⟨p, w⟩) = !decide (2 ≤ p ∧ p ≤ 20 ∧ 5 ≤ w ∧ w ≤ 50 ∧ p ≤ w) :=
  congrArg not (decide_eq_decide.mpr gateSettingsOf_eq_iff)

/-- SET_BIN keeps both fields exactly when the capacity is not 0 and the threshold is not above it. -/
theorem binFields_clamped (cap thr : BitVec 16) :
    (binCapacityOf cap != cap.toNat || binThresholdOf cap thr != thr.toNat) =
      !decide (1 ≤ cap.toNat ∧ thr.toNat ≤ cap.toNat) := by
  have hkept : (binCapacityOf cap = cap.toNat ∧ binThresholdOf cap thr = thr.toNat) ↔
      1 ≤ cap.toNat ∧ thr.toNat ≤ cap.toNat := by
    unfold binThresholdOf binCapacityOf
    omega
  rw [Bool.eq_iff_iff, Bool.or_eq_true, bne_iff_ne, bne_iff_ne, ← not_and_or, hkept, Bool.not_eq_true',
    decide_eq_false_iff_not]

/-! ### The rows (R117, R120, R130, R132, R133) -/

theorem exec_pulseTimerExpiry {s : State} (hreset : s.lines.inReset = false) (c : Chute) :
    exec (.pulseTimerExpiry c) s =
      .next (s.onEjector c fun e => { e with driven := false, pulseTimer := .stopped }) := by
  show execPulseTimerExpiry c s = _
  rw [execPulseTimerExpiry, State.event_eq _ hreset]

theorem exec_canRemoved {s : State} (hreset : s.lines.inReset = false) (g : Fin 12) :
    exec (.canRemoved g) s = .next (s.onBin g fun b => { b with present := false, removedLatch := true }) := by
  show execCanRemoved g s = _
  rw [execCanRemoved, State.event_eq _ hreset]

theorem exec_canInserted {s : State} (hreset : s.lines.inReset = false) (g : Fin 12) :
    exec (.canInserted g) s = .next (s.onBin g fun b =>
      { b with present := true, fill := 0, swaps := b.swaps + 1#16, insertedLatch := true }) := by
  show execCanInserted g s = _
  rw [execCanInserted, State.event_eq _ hreset]

theorem replySetGate_answered (p w : Byte) (u : State) :
    (replySetGate p w u).answered =
      (u.onGates fun x => { x with settings := gateSettingsOf p.toNat w.toNat }).answer
        (if 2 ≤ p.toNat ∧ p.toNat ≤ 20 ∧ 5 ≤ w.toNat ∧ w.toNat ≤ 50 ∧ p.toNat ≤ w.toNat then .ok else .clamped)
        [] := by
  unfold replySetGate
  rw [State.doneClamped_answered, gateSettingsOf_clamped, status_ite_not_decide]

/-- Settles O40: each row writes its fields in the bin or ejector it names, and the clamps give the status. -/
theorem gateAndBinSettings : Obligations.GateAndBinSettings := by
  refine ⟨fun s c h => exec_pulseTimerExpiry h c, fun s g h => ⟨exec_canRemoved h g, exec_canInserted h g⟩,
    fun s u p w hc => ?_, fun s u i g hi => ⟨fun cap thr hc => ⟨_, rfl, ?_⟩, fun hc => ?_, fun hc => ?_⟩⟩
  · exact hc.exec_eq.trans (congrArg Host.Outcome.next (replySetGate_answered p w u))
  · rw [hc.exec_withBin hi rfl, State.doneClamped_answered, State.testFill_eq, State.bin_onBin, if_pos rfl,
      binFields_clamped, status_ite_not_decide]
    rfl
  · rw [hc.exec_withBin hi rfl, State.done_answered]
    rfl
  · rw [hc.exec_withBin hi rfl, State.done_answered]
    rfl

end Sys2Proof.Machine
end

section
/-! SUPPORT. READ_BIN: the chute an index names and the payload's fields by their place (R134). -/

namespace Sys2Proof.Machine

/-! ### The chute READ_BIN names -/

theorem chuteOf_eq_some {i : Byte} {c : Chute} (hi : i.toNat = (chuteIndex c).val) : chuteOf i = some c := by
  unfold chuteOf
  cases c with
  | gate g =>
    have hg : i.toNat = g.val := hi
    have hlt : i.toNat < 12 := hg ▸ g.isLt
    rw [dif_pos hlt]
    exact congrArg (some ∘ Chute.gate) (Fin.ext hg)
  | checkReturn =>
    have h12 : i.toNat = 12 := hi
    simp [h12]
  | purge =>
    have h13 : i.toNat = 13 := hi
    simp [h13]

theorem replyReadBin_of_eq {i : Byte} {c : Chute} (hi : i.toNat = (chuteIndex c).val) (s : State) :
    replyReadBin i s = (s.clearBin c).report (s.binPayload i c) := by
  simp [replyReadBin, chuteOf_eq_some hi]

/-! ### The parts of the payload -/

/-- The conditions and latches of a bin, bit 0 first (R134). -/
def Bin.flagBits (b : Bin) : List Bool :=
  [b.present, b.stalled, b.blocked, b.removedLatch, b.insertedLatch, b.isNearFull]

/-- What stands in the place of a bin for a chute that has none, with its count of misses (R134). -/
def noBinParts (misses : Nat) : List (List Byte) :=
  [byte1 255, byte1 0, bytesBE 2 0, bytesBE 2 0, bytesBE 2 0, byte1 misses, bytesBE 2 0]

/-- The parts that READ_BIN gives of a bin, and in their place for CR and PG (R134). -/
def State.binParts (s : State) : Chute → List (List Byte)
  | .gate g =>
    let b := s.bin g
    [byte1 b.reportedCode, byte1 (packBits b.flagBits), bytesBE 2 b.capacity, bytesBE 2 b.threshold,
      bytesBE 2 b.fill, byte1 b.misses, bytes16 b.swaps]
  | .checkReturn => noBinParts 0
  | .purge => noBinParts s.gates.purgeMisses

/-- The spill count that READ_BIN gives: that of the bin, and 0 where there is none (R134). -/
def State.spillsAt (s : State) : Chute → Nat
  | .gate g => (s.bin g).spills
  | _ => 0

/-- The parts that READ_BIN gives of an ejector, with the spill count and the common settings (R134). -/
def State.ejectorParts (s : State) (c : Chute) : List (List Byte) :=
  let e := s.ejector c
  [byte1 e.state.code, byte1 e.state.pocketCode, bytesBE 2 e.noise, bytesBE 2 (s.spillsAt c),
    byte1 s.gates.settings.pulseWidth, byte1 s.gates.settings.confirmWindow]

/-- The lengths of the parts of the payload, the index first (R134). -/
def readBinLengths : List Nat := [1, 1, 1, 2, 2, 2, 1, 2, 1, 1, 2, 2, 1, 1]

theorem State.binPayload_eq (s : State) (i : Byte) (c : Chute) :
    s.binPayload i c = ([i] :: (s.binParts c ++ s.ejectorParts c)).flatten := by
  cases c <;>
    simp [State.binPayload, State.binParts, State.ejectorParts, State.spillsAt, Bin.payload, Bin.flagBits,
      noBinParts, noBinPayload, ejectorPayload]

theorem State.binParts_length (s : State) (c : Chute) : (s.binParts c).length = 7 := by
  cases c <;> rfl

theorem State.readBinParts_lengths (s : State) (i : Byte) (c : Chute) :
    ([i] :: (s.binParts c ++ s.ejectorParts c)).map List.length = readBinLengths := by
  cases c <;> simp [State.binParts, noBinParts, State.ejectorParts, readBinLengths]

theorem State.binPayload_length (s : State) (i : Byte) (c : Chute) : (s.binPayload i c).length = 20 := by
  rw [s.binPayload_eq, List.length_flatten, s.readBinParts_lengths]
  rfl

/-! ### The fields of the payload, by their part -/

theorem State.binPayload_index (s : State) (i : Byte) (c : Chute) : fieldAt (s.binPayload i c) 0 1 = i.toNat := by
  rw [s.binPayload_eq]
  exact (fieldAt_flatten (s.readBinParts_lengths i c) 0 rfl rfl).trans (numBE_singleton i)

/-- The `j`th field of those that speak of the bin. -/
theorem State.binPayload_binField (s : State) (i : Byte) {c : Chute} (j : Nat) {x : List Byte} {k n : Nat}
    (hk : (readBinLengths.take (j + 1)).sum = k) (hx : (s.binParts c)[j]? = some x)
    (hn : readBinLengths[j + 1]? = some n) : fieldAt (s.binPayload i c) k n = numBE x := by
  have hj : j < (s.binParts c).length := (List.getElem?_eq_some_iff.mp hx).1
  rw [s.binPayload_eq, ← hk]
  refine fieldAt_flatten (s.readBinParts_lengths i c) (j + 1) ?_ hn
  rw [List.getElem?_cons_succ, List.getElem?_append_left hj, hx]

/-- The `j`th field of those that speak of the ejector and the settings. -/
theorem State.binPayload_ejectorField (s : State) (i : Byte) (c : Chute) (j : Nat) {x : List Byte} {k n : Nat}
    (hk : (readBinLengths.take (j + 8)).sum = k) (hx : (s.ejectorParts c)[j]? = some x)
    (hn : readBinLengths[j + 8]? = some n) : fieldAt (s.binPayload i c) k n = numBE x := by
  have hle : (s.binParts c).length ≤ j + 7 := by rw [s.binParts_length]; omega
  rw [s.binPayload_eq, ← hk]
  refine fieldAt_flatten (s.readBinParts_lengths i c) (j + 8) ?_ hn
  rw [List.getElem?_cons_succ, List.getElem?_append_right hle, s.binParts_length, Nat.add_sub_cancel, hx]

/-! ### The coded fields -/

theorem Bin.nearFullNow_eq_isNearFull (b : Bin) : b.nearFullNow = b.isNearFull := by
  simp [Bin.nearFullNow, Bin.isNearFull, bne, BEq.beq]

/-- The reported state is one of five codes, the first condition that applies (R115, R134). -/
theorem Bin.reportedCode_mod (b : Bin) :
    b.reportedCode % 256 =
      if b.present = false then 4 else if b.blocked = true then 3 else if b.stalled = true then 2
      else if b.capacity ≤ b.fill then 1 else 0 := by
  unfold Bin.reportedCode Bin.isFull
  simp only [Bool.not_eq_true', decide_eq_true_eq]
  split_ifs <;> rfl

theorem EjectorState.code_mod (x : EjectorState) :
    x.code % 256 = match x with | .idle => 0 | .fired _ _ => 1 | .settling => 2 := by
  cases x <;> rfl

theorem EjectorState.pocketCode_mod (x : EjectorState) :
    x.pocketCode % 256 = match x with | .fired p _ => p.val | _ => 255 := by
  cases x with
  | fired p sweep => exact Nat.mod_eq_of_lt (p.isLt.trans (by decide))
  | idle => rfl
  | settling => rfl

/-! ### READ_BIN (R134) -/

/-- The conditions and latches of a bin stand in byte 2. -/
theorem State.binPayload_flags (s : State) (i : Byte) (g : Fin 12) :
    fieldAt (s.binPayload i (.gate g)) 2 1 = packBits (s.bin g).flagBits :=
  (s.binPayload_binField i 1 rfl rfl rfl).trans
    ((numBE_byte1 _).trans (packBits_mod_byte (by simp [Bin.flagBits])))

/-- The fields that speak of a bin, and the spill count, for a chute that has no bin. -/
theorem State.binPayload_noBin {s : State} {c : Chute} {misses : Nat} (hparts : s.binParts c = noBinParts misses)
    (hspills : s.spillsAt c = 0) (i : Byte) :
    fieldAt (s.binPayload i c) 1 1 = 255 ∧ fieldAt (s.binPayload i c) 2 1 = 0 ∧
      fieldAt (s.binPayload i c) 3 2 = 0 ∧ fieldAt (s.binPayload i c) 5 2 = 0 ∧
      fieldAt (s.binPayload i c) 7 2 = 0 ∧ fieldAt (s.binPayload i c) 9 1 = misses % 256 ∧
      fieldAt (s.binPayload i c) 10 2 = 0 ∧ fieldAt (s.binPayload i c) 16 2 = 0 := by
  have hfield : ∀ (j : Nat) {x : List Byte} {k n : Nat}, (readBinLengths.take (j + 1)).sum = k →
      (noBinParts misses)[j]? = some x → readBinLengths[j + 1]? = some n →
      fieldAt (s.binPayload i c) k n = numBE x :=
    fun j _ _ _ hk hx hn => s.binPayload_binField i j hk (hparts ▸ hx) hn
  refine ⟨hfield 0 rfl rfl rfl, hfield 1 rfl rfl rfl, hfield 2 rfl rfl rfl, hfield 3 rfl rfl rfl,
    hfield 4 rfl rfl rfl, (hfield 5 rfl rfl rfl).trans (numBE_byte1 _), hfield 6 rfl rfl rfl, ?_⟩
  refine (s.binPayload_ejectorField i c 3 rfl rfl rfl).trans ?_
  rw [hspills]
  rfl

/-- Settles O41: an index names a chute or none, and each field of the payload is the item at its place. -/
theorem readBin : Obligations.ReadBin := by
  refine ⟨fun s u i h hi => ?_, fun s u i c h hi => ⟨u.binPayload i c, ?_, u.binPayload_length i c,
    u.binPayload_index i c, ?_, ?_, ?_, ?_, ?_, ?_, ?_⟩⟩
  · rw [h.exec_eq, show replyOf (.readBin i) u = _ from replyReadBin_of_le hi u, State.refuse_answered]
  · rw [h.exec_eq, show replyOf (.readBin i) u = _ from replyReadBin_of_eq hi u, State.report_answered]
    cases c <;> rfl
  · rintro g rfl
    rw [u.binPayload_flags i g, Bin.nearFullNow_eq_isNearFull]
    exact ⟨(u.binPayload_binField i 0 rfl rfl rfl).trans ((numBE_byte1 _).trans (Bin.reportedCode_mod _)),
      testBit_packBits _ 0, testBit_packBits _ 1, testBit_packBits _ 2, testBit_packBits _ 3, testBit_packBits _ 4,
      testBit_packBits _ 5, packBits_lt _,
      (u.binPayload_binField i 2 rfl rfl rfl).trans (numBE_bytesBE 2 _),
      (u.binPayload_binField i 3 rfl rfl rfl).trans (numBE_bytesBE 2 _),
      (u.binPayload_binField i 4 rfl rfl rfl).trans (numBE_bytesBE 2 _),
      (u.binPayload_binField i 5 rfl rfl rfl).trans (numBE_byte1 _),
      (u.binPayload_binField i 6 rfl rfl rfl).trans (numBE_bytes16 _),
      (u.binPayload_ejectorField i _ 3 rfl rfl rfl).trans (numBE_bytesBE 2 _)⟩
  · intro hc
    cases c with
    | gate g => exact absurd rfl (hc g)
    | checkReturn =>
      rw [if_neg (by decide)]
      exact State.binPayload_noBin (misses := 0) rfl rfl i
    | purge =>
      rw [if_pos rfl]
      exact State.binPayload_noBin rfl rfl i
  · exact (u.binPayload_ejectorField i c 0 rfl rfl rfl).trans ((numBE_byte1 _).trans (EjectorState.code_mod _))
  · exact (u.binPayload_ejectorField i c 1 rfl rfl rfl).trans ((numBE_byte1 _).trans (EjectorState.pocketCode_mod _))
  · exact (u.binPayload_ejectorField i c 2 rfl rfl rfl).trans (numBE_bytesBE 2 _)
  · exact (u.binPayload_ejectorField i c 4 rfl rfl rfl).trans (numBE_byte1 _)
  · exact (u.binPayload_ejectorField i c 5 rfl rfl rfl).trans (numBE_byte1 _)

end Sys2Proof.Machine
end

section
/-! SUPPORT. The recall of a failed head and epoch on one record, by its state, and on the whole part (R145 to R148,
R154). -/

namespace Sys2Proof.Machine

/-! ### Which records the recall reaches -/

theorem LiveRecord.readAt_iff (r : LiveRecord) (h : Head) (epoch : BitVec 16) :
    r.readAt h epoch = true ↔ ∃ x ∈ r.readings, x.head = h ∧ x.epoch = epoch := by
  simp only [LiveRecord.readAt, List.any_eq_true, Bool.and_eq_true, beq_iff_eq]

theorem LiveRecord.recallReaches_iff (r : LiveRecord) (failed : Head) (epoch : BitVec 16) :
    r.recallReaches failed epoch = true ↔
      r.kind = .part ∧ ∃ x ∈ r.readings, x.head = failed ∧ x.epoch = epoch := by
  rw [LiveRecord.recallReaches, Bool.and_eq_true, beq_iff_eq, LiveRecord.readAt_iff]

theorem LiveRecord.not_recallReaches {r : LiveRecord} {failed : Head} {epoch : BitVec 16}
    (h : r.kind = .check ∨ ∀ x ∈ r.readings, ¬(x.head = failed ∧ x.epoch = epoch)) :
    ¬r.recallReaches failed epoch = true := by
  rw [LiveRecord.recallReaches_iff]
  rintro ⟨hpart, x, hx, hread⟩
  rcases h with hcheck | hnone
  · rw [hpart] at hcheck
    cases hcheck
  · exact hnone x hx hread

/-! ### What the recall makes of one record (R145) -/

theorem LiveRecord.recallTo_eq (r : LiveRecord) (other : Head) (otherInService : Bool) :
    r.recallTo other otherInService =
      if r.flags.recalled = false ∧ otherInService = true then r.sendBack other else r.purge .recall := by
  simp only [LiveRecord.recallTo, Bool.and_eq_true, Bool.not_eq_true']

section Record
variable {s : State} {failed : Head} {epoch : BitVec 16} {r : LiveRecord}

theorem State.recallRecord_unreached (h : ¬r.recallReaches failed epoch = true) :
    s.recallRecord failed epoch r = r := if_neg h

theorem State.recallRecord_pendingOrClassified (h : r.recallReaches failed epoch = true)
    (hp : (∃ hd o, r.phase = .pending hd o) ∨ r.phase = .classified) :
    s.recallRecord failed epoch r = r.recallTo failed.other (s.inService failed.other) := by
  rcases hp with ⟨hd, o, hp⟩ | hp <;> simp only [State.recallRecord, h, hp, if_true]

theorem State.recallRecord_measuring (h : r.recallReaches failed epoch = true)
    (hp : ∃ hd o m, r.phase = .measuring hd o m) :
    s.recallRecord failed epoch r = { r with flags := { r.flags with recallPending := true } } := by
  obtain ⟨hd, o, m, hp⟩ := hp
  simp only [State.recallRecord, h, hp, if_true]

/-- A record on its way out, or done, is past the recall (R145, R147). -/
theorem State.recallRecord_leaving
    (hp : (∃ e, r.phase = .ejecting e) ∨ (∃ w, r.phase = .purgePending w) ∨ r.phase = .checkDone) :
    s.recallRecord failed epoch r = r := by
  rcases hp with ⟨e, hp⟩ | ⟨w, hp⟩ | hp <;> simp only [State.recallRecord, hp, ite_self]

/-! ### The recall on the whole part -/

theorem State.recall_pocket_live {p : Fin 24} (h : s.pocket p = .live r) :
    (s.recall failed epoch).pocket p = .live (s.recallRecord failed epoch r) := by
  rw [State.recall, State.onCounters_pocket, State.pocket_mapLive_live _ h]

theorem State.recall_pocket_other {p : Fin 24} (h : ∀ r, s.pocket p ≠ .live r) :
    (s.recall failed epoch).pocket p = s.pocket p := by
  rw [State.recall, State.onCounters_pocket, State.pocket_mapLive_other _ h]

end Record

/-- The records the recall sends back or purges at once (R145), and counts only in the current lot (R154; log
entry 16). -/
def State.recallCounts (s : State) (failed : Head) (epoch : BitVec 16) (r : LiveRecord) : Bool :=
  r.kind == .part && s.isCurrentLot r.lot && r.readAt failed epoch && r.recallsNow

theorem State.recallCounts_eq (s : State) (failed : Head) (epoch : BitVec 16) (r : LiveRecord) :
    s.recallCounts failed epoch r = (r.recallReaches failed epoch && r.recallsNow && s.isCurrentPart r) := by
  unfold State.recallCounts LiveRecord.recallReaches State.isCurrentPart
  cases r.kind == .part
  · rfl
  · simp only [Bool.true_and, Bool.and_assoc, Bool.and_comm (s.isCurrentLot r.lot)]

/-- The recall changes the pocket table and the recalled count, and nothing else (R145, R148). -/
theorem State.recall_eq (s : State) (failed : Head) (epoch : BitVec 16) :
    s.recall failed epoch =
      { s with
        pockets := (s.recall failed epoch).pockets
        lot := { s.lot with counters :=
          { s.lot.counters with
            recalled :=
              min 4294967295 (s.lot.counters.recalled + s.countLive (s.recallCounts failed epoch)) } } } := by
  simp only [funext (s.recallCounts_eq failed epoch), State.recall, State.onCounters, State.onLot, State.mapLive,
    satAdd, Config.maxCount32]

/-- Settles O36: each record by whether the recall reaches it and by its state, and the count by `State.recall_eq`. -/
theorem recallByRecordState : Obligations.RecallByRecordState := by
  intro s failed epoch
  refine ⟨fun p r hr => ?_, fun p hp => State.recall_pocket_other hp, _, rfl, s.recall_eq failed epoch⟩
  rw [State.recall_pocket_live hr]
  refine ⟨fun hout => ?_, fun hpart hread => ?_⟩
  · rw [State.recallRecord_unreached (LiveRecord.not_recallReaches hout)]
  · have hreach : r.recallReaches failed epoch = true := (r.recallReaches_iff failed epoch).mpr ⟨hpart, hread⟩
    refine ⟨fun hp => ?_, fun hp => ?_, fun hp => ?_⟩
    · rw [State.recallRecord_pendingOrClassified hreach hp, LiveRecord.recallTo_eq]
      rfl
    · rw [State.recallRecord_measuring hreach hp]
    · rw [State.recallRecord_leaving hp]

end Sys2Proof.Machine
end

section
/-! SUPPORT. The ledger of a lot: what the balance of R164 and the fixing of the ACTIVE bank (R155) read of the part,
and the entries by which it moves. -/

namespace Sys2Proof.Machine

/-! ### The ledger -/

/-- What a record is counted by: its kind and its lot number (R154). -/
def LiveRecord.holder (r : LiveRecord) : Kind × Nat := (r.kind, r.lot)

def PocketRecord.holder : PocketRecord → Option (Kind × Nat)
  | .live r => some r.holder
  | _ => none

/-- The lot with its loaded and retired counts, the load that may come, who holds each pocket, and the ACTIVE
bank. -/
structure Ledger where
  state : LotState
  number : Nat
  loaded : Nat
  retired : Nat
  coming : Option (Kind × Nat)
  holders : Vector (Option (Kind × Nat)) 24
  active : Recipe

/-- What a feed in flight will load (R29). -/
def FeedUnit.coming (u : FeedUnit) : Option (Kind × Nat) := u.inFlight.map fun f => (f.kind, f.lot)

def State.ledger (s : State) : Ledger where
  state := s.lot.state
  number := s.lot.number
  loaded := s.lot.counters.loaded
  retired := s.lot.counters.retired
  coming := s.feed.coming
  holders := s.pockets.map PocketRecord.holder
  active := s.banks.active

/-- A record moves the counts of the lot: a PART of the current lot (R154). -/
def Ledger.counts (l : Ledger) (x : Kind × Nat) : Bool :=
  x.1 == .part && (l.state != .noLot && l.number == x.2)

/-- The live PART records of the lot (R164). -/
def Ledger.parts (l : Ledger) : Nat := l.holders.count (some (.part, l.number))

/-- The balance of a lot, in the terms of its ledger (R161, R163, R164). -/
structure Ledger.Balanced (l : Ledger) : Prop where
  balance : l.state ≠ .noLot → l.loaded = l.retired + l.parts
  bound : l.state ≠ .noLot → l.loaded ≤ 16777215
  opened : l.state = .open_ → l.loaded < 16777215
  coming : l.state ≠ .noLot → l.coming = some (.part, l.number) → l.loaded < 16777215

/-- Counting live records by who holds them. -/
theorem State.countLive_eq_count (s : State) {test : LiveRecord → Bool} {x : Kind × Nat}
    (h : ∀ r, test r = (r.holder == x)) : s.countLive test = s.ledger.holders.count (some x) := by
  rw [State.countLive, Vector.countP_toList, Vector.count_eq_countP, State.ledger, Vector.countP_map]
  refine congrArg (Vector.countP · s.pockets) (funext fun y => ?_)
  cases y with
  | live r => exact h r
  | empty => rfl
  | unknown => rfl

theorem State.liveParts_eq (s : State) : s.liveParts = s.ledger.parts :=
  s.countLive_eq_count fun _ => rfl

theorem State.partComing_iff (s : State) :
    s.partComing ↔ s.ledger.coming = some (.part, s.ledger.number) := by
  simp [State.partComing, State.ledger, FeedUnit.coming, Option.map_eq_some_iff]

theorem State.balanced_iff (s : State) : s.Balanced ↔ s.ledger.Balanced := by
  constructor
  · rintro ⟨hbalance, hbound, hopened, hcoming⟩
    exact ⟨s.liveParts_eq ▸ hbalance, hbound, hopened, fun hn hc => hcoming hn (s.partComing_iff.mpr hc)⟩
  · rintro ⟨hbalance, hbound, hopened, hcoming⟩
    exact ⟨s.liveParts_eq ▸ hbalance, hbound, hopened, fun hn hc => hcoming hn (s.partComing_iff.mp hc)⟩

theorem Ledger.counts_iff (l : Ledger) (x : Kind × Nat) :
    l.counts x = true ↔ l.state ≠ .noLot ∧ x = (.part, l.number) := by
  obtain ⟨k, n⟩ := x
  simp only [Ledger.counts, Bool.and_eq_true, beq_iff_eq, bne_iff_ne, Prod.mk.injEq]
  exact ⟨fun ⟨hk, hs, hn⟩ => ⟨hs, hk, hn.symm⟩, fun ⟨hs, hk, hn⟩ => ⟨hk, hs, hn.symm⟩⟩

/-! ### Entries -/

/-- One entry in the ledger of a lot that stays in balance (R28 to R30, R122 to R124, R154, R159 to R164). -/
inductive Ledger.Entry (l : Ledger) : Ledger → Prop
  | feedBegins (k : Kind) (hopen : l.state = .open_) : Entry l { l with coming := some (k, l.number) }
  | feedEnds : Entry l { l with coming := none }
  /-- A load into an empty pocket; the largest serial takes the lot from OPEN to DRAINING (R29, R161). -/
  | loads (p : Fin 24) (x : Kind × Nat) (state : LotState) (hcoming : l.coming = some x)
      (hempty : l.holders[p.val] = none)
      (hstate : state = l.state ∨ l.state = .open_ ∧ state = .draining)
      (hlimit : state = .open_ → l.counts x = true → count32 l.loaded ≠ Config.maxPartSerial) :
      Entry l
        { l with
          state := state, coming := none, holders := l.holders.set p.val (some x)
          loaded := if l.counts x then count32 l.loaded else l.loaded }
  /-- A record leaves its pocket; a PART of the current lot is counted, unless its count is saturated. -/
  | retires (p : Fin 24) (x : Kind × Nat) (n : Nat) (hx : l.holders[p.val] = some x)
      (hn : l.retired < Config.maxCount32 → n = if l.counts x then l.retired + 1 else l.retired) :
      Entry l { l with holders := l.holders.set p.val none, retired := n }
  /-- Every record is given up, and each PART of the current lot is counted (R8). -/
  | givesUp (n : Nat)
      (hn : l.state ≠ .noLot → l.retired + l.parts ≤ Config.maxCount32 → n = l.retired + l.parts) :
      Entry l { l with holders := Vector.replicate 24 none, retired := n }
  | closes (hopen : l.state = .open_) : Entry l { l with state := .draining }
  | ends : Entry l { l with state := .noLot }

namespace Ledger.Balanced

variable {l : Ledger}

theorem feedBegins (h : l.Balanced) (k : Kind) (hopen : l.state = .open_) :
    Ledger.Balanced { l with coming := some (k, l.number) } :=
  ⟨h.balance, h.bound, h.opened, fun _ _ => h.opened hopen⟩

theorem feedEnds (h : l.Balanced) : Ledger.Balanced { l with coming := none } :=
  ⟨h.balance, h.bound, h.opened, fun _ hc => nomatch hc⟩

/-- The pocket of a load held no record: the load adds one to the live parts exactly when it is counted. -/
theorem loads (h : l.Balanced) {p : Fin 24} {x : Kind × Nat} {state : LotState} (hcoming : l.coming = some x)
    (hempty : l.holders[p.val] = none) (hstate : state = l.state ∨ l.state = .open_ ∧ state = .draining)
    (hlimit : state = .open_ → l.counts x = true → count32 l.loaded ≠ Config.maxPartSerial) :
    Ledger.Balanced
      { l with
        state := state, coming := none, holders := l.holders.set p.val (some x)
        loaded := if l.counts x then count32 l.loaded else l.loaded } := by
  have hlot : state ≠ .noLot → l.state ≠ .noLot := by
    rintro hn hl
    rcases hstate with rfl | ⟨hopen, -⟩
    · exact hn hl
    · rw [hl] at hopen; cases hopen
  have hopen : state = .open_ → l.state = .open_ := by
    rintro rfl
    rcases hstate with heq | ⟨-, hd⟩
    · exact heq.symm
    · cases hd
  have hparts : (l.holders.set p.val (some x)).count (some (.part, l.number)) =
      l.parts + if x = (.part, l.number) then 1 else 0 := by
    rw [Vector.count_set, hempty]
    simp [Ledger.parts]
  have hnext : l.counts x = true → l.loaded < 16777215 ∧ count32 l.loaded = l.loaded + 1 := by
    intro hx
    obtain ⟨hn, rfl⟩ := (l.counts_iff x).mp hx
    have := h.coming hn hcoming
    refine ⟨this, ?_⟩
    simp only [count32, bump, satAdd, Config.maxCount32]
    omega
  refine ⟨fun hn => ?_, fun hn => ?_, fun ho => ?_, fun _ hc => nomatch hc⟩
  · have hbalance := h.balance (hlot hn)
    have hx : l.counts x = true ↔ x = (.part, l.number) := by simp [l.counts_iff, hlot hn]
    show (if l.counts x then count32 l.loaded else l.loaded) = l.retired + _
    rw [Ledger.parts, hparts]
    by_cases hc : l.counts x = true
    · rw [if_pos hc, if_pos (hx.mp hc), (hnext hc).2]; omega
    · rw [if_neg hc, if_neg fun he => hc (hx.mpr he)]; omega
  · have := h.bound (hlot hn)
    dsimp only
    split
    next hc => have := hnext hc; omega
    next => exact this
  · have := h.opened (hopen ho)
    dsimp only
    split
    next hc =>
      have := hlimit ho hc
      have := hnext hc
      simp only [Config.maxPartSerial] at *
      omega
    next => exact this

/-- The record that leaves a pocket was among the live parts exactly when it is counted. -/
theorem retires (h : l.Balanced) {p : Fin 24} {x : Kind × Nat} {n : Nat} (hx : l.holders[p.val] = some x)
    (hn : l.retired < Config.maxCount32 → n = if l.counts x then l.retired + 1 else l.retired) :
    Ledger.Balanced { l with holders := l.holders.set p.val none, retired := n } := by
  refine ⟨fun hlot => ?_, h.bound, h.opened, h.coming⟩
  have hbalance := h.balance hlot
  have hbound := h.bound hlot
  have hretired : l.retired < Config.maxCount32 := by simp only [Config.maxCount32]; omega
  have hparts : (l.holders.set p.val none).count (some (.part, l.number)) =
      l.parts - if x = (.part, l.number) then 1 else 0 := by
    rw [Vector.count_set, hx]
    simp [Ledger.parts]
  have hc : l.counts x = true ↔ x = (.part, l.number) := by simp [l.counts_iff, hlot]
  show l.loaded = n + _
  rw [Ledger.parts, hparts, hn hretired]
  by_cases he : x = (.part, l.number)
  · have hpos : 0 < l.parts := by
      rw [Ledger.parts, Vector.count_pos_iff, ← he, ← hx]
      exact Vector.getElem_mem p.isLt
    rw [if_pos (hc.mpr he), if_pos he]; omega
  · rw [if_neg fun hh => he (hc.mp hh), if_neg he]; omega

theorem givesUp (h : l.Balanced) {n : Nat}
    (hn : l.state ≠ .noLot → l.retired + l.parts ≤ Config.maxCount32 → n = l.retired + l.parts) :
    Ledger.Balanced { l with holders := Vector.replicate 24 none, retired := n } := by
  refine ⟨fun hlot => ?_, h.bound, h.opened, h.coming⟩
  have hbalance := h.balance hlot
  have hbound := h.bound hlot
  have hnone : (Vector.replicate 24 (none : Option (Kind × Nat))).count (some (.part, l.number)) = 0 := by
    simp [Vector.count_replicate]
  have := hn hlot (by simp only [Config.maxCount32]; omega)
  simp only [Ledger.parts, hnone] at *
  omega

theorem closes (h : l.Balanced) (hopen : l.state = .open_) : Ledger.Balanced { l with state := .draining } :=
  have hlot : l.state ≠ .noLot := by rw [hopen]; decide
  ⟨fun _ => h.balance hlot, fun _ => h.bound hlot, fun ho => LotState.noConfusion ho, fun _ => h.coming hlot⟩

/-- With no lot there is nothing to balance. -/
theorem of_noLot (h : l.state = .noLot) : l.Balanced :=
  ⟨fun hn => absurd h hn, fun hn => absurd h hn, fun ho => (LotState.noConfusion (h.symm.trans ho)),
    fun hn => absurd h hn⟩

end Ledger.Balanced

/-- Every entry keeps the balance (R164). -/
theorem Ledger.Entry.balanced {l m : Ledger} (he : l.Entry m) (h : l.Balanced) : m.Balanced := by
  cases he with
  | feedBegins k hopen => exact h.feedBegins k hopen
  | feedEnds => exact h.feedEnds
  | loads p x state hcoming hempty hstate hlimit => exact h.loads hcoming hempty hstate hlimit
  | retires p x n hx hn => exact h.retires hx hn
  | givesUp n hn => exact h.givesUp hn
  | closes hopen => exact h.closes hopen
  | ends => exact .of_noLot rfl

/-- No entry touches the ACTIVE bank (R155). -/
theorem Ledger.Entry.active_eq {l m : Ledger} (he : l.Entry m) : m.active = l.active := by
  cases he <;> rfl

/-- A run of entries keeps the balance and the ACTIVE bank. -/
theorem Ledger.balanced_of_entries {l m : Ledger} (h : Relation.ReflTransGen Ledger.Entry l m) (hl : l.Balanced) :
    m.Balanced := by
  induction h with
  | refl => exact hl
  | tail _ he ih => exact he.balanced ih

theorem Ledger.active_eq_of_entries {l m : Ledger} (h : Relation.ReflTransGen Ledger.Entry l m) :
    m.active = l.active := by
  induction h with
  | refl => rfl
  | tail _ he ih => exact he.active_eq.trans ih

/-! ### The opening of a lot -/

/-- The ledger after an opening with a recipe (R158). -/
def Ledger.opening (l : Ledger) (recipe : Recipe) : Ledger :=
  { l with state := .open_, number := nextLotNumber l.number, loaded := 0, retired := 0, active := recipe }

/-- A lot opens in balance when no record holds its number (R156 test 3). -/
theorem Ledger.opening_balanced {l : Ledger}
    (hfree : ∀ p : Fin 24, l.holders[p.val] ≠ some (.part, nextLotNumber l.number)) (recipe : Recipe) :
    (l.opening recipe).Balanced := by
  have hparts : (l.opening recipe).parts = 0 := by
    rw [Ledger.parts, Vector.count_eq_zero]
    intro hmem
    obtain ⟨i, hi, heq⟩ := Vector.getElem_of_mem hmem
    exact hfree ⟨i, hi⟩ heq
  exact ⟨fun _ => by rw [hparts]; rfl, fun _ => Nat.zero_le _, fun _ => Nat.zero_lt_succ _,
    fun _ _ => Nat.zero_lt_succ _⟩

end Sys2Proof.Machine
end

section
/-! SUPPORT. What each operation of the part enters in the ledger of a lot: nothing, for all that only changes the
work on a record. -/

namespace Sys2Proof.Machine

/-! ### Who holds a record -/

@[simp] theorem LiveRecord.holder_purge (r : LiveRecord) (reason : PurgeReason) :
    (r.purge reason).holder = r.holder := rfl
@[simp] theorem LiveRecord.holder_clearRecallPending (r : LiveRecord) :
    r.clearRecallPending.holder = r.holder := rfl
@[simp] theorem LiveRecord.holder_append (r : LiveRecord) (x : Reading) : (r.append x).holder = r.holder := rfl
@[simp] theorem LiveRecord.holder_degrade (r : LiveRecord) (x : Option Head) :
    (r.degrade x).holder = r.holder := rfl
@[simp] theorem LiveRecord.holder_recallTo (r : LiveRecord) (other : Head) (inService : Bool) :
    (r.recallTo other inService).holder = r.holder := by
  unfold LiveRecord.recallTo
  split <;> rfl
@[simp] theorem LiveRecord.holder_abort (r : LiveRecord) : r.abort.holder = r.holder := by
  unfold LiveRecord.abort
  split <;> rfl
@[simp] theorem LiveRecord.holder_softReset (r : LiveRecord) : r.softReset.holder = r.holder := by
  unfold LiveRecord.softReset
  split <;> rfl
@[simp] theorem LiveRecord.holder_lowerLap (r : LiveRecord) (limit : Nat) :
    (r.lowerLap limit).holder = r.holder := by
  unfold LiveRecord.lowerLap
  split <;> rfl
@[simp] theorem Recipe.holder_countLap (rec : Recipe) (r : LiveRecord) :
    (rec.countLap r).holder = r.holder := by
  rw [Recipe.countLap_eq]
  rfl
@[simp] theorem State.holder_checkDoneTest (s : State) (r : LiveRecord) :
    (s.checkDoneTest r).holder = r.holder := by
  unfold State.checkDoneTest
  split <;> rfl
@[simp] theorem State.holder_recallRecord (s : State) (failed : Head) (epoch : BitVec 16) (r : LiveRecord) :
    (s.recallRecord failed epoch r).holder = r.holder := by
  unfold State.recallRecord
  split
  · split
    next => exact r.holder_recallTo _ _
    next => exact r.holder_recallTo _ _
    all_goals rfl
  · rfl
@[simp] theorem State.holder_gradeRecord (s : State) (r : LiveRecord) (g : Grading) :
    (s.gradeRecord r g).holder = r.holder := by
  unfold State.gradeRecord
  split <;> rfl
@[simp] theorem State.holder_afterAttempt (s : State) (r : LiveRecord) (h : Head) (verdict : Option Grading) :
    (s.afterAttempt r h verdict).1.holder = r.holder := by
  unfold State.afterAttempt
  split
  next g => exact s.holder_gradeRecord _ g
  next =>
    dsimp only
    split <;> rfl

theorem State.ledger_holder (s : State) (p : Fin 24) : s.ledger.holders[p.val] = (s.pocket p).holder := by
  simp [State.ledger, State.pocket]

theorem State.ledger_holder_of_live {s : State} {p : Fin 24} {r : LiveRecord} (h : s.pocket p = .live r) :
    s.ledger.holders[p.val] = some r.holder := by
  rw [State.ledger_holder, h]
  rfl

/-! ### One change of the state -/

theorem State.ledger_of_same {s t : State} (hlot : t.lot = s.lot) (hfeed : t.feed = s.feed)
    (hpockets : t.pockets = s.pockets) (hbanks : t.banks = s.banks) : t.ledger = s.ledger := by
  rw [State.ledger, hlot, hfeed, hpockets, hbanks]
  rfl

@[simp] theorem State.onDial_ledger (s : State) (f : Dial → Dial) : (s.onDial f).ledger = s.ledger := rfl
@[simp] theorem State.onCheck_ledger (s : State) (f : CheckUnit → CheckUnit) :
    (s.onCheck f).ledger = s.ledger := rfl
@[simp] theorem State.onGates_ledger (s : State) (f : GateUnit → GateUnit) : (s.onGates f).ledger = s.ledger := rfl
@[simp] theorem State.onFaults_ledger (s : State) (f : FaultUnit → FaultUnit) :
    (s.onFaults f).ledger = s.ledger := rfl
@[simp] theorem State.onLink_ledger (s : State) (f : Link → Link) : (s.onLink f).ledger = s.ledger := rfl
@[simp] theorem State.onHead_ledger (s : State) (h : Head) (f : HeadUnit → HeadUnit) :
    (s.onHead h f).ledger = s.ledger := rfl
@[simp] theorem State.onBin_ledger (s : State) (g : Fin 12) (f : Bin → Bin) : (s.onBin g f).ledger = s.ledger := rfl
@[simp] theorem State.onEjector_ledger (s : State) (c : Chute) (f : Ejector → Ejector) :
    (s.onEjector c f).ledger = s.ledger := rfl
@[simp] theorem State.onPendingBank_ledger (s : State) (f : Recipe → Recipe) :
    (s.onPendingBank f).ledger = s.ledger := rfl
@[simp] theorem State.joinBusy_ledger (s : State) (st : Station) : (s.joinBusy st).ledger = s.ledger := rfl
@[simp] theorem State.leaveBusy_ledger (s : State) (st : Station) : (s.leaveBusy st).ledger = s.ledger := rfl
@[simp] theorem State.raise_ledger (s : State) (f : Flag) : (s.raise f).ledger = s.ledger := rfl
@[simp] theorem State.raiseGateBlocked_ledger (s : State) (g : Fin 12) :
    (s.raiseGateBlocked g).ledger = s.ledger := rfl
@[simp] theorem State.raisePocket_ledger (s : State) (c : PocketCapture) :
    (s.raisePocket c).ledger = s.ledger := rfl
@[simp] theorem State.raiseHead_ledger (s : State) (c : HeadCapture) : (s.raiseHead c).ledger = s.ledger := rfl
@[simp] theorem State.raiseLost_ledger (s : State) (h : Head) : (s.raiseLost h).ledger = s.ledger := rfl
@[simp] theorem State.nextEpoch_ledger (s : State) (h : Head) : (s.nextEpoch h).ledger = s.ledger := rfl
@[simp] theorem State.answer_ledger (s : State) (status : Status) (payload : List Byte) :
    (s.answer status payload).ledger = s.ledger := rfl
@[simp] theorem State.fireEjector_ledger (s : State) (c : Chute) (p : Fin 24) (sweep : Bool) :
    (s.fireEjector c p sweep).ledger = s.ledger := rfl
@[simp] theorem State.testFill_ledger (s : State) (g : Fin 12) (b : Bin) : (s.testFill g b).ledger = s.ledger :=
  State.ledger_of_same (by simp) (by simp) (by simp) (by simp)
@[simp] theorem State.endDwellTest_ledger (s : State) : s.endDwellTest.ledger = s.ledger :=
  State.ledger_of_same (by simp) (by simp) (by simp) (by simp)
@[simp] theorem State.heldTest_ledger (s : State) : s.heldTest.ledger = s.ledger :=
  State.ledger_of_same (by simp) (by simp) (by simp) (by simp)
@[simp] theorem State.reportSevere_ledger (s before : State) : (s.reportSevere before).ledger = s.ledger :=
  State.ledger_of_same (by simp) (by simp) (by simp) (by simp)

/-- A change of the feed unit that keeps what will be loaded. -/
theorem State.onFeed_ledger {s : State} {f : FeedUnit → FeedUnit} (h : (f s.feed).coming = s.feed.coming) :
    (s.onFeed f).ledger = s.ledger := by
  simp only [State.ledger, State.onFeed_lot, State.onFeed_feed, State.onFeed_pockets, State.onFeed_banks, h]

theorem State.onCounters_ledger_eq (s : State) (f : LotCounters → LotCounters) :
    (s.onCounters f).ledger =
      { s.ledger with loaded := (f s.lot.counters).loaded, retired := (f s.lot.counters).retired } := rfl

/-- A change of counters that the balance does not rest on. -/
theorem State.onCounters_ledger {s : State} {f : LotCounters → LotCounters}
    (hl : (f s.lot.counters).loaded = s.lot.counters.loaded)
    (hr : (f s.lot.counters).retired = s.lot.counters.retired) : (s.onCounters f).ledger = s.ledger := by
  rw [State.onCounters_ledger_eq, hl, hr]
  rfl

theorem State.reportPart_ledger {s : State} {r : LiveRecord} {f : LotCounters → LotCounters}
    (hl : (f s.lot.counters).loaded = s.lot.counters.loaded)
    (hr : (f s.lot.counters).retired = s.lot.counters.retired) : (s.reportPart r f).ledger = s.ledger := by
  unfold State.reportPart
  split
  · exact State.onCounters_ledger hl hr
  · rfl

theorem State.setPocket_ledger (s : State) (p : Fin 24) (x : PocketRecord) :
    (s.setPocket p x).ledger = { s.ledger with holders := s.ledger.holders.set p.val x.holder } := by
  simp only [State.ledger, State.setPocket_lot, State.setPocket_feed, State.setPocket_pockets,
    State.setPocket_banks, Vector.map_set]

/-- A record written over one of the same kind and lot. -/
theorem State.setLive_ledger {s : State} {p : Fin 24} {r : LiveRecord}
    (h : s.ledger.holders[p.val] = some r.holder) : (s.setLive p r).ledger = s.ledger := by
  have hset : s.ledger.holders.set p.val (PocketRecord.live r).holder = s.ledger.holders := by
    show s.ledger.holders.set p.val (some r.holder) = _
    rw [← h, Vector.set_getElem_self]
  rw [State.setLive, State.setPocket_ledger, hset]

/-- A pocket made EMPTY or UNKNOWN that held no record. -/
theorem State.setPocket_ledger_of_none {s : State} {p : Fin 24} {x : PocketRecord}
    (h : (s.pocket p).holder = none) (hx : x.holder = none) : (s.setPocket p x).ledger = s.ledger := by
  have hset : s.ledger.holders.set p.val x.holder = s.ledger.holders := by
    rw [hx, ← h, ← State.ledger_holder, Vector.set_getElem_self]
  rw [State.setPocket_ledger, hset]

theorem State.mapLive_ledger_eq (s : State) (f : LiveRecord → PocketRecord) :
    (s.mapLive f).ledger = { s.ledger with holders := (s.mapLive f).ledger.holders } := by
  simp only [State.ledger, State.mapLive_lot, State.mapLive_feed, State.mapLive_banks]

/-- Every live record changed by a rule that keeps kind and lot. -/
theorem State.mapLive_ledger (s : State) {f : LiveRecord → LiveRecord} (hf : ∀ r, (f r).holder = r.holder) :
    (s.mapLive fun r => .live (f r)).ledger = s.ledger := by
  have hpockets : (s.mapLive fun r => .live (f r)).ledger.holders = s.ledger.holders := by
    ext i hi : 1
    have hp := State.ledger_holder (s.mapLive fun r => .live (f r)) ⟨i, hi⟩
    have hq := State.ledger_holder s ⟨i, hi⟩
    rw [State.pocket_mapLive] at hp
    refine hp.trans (Eq.trans ?_ hq.symm)
    cases s.pocket ⟨i, hi⟩ with
    | live r => exact congrArg some (hf r)
    | _ => rfl
  rw [State.mapLive_ledger_eq, hpockets]

/-! ### The classifier and the check unit -/

@[simp] theorem State.headLeft_ledger (s : State) : s.headLeft.ledger = s.ledger :=
  s.mapLive_ledger s.holder_checkDoneTest

@[simp] theorem State.recall_ledger (s : State) (failed : Head) (epoch : BitVec 16) :
    (s.recall failed epoch).ledger = s.ledger :=
  (State.onCounters_ledger rfl rfl).trans (s.mapLive_ledger (s.holder_recallRecord failed epoch))

@[simp] theorem State.checkFail_ledger (s : State) (h : Head) (drift : Int) :
    (s.checkFail h drift).ledger = s.ledger := by
  simp [State.checkFail]

@[simp] theorem State.checkDecision_ledger (s : State) (x : Reading) :
    (s.checkDecision x).ledger = s.ledger := by
  unfold State.checkDecision
  split
  · dsimp only
    split <;> simp
  · rfl

@[simp] theorem State.raiseSubstituted_ledger (s : State) (x : Option Head) :
    (s.raiseSubstituted x).ledger = s.ledger := by
  cases x <;> rfl

section Record

variable {s : State} {p : Fin 24} {r : LiveRecord}

theorem State.applyRecall_ledger (h : s.ledger.holders[p.val] = some r.holder) (measuring : Head) :
    (s.applyRecall p r measuring).ledger = s.ledger :=
  (State.reportPart_ledger rfl rfl).trans (State.setLive_ledger (by simpa using h))

/-- A completed attempt counts at most a retest. -/
theorem State.completeAttempt_ledger (h : s.ledger.holders[p.val] = some r.holder) (x : Reading)
    (attempt : Attempt) (verdict : Option Grading) :
    (s.completeAttempt p r x attempt verdict).ledger = s.ledger := by
  have hset : (s.setLive p ((s.afterAttempt (r.append x) x.head verdict).1.degrade
      (s.banks.active.substitutedFor r x.head attempt))).ledger = s.ledger :=
    State.setLive_ledger (by simpa using h)
  dsimp only [State.completeAttempt]
  rw [State.raiseSubstituted_ledger]
  cases verdict.isSome <;> cases (s.afterAttempt (r.append x) x.head verdict).2
  · exact hset
  · exact (State.reportPart_ledger rfl rfl).trans hset
  · exact hset
  · exact (State.reportPart_ledger rfl rfl).trans hset

theorem State.judgePart_ledger (h : s.ledger.holders[p.val] = some r.holder) (openPair : Bool) (x : Reading) :
    (s.judgePart p r openPair x).ledger = s.ledger := by
  unfold State.judgePart
  split
  next => exact State.setLive_ledger h
  next => exact State.completeAttempt_ledger h x _ _
  next => exact State.completeAttempt_ledger h x _ _

theorem State.judgeCheck_ledger (h : s.ledger.holders[p.val] = some r.holder) (x : Reading) :
    (s.judgeCheck p r x).ledger = s.ledger := by
  have hd : (s.checkDecision x).ledger.holders[p.val] = some r.holder := by simpa using h
  have hkeep : ∀ r' : LiveRecord, r'.holder = r.holder →
      ((s.checkDecision x).setLive p r').ledger = s.ledger := fun r' hr =>
    (State.setLive_ledger (hr ▸ hd)).trans (s.checkDecision_ledger x)
  dsimp only [State.judgeCheck]
  split
  · exact hkeep _ (State.holder_checkDoneTest _ _)
  · exact hkeep _ rfl

theorem State.keepReading_ledger (h : s.ledger.holders[p.val] = some r.holder) (openPair : Bool) (hd : Head)
    (range : Fin 7) (raw : Option (BitVec 24 × Byte)) :
    (s.keepReading p r openPair hd range raw).ledger = s.ledger := by
  dsimp only [State.keepReading]
  split
  next => exact (State.judgePart_ledger (by simpa using h) _ _).trans (State.onHead_ledger _ _ _)
  next => exact (State.judgeCheck_ledger (by simpa using h) _).trans (State.onHead_ledger _ _ _)

end Record

@[simp] theorem State.handReading_ledger (s : State) (h : Head) (p : Fin 24) (range : Fin 7)
    (raw : Option (BitVec 24 × Byte)) : (s.handReading h p range raw).ledger = s.ledger := by
  unfold State.handReading
  split
  next r hr =>
    have hp := State.ledger_holder_of_live hr
    split
    next m openPair mark hm =>
      split
      · split
        next v => exact State.setLive_ledger hp
        next =>
          split
          · exact State.applyRecall_ledger hp h
          · exact State.keepReading_ledger hp openPair h range raw
      · rfl
    next => rfl
  next => rfl

@[simp] theorem State.abandonRecord_ledger (s : State) (h : Head) (p : Fin 24) (disabled : Bool) :
    (s.abandonRecord h p disabled).ledger = s.ledger := by
  unfold State.abandonRecord
  split
  next r hr =>
    have hp := State.ledger_holder_of_live hr
    split
    next m openPair mark hm =>
      split
      · split
        next v => exact State.setLive_ledger hp
        next =>
          split
          · exact State.applyRecall_ledger hp h
          · split
            · exact State.setLive_ledger (by rw [State.holder_checkDoneTest]; exact hp)
            · exact State.setLive_ledger (by rw [State.holder_checkDoneTest]; exact hp)
      · rfl
    next => rfl
  next => rfl

/-! ### The heads -/

@[simp] theorem State.completeNoReply_ledger (s : State) (h : Head) (p : Fin 24) (range : Fin 7) :
    (s.completeNoReply h p range).ledger = s.ledger := by
  dsimp only [State.completeNoReply]
  split <;> simp

@[simp] theorem State.takeHeadFrame_ledger (s : State) (h : Head) (f : HeadFrame) :
    (s.takeHeadFrame h f).ledger = s.ledger := by
  unfold State.takeHeadFrame
  split
  next => split <;> simp [State.completeResult]
  next => split <;> rfl
  next => rfl

@[simp] theorem State.receiveByte_ledger (s : State) (h : Head) (b : Byte) :
    (s.receiveByte h b).ledger = s.ledger := by
  unfold State.receiveByte
  split
  next => split <;> rfl
  next => split <;> simp
  next => rfl

@[simp] theorem State.receiveFrame_ledger (s : State) (h : Head) (f : HeadFrame) :
    (s.receiveFrame h f).ledger = s.ledger := by
  unfold State.receiveFrame
  split
  next => simp
  next => split <;> simp
  next => rfl

@[simp] theorem State.responseTimeout_ledger (s : State) (h : Head) : (s.responseTimeout h).ledger = s.ledger := by
  unfold State.responseTimeout
  split
  · split <;> simp
  · rfl

@[simp] theorem State.abandonMeasurement_ledger (s : State) (h : Head) (after : HeadState) (disabled : Bool) :
    (s.abandonMeasurement h after disabled).ledger = s.ledger := by
  dsimp only [State.abandonMeasurement]
  split <;> split <;> simp

@[simp] theorem State.abandonAt_ledger (s : State) (h : Head) : (s.abandonAt h).ledger = s.ledger := by
  unfold State.abandonAt
  split <;> simp

@[simp] theorem State.abandonAll_ledger (s : State) : s.abandonAll.ledger = s.ledger := by
  simp [State.abandonAll]

@[simp] theorem State.disableHead_ledger (s : State) (h : Head) : (s.disableHead h).ledger = s.ledger := by
  unfold State.disableHead
  split <;> simp

/-! ### Arrivals that begin no feed and retire nothing -/

@[simp] theorem State.arriveHead_ledger (s : State) (h : Head) : (s.arriveHead h).ledger = s.ledger := by
  dsimp only [State.arriveHead]
  split
  next r hr =>
    have hp := State.ledger_holder_of_live hr
    split
    next =>
      split
      · split
        next => exact State.setLive_ledger hp
        next => rfl
        next =>
          split
          · exact State.setLive_ledger (by rw [State.holder_checkDoneTest]; exact hp)
          · rfl
      · rfl
    next => rfl
  next => rfl

@[simp] theorem State.arriveGate_ledger (s : State) (g : Fin 12) : (s.arriveGate g).ledger = s.ledger := by
  dsimp only [State.arriveGate]
  split
  next r hr =>
    have hp := State.ledger_holder_of_live hr
    split
    next =>
      split
      next =>
        split
        · exact State.setLive_ledger hp
        · rfl
      next => rfl
    next => rfl
  next => rfl

@[simp] theorem State.arriveCheckReturn_ledger (s : State) : s.arriveCheckReturn.ledger = s.ledger := by
  dsimp only [State.arriveCheckReturn]
  split
  next r hr =>
    have hp := State.ledger_holder_of_live hr
    split
    next => exact State.setLive_ledger hp
    next =>
      refine (State.ledger_of_same ?_ ?_ ?_ ?_).trans
        (State.reportPart_ledger (r := r) (f := fun c => { c with passedUnsorted := count32 c.passedUnsorted })
          rfl rfl)
      all_goals simp [State.passUnsorted]
    next => rfl
  next => rfl

@[simp] theorem State.arrivePurge_ledger (s : State) : s.arrivePurge.ledger = s.ledger := by
  dsimp only [State.arrivePurge]
  split
  next => rfl
  next => rfl
  next r hr =>
    have hp := State.ledger_holder_of_live hr
    split
    next => exact State.setLive_ledger hp
    next => rfl

/-! ### Missed ejections -/

@[simp] theorem State.countGateMiss_ledger (s : State) (g : Fin 12) : (s.countGateMiss g).ledger = s.ledger := by
  dsimp only [State.countGateMiss]
  split <;> rfl

@[simp] theorem State.countPurgeMiss_ledger (s : State) : s.countPurgeMiss.ledger = s.ledger := by
  dsimp only [State.countPurgeMiss]
  split <;> rfl

@[simp] theorem State.miss_ledger (s : State) (c : Chute) (p : Fin 24) (sweep : Bool) :
    (s.miss c p sweep).ledger = s.ledger := by
  unfold State.miss
  split
  next g =>
    unfold State.missGate
    split
    next r hr =>
      have hp := State.ledger_holder_of_live hr
      rw [State.countGateMiss_ledger, State.raisePocket_ledger]
      exact State.setLive_ledger hp
    next => simp
  next =>
    unfold State.missReturn
    split
    next r hr =>
      have hp := State.ledger_holder_of_live hr
      exact State.setLive_ledger hp
    next => rfl
  next =>
    unfold State.missPurge
    split
    · rfl
    · split
      next r hr =>
        have hp := State.ledger_holder_of_live hr
        split
        next =>
          rw [State.countPurgeMiss_ledger]
          exact State.setLive_ledger hp
        next => simp
      next => simp

@[simp] theorem State.windowExpiry_ledger (s : State) (c : Chute) : (s.windowExpiry c).ledger = s.ledger := by
  dsimp only [State.windowExpiry]
  split
  next => rfl
  next => simp
  next => rfl

end Sys2Proof.Machine
end

section
/-! SUPPORT. Runs of entries in the ledger of a lot: what a counter adds, one record retired, every record given up, and
the end of a lot (R8, R154, R162 to R164). -/

namespace Sys2Proof.Machine

/-- What happened between two states is a run of entries in the ledger. -/
def State.Posts (s t : State) : Prop := Relation.ReflTransGen Ledger.Entry s.ledger t.ledger

/-! ### Counters -/

theorem Vector.sum_toList_set {n : Nat} (v : Vector Nat n) (i : Fin n) (x : Nat) :
    (v.set i.val x).toList.sum + v[i.val] = v.toList.sum + x := by
  have hi : i.val < v.toList.length := by simp
  have hv : v.toList.sum = ((v.toList.take i.val).sum + v[i.val]) + (v.toList.drop (i.val + 1)).sum := by
    have := List.sum_set v.toList i.val v[i.val]
    rw [if_pos hi] at this
    rw [← this, ← Vector.toList_set i.isLt, Vector.set_getElem_self]
  rw [Vector.toList_set, List.sum_set, if_pos hi, hv]
  omega

theorem count32_of_lt {n : Nat} (h : n < Config.maxCount32) : count32 n = n + 1 := by
  simp only [count32, bump, satAdd]
  omega

theorem Vector.getElem_le_sum_toList {n : Nat} (v : Vector Nat n) (i : Fin n) : v[i.val] ≤ v.toList.sum :=
  List.le_sum_of_mem (by simp)

/-- A counter that takes part in a sum below the width of a counter is not saturated. -/
theorem LotCounters.retired_countBinned {c : LotCounters} (g : Fin 12) (h : c.retired < Config.maxCount32) :
    (c.countBinned g).retired = c.retired + 1 := by
  have hset := Vector.sum_toList_set c.binned g (count32 c.binned[g.val])
  have hle := Vector.getElem_le_sum_toList c.binned g
  simp only [LotCounters.retired, LotCounters.countBinned] at h ⊢
  rw [count32_of_lt (by omega)] at hset ⊢
  omega

theorem LotCounters.retired_countPurged {c : LotCounters} (reason : PurgeReason)
    (h : c.retired < Config.maxCount32) : (c.countPurged reason).retired = c.retired + 1 := by
  have hset := Vector.sum_toList_set c.purged reason.code (count32 c.purged[reason.code.val])
  have hle := Vector.getElem_le_sum_toList c.purged reason.code
  simp only [LotCounters.retired, LotCounters.countPurged] at h ⊢
  rw [count32_of_lt (by omega)] at hset ⊢
  omega

theorem LotCounters.retired_countSpilled {c : LotCounters} (h : c.retired < Config.maxCount32) :
    LotCounters.retired { c with spilled := count32 c.spilled } = c.retired + 1 := by
  simp only [LotCounters.retired] at h ⊢
  rw [count32_of_lt (by omega)]
  omega

theorem LotCounters.retired_countLost {c : LotCounters} (h : c.retired < Config.maxCount32) :
    LotCounters.retired { c with lost := count32 c.lost } = c.retired + 1 := by
  simp only [LotCounters.retired] at h ⊢
  rw [count32_of_lt (by omega)]
  omega

theorem LotCounters.retired_countAbandoned {c : LotCounters} {n : Nat} (h : c.retired + n ≤ Config.maxCount32) :
    LotCounters.retired { c with abandoned := satAdd Config.maxCount32 c.abandoned n } = c.retired + n := by
  simp only [LotCounters.retired, satAdd] at h ⊢
  omega

namespace State.Posts

variable {s t u : State}

theorem of_eq (h : t.ledger = s.ledger) : s.Posts t := by
  rw [State.Posts, h]

theorem single (h : s.ledger.Entry t.ledger) : s.Posts t := Relation.ReflTransGen.single h

theorem trans (h : s.Posts t) (h' : t.Posts u) : s.Posts u := Relation.ReflTransGen.trans h h'

/-- What follows and makes no entry. -/
theorem then_same (h : s.Posts t) (hu : u.ledger = t.ledger) : s.Posts u := by
  rw [State.Posts, hu]
  exact h

/-- What came first and made no entry. -/
theorem of_same (hs : s.ledger = u.ledger) (h : s.Posts t) : u.Posts t := by
  rw [State.Posts, ← hs]
  exact h

theorem balanced (h : s.Posts t) (hs : s.Balanced) : t.Balanced :=
  t.balanced_iff.mpr (Ledger.balanced_of_entries h (s.balanced_iff.mp hs))

theorem active_eq (h : s.Posts t) : t.banks.active = s.banks.active := Ledger.active_eq_of_entries h

theorem drainTest (s : State) : s.Posts s.drainTest := by
  rcases s.drainTest_cases with ⟨h, -⟩ | ⟨h, -⟩
  · exact of_eq (congrArg State.ledger h)
  · rw [h]
    exact single .ends

/-- A record leaves its pocket and is reported: it is counted when it is a PART of the current lot (R154). -/
theorem retire {p : Fin 24} {r : LiveRecord} {f : LotCounters → LotCounters} (hr : s.pocket p = .live r)
    (hl : ∀ c, (f c).loaded = c.loaded)
    (hf : ∀ c : LotCounters, c.retired < Config.maxCount32 → (f c).retired = c.retired + 1) :
    s.Posts ((s.setPocket p .empty).reportPart r f) := by
  have hcounts : s.ledger.counts r.holder = (s.setPocket p .empty).isCurrentPart r := rfl
  have hledger : ((s.setPocket p .empty).reportPart r f).ledger =
      { s.ledger with
        holders := s.ledger.holders.set p.val none
        retired := if s.ledger.counts r.holder then (f s.lot.counters).retired else s.ledger.retired } := by
    rw [hcounts, State.reportPart]
    split
    next =>
      rw [State.onCounters_ledger_eq, State.setPocket_ledger, State.setPocket_lot, hl]
      rfl
    next => exact s.setPocket_ledger p .empty
  refine single (hledger ▸ .retires p r.holder _ (State.ledger_holder_of_live hr) fun hn => ?_)
  split
  · exact hf s.lot.counters hn
  · rfl

/-- A CHECK record leaves its pocket, and no part is counted (R123). -/
theorem retireCheck {p : Fin 24} {r : LiveRecord} (hr : s.pocket p = .live r) (hk : r.kind = .check) :
    s.Posts (s.setPocket p .empty) := by
  have hcounts : ¬s.ledger.counts r.holder = true := by
    rw [Ledger.counts_iff]
    rintro ⟨-, heq⟩
    rw [show r.kind = .part from congrArg Prod.fst heq] at hk
    cases hk
  refine single ?_
  rw [State.setPocket_ledger]
  exact .retires p r.holder _ (State.ledger_holder_of_live hr) fun _ => (if_neg hcounts).symm

/-- Every record is given up, and then a drain may end (R8, R162). -/
theorem giveUpRecords (s : State) : s.Posts s.giveUpRecords := by
  refine trans (single ?_) (drainTest _)
  have hholders : (s.mapLive fun _ => .unknown).ledger.holders = Vector.replicate 24 none := by
    ext i hi : 1
    rw [State.ledger_holder (s.mapLive fun _ => .unknown) ⟨i, hi⟩, State.pocket_mapLive]
    cases s.pocket ⟨i, hi⟩ <;> simp [PocketRecord.holder]
  rw [State.onCounters_ledger_eq, State.mapLive_ledger_eq, hholders, State.mapLive_lot]
  refine .givesUp _ fun hn hle => ?_
  have hcount : s.countLive s.isCurrentPart = s.ledger.parts := s.countLive_eq_count fun r => by
    have hstate : (s.lot.state != .noLot) = true := bne_iff_ne.mpr hn
    show (r.kind == .part && (s.lot.state != .noLot && s.lot.number == r.lot)) = _
    rw [hstate, Bool.true_and, BEq.comm (a := s.lot.number)]
    rfl
  rw [hcount]
  exact LotCounters.retired_countAbandoned hle

end State.Posts

end Sys2Proof.Machine
end

section
/-! SUPPORT. The entries that the operations make in the ledger of a lot: feeds and loads, lost parts, the arrivals of a
dwell, and confirmed ejections (R2, R28 to R30, R33, R122 to R124, R161). -/

namespace Sys2Proof.Machine
namespace State.Posts

variable {s t u : State}

/-! ### The feed (R28 to R30) -/

theorem arriveLoad (s : State) : s.Posts s.arriveLoad := by
  dsimp only [State.arriveLoad]
  split
  next =>
    split
    next hopen =>
      have hstate : s.ledger.state = .open_ := by
        rw [Bool.and_eq_true, beq_iff_eq] at hopen
        exact hopen.1
      exact single (.feedBegins (if s.check.due then .check else .part) hstate)
    next => exact of_eq rfl
  next => exact of_eq rfl
  next r hr =>
    have hp := State.ledger_holder_of_live hr
    have hlap : s.Posts (s.setLive (s.pocketAt Config.offsetLoad) (s.banks.active.countLap r)) :=
      of_eq (State.setLive_ledger (by rw [Recipe.holder_countLap]; exact hp))
    split
    · exact hlap
    · exact hlap
    · exact hlap
    all_goals exact of_eq rfl

end State.Posts

/-- The serial limit changes the lot state or nothing: from OPEN to DRAINING (R161). -/
theorem Lot.serialLimit_eq (l : Lot) (k : Kind) : l.serialLimit k = { l with state := (l.serialLimit k).state } := by
  cases k
  all_goals
    dsimp only [Lot.serialLimit]
    split <;> rfl

theorem Lot.serialLimit_state (l : Lot) (k : Kind) :
    (l.serialLimit k).state = l.state ∨ l.state = .open_ ∧ (l.serialLimit k).state = .draining := by
  cases k
  all_goals
    dsimp only [Lot.serialLimit]
    split
    next h => exact .inr ⟨beq_iff_eq.mp (Bool.and_eq_true_iff.mp h).1, rfl⟩
    next => exact .inl rfl

/-- A lot that is still OPEN after a part load has not given its largest serial (R161). -/
theorem Lot.loaded_ne_of_serialLimit_open {l : Lot} (h : (l.serialLimit .part).state = .open_) :
    l.counters.loaded ≠ Config.maxPartSerial := by
  intro hmax
  simp only [Lot.serialLimit, hmax, beq_self_eq_true, Bool.and_true, beq_iff_eq] at h
  split at h
  · cases h
  next hne => exact hne h

/-- The ledger after a load is counted: the lot state, and the loaded count of a PART of the current lot (R29,
R154, R161). -/
theorem State.countLoad_ledger (s : State) (f : Feed) :
    ∃ state, (s.countLoad f).ledger =
        { s.ledger with
          state := state
          loaded := if s.ledger.counts (f.kind, f.lot) then count32 s.ledger.loaded else s.ledger.loaded } ∧
      (state = s.ledger.state ∨ s.ledger.state = .open_ ∧ state = .draining) ∧
      (state = .open_ → s.ledger.counts (f.kind, f.lot) = true →
        count32 s.ledger.loaded ≠ Config.maxPartSerial) := by
  have hcounts : s.ledger.counts (f.kind, f.lot) = (f.kind == .part && s.isCurrentLot f.lot) := rfl
  rw [hcounts]
  unfold State.countLoad
  cases hcur : s.isCurrentLot f.lot with
  | false => exact ⟨s.ledger.state, by simp, .inl rfl, by simp⟩
  | true =>
    have hstate := Lot.serialLimit_state { s.lot with counters := f.kind.countLoad s.lot.counters } f.kind
    refine ⟨_, ?_, hstate, ?_⟩
    · rw [if_pos rfl, State.onLot, Lot.serialLimit_eq]
      cases f.kind <;> rfl
    · intro ho hk
      rw [Bool.and_true, beq_iff_eq] at hk
      rw [hk] at ho
      exact Lot.loaded_ne_of_serialLimit_open ho

@[simp] theorem State.reportLoad_ledger (s : State) (f : Feed) : (s.reportLoad f).ledger = s.ledger := by
  unfold State.reportLoad
  split <;> split <;> rfl

theorem State.strayPart_ledger {s : State} {p : Fin 24} (hp : s.pocket p = .empty) :
    (s.strayPart p).ledger = s.ledger :=
  State.setPocket_ledger_of_none (s := s.raisePocket _) (congrArg _ hp) rfl

theorem State.endFeed_ledger (s : State) : s.endFeed.ledger = { s.ledger with coming := none } := rfl

theorem FeedUnit.coming_clearMisses (u : FeedUnit) (k : Kind) : (u.clearMisses k).coming = u.coming := by
  cases k <;> rfl

@[simp] theorem State.countFeedMiss_ledger (s : State) : s.countFeedMiss.ledger = s.ledger := by
  unfold State.countFeedMiss
  split <;> rfl

@[simp] theorem State.countCheckFeedMiss_ledger (s : State) : s.countCheckFeedMiss.ledger = s.ledger := by
  unfold State.countCheckFeedMiss
  split <;> rfl

namespace State.Posts

variable {s t u : State}

/-- The feed in flight ends with a load into its EMPTY target (R29). -/
theorem load {f : Feed} (hf : s.feed.inFlight = some f) (hp : s.pocket f.target = .empty)
    (ht : t.ledger = { s.ledger with coming := none }) : s.Posts (t.load f) := by
  have hset : ((t.setLive f.target (t.loadRecord f)).reportLoad f).ledger =
      { s.ledger with
        coming := none, holders := s.ledger.holders.set f.target.val (some (f.kind, f.lot)) } := by
    rw [State.reportLoad_ledger, State.setLive, State.setPocket_ledger, ht]
    rfl
  obtain ⟨state, hledger, hstate, hlimit⟩ :=
    State.countLoad_ledger ((t.setLive f.target (t.loadRecord f)).reportLoad f) f
  rw [hset] at hledger hstate hlimit
  refine single ?_
  rw [State.load, hledger]
  refine .loads f.target (f.kind, f.lot) state ?_ ?_ hstate hlimit
  · show s.feed.inFlight.map _ = _
    rw [hf]
    rfl
  · rw [State.ledger_holder, hp]
    rfl

theorem loadSense (s : State) : s.Posts s.loadSense := by
  unfold State.loadSense
  split
  next f hf =>
    split
    · have hend : (s.endFeed.onFeed fun u => u.clearMisses f.kind).ledger = { s.ledger with coming := none } := by
        rw [State.onFeed_ledger (FeedUnit.coming_clearMisses _ _), State.endFeed_ledger]
      dsimp only
      split
      next hp => exact (load hf hp hend).trans (drainTest _)
      next => exact trans (single (hend ▸ .feedEnds)) (drainTest _)
    · exact of_eq rfl
  next => exact of_eq rfl

theorem feedMiss (s : State) : s.Posts s.feedMiss := by
  have hend : s.Posts s.endFeed := single .feedEnds
  unfold State.feedMiss
  split
  next f _ =>
    split
    · split
      · exact (hend.then_same (State.countFeedMiss_ledger _)).trans (drainTest _)
      · exact (hend.then_same (State.countCheckFeedMiss_ledger _)).trans (drainTest _)
    · exact of_eq rfl
  next => exact of_eq rfl

/-! ### The empty check (R33, R34) -/

theorem lostPart {p : Fin 24} {r : LiveRecord} (hr : s.pocket p = .live r) : s.Posts (s.lostPart p r) :=
  of_same (State.raisePocket_ledger s _) (retire (s := s.raisePocket _) hr (fun _ => rfl)
    fun _ => LotCounters.retired_countLost)

theorem arriveEmptyCheck (s : State) (sensed : Bool) : s.Posts (s.arriveEmptyCheck sensed) := by
  dsimp only [State.arriveEmptyCheck]
  cases hr : s.pocket (s.pocketAt Config.offsetEmptyCheck) with
  | empty =>
    cases sensed with
    | true => exact trans (of_eq (State.strayPart_ledger hr)) (drainTest _)
    | false => exact of_eq rfl
  | unknown =>
    cases sensed with
    | true => exact of_eq rfl
    | false => exact (of_eq (State.setPocket_ledger_of_none (congrArg _ hr) rfl)).trans (drainTest _)
  | live r =>
    cases sensed with
    | true => exact of_eq rfl
    | false =>
      dsimp only
      split
      next => exact of_eq rfl
      next => exact of_eq rfl
      all_goals exact (lostPart hr).trans (drainTest _)

/-! ### The arrivals of a dwell (R2) -/

theorem ownArrival (s : State) (st : Station) : s.Posts (s.ownArrival st) := by
  unfold State.ownArrival
  split
  · exact of_eq rfl
  · split
    · exact arriveLoad s
    · exact of_eq (s.arriveHead_ledger _)
    · exact of_eq (s.arriveGate_ledger _)
    · exact of_eq s.arriveCheckReturn_ledger
    · exact of_eq s.arrivePurge_ledger

theorem arriveGates (s : State) : s.Posts s.arriveGates := by
  unfold State.arriveGates
  induction List.finRange 12 generalizing s with
  | nil => exact of_eq rfl
  | cons g gs ih => exact (ownArrival s (.eject (.gate g))).trans (ih _)

theorem beginDwell (s : State) (sensed : Bool) : s.Posts (s.beginDwell sensed) := by
  have h3 : s.enterDwell.Posts _ :=
    ((ownArrival s.enterDwell .load).trans (ownArrival _ (.head .a))).trans (ownArrival _ (.head .b))
  have h6 := ((h3.trans (arriveGates _)).trans (ownArrival _ (.eject .checkReturn))).trans
    (ownArrival _ (.eject .purge))
  exact of_same (State.onDial_ledger s _) (h6.trans (arriveEmptyCheck _ sensed))

theorem honourIndex (s : State) (sensed : Bool) : s.Posts (s.honourIndex sensed) :=
  of_same (by simp [State.advance]) (beginDwell (State.advance _) sensed)

theorem spuriousIndex (s : State) : s.Posts s.spuriousIndex :=
  of_eq (by simp [State.spuriousIndex, State.advance])

theorem emergencyStop (s : State) : s.Posts s.emergencyStop := by
  have hwork : ∀ t : State, t.releaseOutputs.abandonAll.ledger = t.ledger := fun t => by
    rw [State.abandonAll_ledger]
    rfl
  dsimp only [State.emergencyStop]
  split
  · refine then_same (t := State.giveUpRecords _) (of_same ?_ (giveUpRecords _)) (State.onDial_ledger _ _)
    exact (hwork _).trans (State.onDial_ledger s _)
  · exact of_eq ((State.onDial_ledger _ _).trans ((hwork _).trans (State.onDial_ledger s _)))

theorem stopDial (s : State) : s.Posts s.stopDial := by
  unfold State.stopDial
  split
  case h_4 => exact (giveUpRecords s).then_same rfl
  all_goals exact of_eq rfl

/-! ### Confirmed ejections (R122 to R124) -/

theorem confirmGate (s : State) (g : Fin 12) (p : Fin 24) : s.Posts (s.confirmGate g p) := by
  dsimp only [State.confirmGate]
  split
  next r hr =>
    split
    · refine then_same (retire (s := s.onBin g Bin.seen) hr (f := LotCounters.countBinned g)
        (fun _ => rfl) fun _ => LotCounters.retired_countBinned g) ?_
      simp [State.binPart, State.fillBin]
    · exact then_same (retire (s := (s.onBin g Bin.seen).raisePocket _) hr
        (f := fun c => { c with spilled := count32 c.spilled }) (fun _ => rfl)
        fun _ => LotCounters.retired_countSpilled) rfl
  next => exact of_eq rfl

/-- What is confirmed at CR was EJECTING there, and so a CHECK (R19, R123). -/
theorem confirmReturn {p : Fin 24} (hk : ∀ r, s.pocket p = .live r → r.kind = .check) :
    s.Posts (s.confirmReturn p) := by
  unfold State.confirmReturn
  split
  next r hr =>
    refine (retireCheck hr (hk r hr)).then_same ?_
    unfold State.countReturn
    split
    · exact State.onCounters_ledger rfl rfl
    · rfl
  next => exact of_eq rfl

/-- What is confirmed at PG was EJECTING there, and so holds its purge reason (R19, R124). -/
theorem confirmPurge {p : Fin 24} {sweep : Bool}
    (hk : sweep = false → ∀ r, s.pocket p = .live r → ∃ reason, r.phase = .ejecting (.purge reason)) :
    s.Posts (s.confirmPurge p sweep) := by
  cases sweep with
  | true =>
    dsimp only [State.confirmPurge]
    rw [if_pos rfl]
    refine of_eq ((State.onCounters_ledger rfl rfl).trans ?_)
    split
    next hp => exact State.setPocket_ledger_of_none (s := s.onGates _) (congrArg _ hp) rfl
    next => rfl
  | false =>
    dsimp only [State.confirmPurge]
    rw [if_neg Bool.false_ne_true]
    split
    next r hr =>
      obtain ⟨reason, hphase⟩ := hk rfl r hr
      simp only [State.countPurge, hphase]
      exact retire (s := s.onGates _) hr (f := LotCounters.countPurged reason) (fun _ => rfl)
        fun _ => LotCounters.retired_countPurged reason
    next => exact of_eq rfl

theorem confirm {c : Chute} {p : Fin 24} {sweep : Bool}
    (hreturn : c = .checkReturn → ∀ r, s.pocket p = .live r → r.kind = .check)
    (hpurge : c = .purge → sweep = false → ∀ r, s.pocket p = .live r →
      ∃ reason, r.phase = .ejecting (.purge reason)) : s.Posts (s.confirm c p sweep) := by
  cases c with
  | gate g => exact confirmGate s g p
  | checkReturn => exact confirmReturn (hreturn rfl)
  | purge => exact confirmPurge (hpurge rfl)

end State.Posts

/-- A record on its way to CR is a CHECK (R19). -/
theorem LiveRecord.kindFits.check {r : LiveRecord} (hf : r.kindFits)
    (hst : r.phase.ejectStation = some .checkReturn) : r.kind = .check := by
  unfold LiveRecord.kindFits at hf
  obtain ⟨e, he⟩ := (Phase.isSome_ejectStation r.phase).mp (hst ▸ rfl)
  rw [he] at hf hst
  cases e with
  | checkReturn => exact hf
  | gate g => cases hst
  | purge reason => cases hst

theorem Phase.eq_ejecting_purge {x : Phase} (hst : x.ejectStation = some .purge) :
    ∃ reason, x = .ejecting (.purge reason) := by
  obtain ⟨e, rfl⟩ := (Phase.isSome_ejectStation x).mp (hst ▸ rfl)
  cases e with
  | purge reason => exact ⟨reason, rfl⟩
  | gate g => cases hst
  | checkReturn => cases hst

/-- A record at a FIRED ejector is EJECTING there (R119). -/
theorem State.Coherent.ejectStation_of_fired {s : State} (hc : s.Coherent) {c : Chute} {p : Fin 24}
    {r : LiveRecord} (hf : (s.ejector c).state = .fired p false) (hr : s.pocket p = .live r) :
    r.phase.ejectStation = some c := by
  obtain ⟨r', hr', hst⟩ := (hc.ejecting c p).mp hf
  rwa [PocketRecord.live.inj (hr.symm.trans hr')]

/-- A chute pulse confirms what its ejector was FIRED for (R119, R121). -/
theorem State.Posts.chutePulse {s : State} (hc : s.Coherent) (c : Chute) : s.Posts (s.chutePulse c) := by
  unfold State.chutePulse
  split
  next => exact of_eq rfl
  next p sweep hfired =>
    refine of_same (by simp) (trans (confirm ?_ ?_) (drainTest _))
    · rintro rfl r hr
      rw [State.leaveBusy_pocket, State.onEjector_pocket] at hr
      cases sweep with
      | true => exact absurd (hc.sweeps .checkReturn p hfired) (by decide)
      | false => exact (hc.kinds p r hr).check (hc.ejectStation_of_fired hfired hr)
    · rintro rfl rfl r hr
      rw [State.leaveBusy_pocket, State.onEjector_pocket] at hr
      exact Phase.eq_ejecting_purge (hc.ejectStation_of_fired hfired hr)
  next => exact of_eq rfl

end Sys2Proof.Machine
end

section
/-! SUPPORT. Every command, every row and every step as entries in the ledger of a lot, and the balance they keep
(R155, R158 to R160, R164). -/

namespace Sys2Proof.Machine

/-! ### The opening of a lot (R156, R158) -/

/-- `t` is `s` with a lot opened: no part held the coming number, and PENDING is copied over ACTIVE. -/
structure State.OpensLot (s t : State) : Prop where
  free : ∀ p : Fin 24, s.ledger.holders[p.val] ≠ some (.part, nextLotNumber s.ledger.number)
  ledger : t.ledger = s.ledger.opening s.banks.pending

theorem State.OpensLot.balanced {s t : State} (h : s.OpensLot t) : t.Balanced := by
  rw [State.balanced_iff, h.ledger]
  exact Ledger.opening_balanced h.free _

/-- The last item of the opening: the lot state, the number and the counters (R158). -/
theorem State.onLot_opening_ledger (s : State) :
    (s.onLot fun l =>
      { l with state := .open_, number := nextLotNumber l.number, counters := LotCounters.zero }).ledger =
      s.ledger.opening s.ledger.active := rfl

theorem State.withActive_ledger (s : State) (rec : Recipe) (armed : Option (Fin 12)) :
    State.ledger { s with banks := { s.banks with active := rec }, forceClass := armed } =
      { s.ledger with active := rec } := rfl

/-- Of the seven items of an opening, PENDING over ACTIVE and the new lot are in the ledger (R158). -/
theorem State.openLot_ledger (s : State) : s.openLot.ledger = s.ledger.opening s.banks.pending := by
  dsimp only [State.openLot]
  rw [State.onLot_opening_ledger, State.mapLive_ledger _ fun r => r.holder_lowerLap s.banks.pending.lapLimit,
    State.onCheck_ledger, State.onHead_ledger, State.onHead_ledger, State.withActive_ledger,
    State.headLeft_ledger, State.onHead_ledger, State.onHead_ledger]
  rfl

/-- With every record drained and none PURGE_PENDING with the coming number, that number is free (R156). -/
theorem State.lotNumber_free {s : State} (hd : s.allPockets PocketRecord.isDrained = true)
    (hh : s.allPockets (fun r => !r.holdsLot (nextLotNumber s.lot.number)) = true) (p : Fin 24) :
    s.ledger.holders[p.val] ≠ some (.part, nextLotNumber s.ledger.number) := by
  have hdrained := (s.allPockets_iff _).mp hd p
  have hholds := (s.allPockets_iff _).mp hh p
  rw [State.ledger_holder]
  cases hr : s.pocket p with
  | live r =>
    rw [hr] at hdrained hholds
    simp only [PocketRecord.isDrained, PocketRecord.holdsLot] at hdrained hholds
    simp only [hdrained, Bool.true_and, Bool.not_eq_true', beq_eq_false_iff_ne] at hholds
    exact fun heq => hholds (congrArg Prod.snd (Option.some.inj heq))
  | empty => exact fun heq => nomatch heq
  | unknown => exact fun heq => nomatch heq

/-- LOT_OPEN is refused and leaves the state, or it opens a lot (R156). -/
theorem replyLotOpen_state (s : State) :
    (replyLotOpen s).state = s ∨ s.OpensLot (replyLotOpen s).state := by
  unfold replyLotOpen
  split
  · exact .inl rfl
  · split
    · exact .inl rfl
    next hd =>
      split
      · exact .inl rfl
      next hh =>
        split
        · exact .inl rfl
        · exact .inr ⟨State.lotNumber_free (by simpa using hd) (by simpa using hh), s.openLot_ledger⟩

namespace State.Posts

variable {s t : State}

/-! ### What a block returns -/

/-- A lot that is OPEN, or no longer open to loads, becomes DRAINING, and the drain may end (R159, R160, R162). -/
theorem drain (hs : s.lot.state ≠ .noLot) :
    s.Posts ((s.onLot fun l => { l with state := .draining }).drainTest) := by
  refine trans ?_ (drainTest _)
  cases hl : s.lot.state with
  | noLot => exact absurd hl hs
  | open_ => exact single (.closes hl)
  | draining =>
    refine of_eq ?_
    have : (s.onLot fun l => { l with state := .draining }).ledger = { s.ledger with state := .draining } := rfl
    rw [this, ← hl]
    rfl

theorem withHead (i : Byte) {act : Head → Reply} (ha : ∀ h, s.Posts (act h).state) :
    s.Posts (s.withHead i act).state := by
  unfold State.withHead
  split
  · exact ha _
  · exact of_eq rfl

theorem withBin (i : Byte) {act : Fin 12 → Reply} (ha : ∀ g, s.Posts (act g).state) :
    s.Posts (s.withBin i act).state := by
  unfold State.withBin
  split
  · exact ha _
  · exact of_eq rfl

theorem withPocket (i : Byte) {act : Fin 24 → Reply} (ha : ∀ p, s.Posts (act p).state) :
    s.Posts (s.withPocket i act).state := by
  unfold State.withPocket
  split
  · exact ha _
  · exact of_eq rfl

/-- A reply with a choice. -/
theorem ite {c : Prop} [Decidable c] {x y : Reply} (hx : s.Posts x.state) (hy : s.Posts y.state) :
    s.Posts (if c then x else y).state := by
  split
  · exact hx
  · exact hy

theorem voidPocket (s : State) (p : Fin 24) : s.Posts (s.voidPocket p).state := by
  unfold State.voidPocket
  split
  next => exact of_eq rfl
  next => exact of_eq rfl
  next r hr =>
    have hp := State.ledger_holder_of_live hr
    split
    case h_2 => exact of_eq rfl
    all_goals exact of_eq (State.setLive_ledger hp)

theorem reroutePocket (s : State) (cls : Byte) (p : Fin 24) : s.Posts (s.reroutePocket cls p).state := by
  unfold State.reroutePocket
  split
  next r hr =>
    have hp := State.ledger_holder_of_live hr
    split
    next =>
      split
      next => exact of_eq (State.setLive_ledger hp)
      next => exact of_eq rfl
    next => exact of_eq rfl
  next => exact of_eq rfl

theorem lotAbort (s : State) : s.Posts (replyLotAbort s).state := by
  unfold replyLotAbort
  split
  next => exact of_eq rfl
  next hs =>
    have hfeed : ((s.mapLive fun r => .live r.abort).onFeed FeedUnit.abort).ledger = s.ledger := by
      rw [State.onFeed_ledger]
      · exact s.mapLive_ledger LiveRecord.holder_abort
      · simp [FeedUnit.coming, FeedUnit.abort, Function.comp_def]
    have hdrain := drain (s := (s.mapLive fun r => .live r.abort).onFeed FeedUnit.abort) hs
    exact (of_same hfeed hdrain).then_same (State.reportSevere_ledger _ _)

theorem softReset (s : State) : s.Posts s.softReset := by
  have hmap := s.mapLive_ledger LiveRecord.holder_softReset
  refine single ?_
  have hfeed : s.softReset.feed.coming = s.feed.coming := by
    simp [FeedUnit.coming, State.softReset, FeedUnit.softReset, Function.comp_def]
  have hledger : s.softReset.ledger =
      { (s.mapLive fun r => .live r.softReset).ledger with
        state := .noLot, coming := s.softReset.feed.coming } := rfl
  rw [hledger, hmap, hfeed]
  exact .ends

/-- Whatever command its block is handed, it makes entries, or it is a LOT_OPEN that opens a lot. -/
theorem replyOf (i : Instr) (s : State) :
    s.Posts (replyOf i s).state ∨ i = .lotOpen ∧ s.OpensLot (replyOf i s).state := by
  cases i with
  | lotOpen =>
    rcases replyLotOpen_state s with h | h
    · exact .inl (of_eq (congrArg State.ledger h))
    · exact .inr ⟨rfl, h⟩
  | setDial minDwell moveTimeout startEnable =>
    refine .inl ?_
    show s.Posts (replySetDial minDwell moveTimeout startEnable s).state
    unfold replySetDial
    split <;> exact of_eq rfl
  | setFeed => exact .inl (ite (of_eq rfl) (of_eq rfl))
  | start sensed =>
    refine .inl ?_
    show s.Posts (replyStart sensed s).state
    unfold replyStart
    split
    · rw [State.done_state]
      exact beginDwell s sensed
    · exact of_eq rfl
  | stop =>
    refine .inl ?_
    show s.Posts s.stopDial
    exact stopDial s
  | release => exact .inl (of_eq (State.heldTest_ledger _))
  | lotClose =>
    refine .inl ?_
    show s.Posts (replyLotClose s).state
    unfold replyLotClose
    split
    next hopen => exact (drain (by rw [hopen]; decide)).then_same (State.reportSevere_ledger _ _)
    next => exact of_eq rfl
  | lotAbort => exact .inl (lotAbort s)
  | setMeasure mode aperture agreeLimit =>
    refine .inl ?_
    show s.Posts (replySetMeasure mode aperture agreeLimit s).state
    unfold replySetMeasure
    split <;> exact of_eq rfl
  | setRetest doubtMask retestLimit slot1 slot2 lapLimit =>
    refine .inl ?_
    show s.Posts (replySetRetest doubtMask retestLimit slot1 slot2 lapLimit s).state
    unfold replySetRetest
    split <;> exact of_eq rfl
  | setClass index lo hi guardBand primary overflow catchAll =>
    refine .inl ?_
    show s.Posts (replySetClass index lo hi guardBand primary overflow catchAll s).state
    unfold replySetClass
    split <;> exact of_eq rfl
  | readRecipe bank =>
    refine .inl ?_
    show s.Posts (replyReadRecipe bank s).state
    unfold replyReadRecipe
    split <;> exact of_eq rfl
  | setHead head => exact .inl (withHead head fun _ => ite (of_eq rfl) (of_eq rfl))
  | setHeadCal head =>
    refine .inl (withHead head fun _ => ite ?_ (of_eq rfl))
    split <;> exact of_eq rfl
  | headEnable head => exact .inl (withHead head fun _ => ite (of_eq rfl) (of_eq rfl))
  | headDisable head => exact .inl (withHead head fun h => of_eq (s.disableHead_ledger h))
  | readHead head => exact .inl (withHead head fun _ => of_eq rfl)
  | readHeadStats head => exact .inl (withHead head fun _ => of_eq rfl)
  | forceDoubt head => exact .inl (withHead head fun _ => of_eq rfl)
  | setBin bin => exact .inl (withBin bin fun _ => of_eq (State.testFill_ledger _ _ _))
  | stall bin => exact .inl (withBin bin fun _ => of_eq rfl)
  | unstall bin => exact .inl (withBin bin fun _ => of_eq rfl)
  | readBin index =>
    refine .inl ?_
    show s.Posts (replyReadBin index s).state
    unfold replyReadBin
    split
    next c _ => cases c <;> exact of_eq rfl
    next => exact of_eq rfl
  | readPocket pocket => exact .inl (withPocket pocket fun _ => of_eq rfl)
  | voidPocket pocket => exact .inl (withPocket pocket (voidPocket s))
  | reroutePocket pocket cls => exact .inl (withPocket pocket (reroutePocket s cls))
  | forceClass cls =>
    refine .inl ?_
    show s.Posts (replyForceClass cls s).state
    unfold replyForceClass
    split <;> exact of_eq rfl
  | requestCheck => exact .inl (ite (of_eq rfl) (of_eq rfl))
  | ackFaults flags =>
    refine .inl (of_eq ((State.reportSevere_ledger _ _).trans ?_))
    split <;> rfl
  | readCapture which =>
    refine .inl ?_
    show s.Posts (replyReadCapture which s).state
    unfold replyReadCapture
    split <;> exact of_eq rfl
  | ackCapture which =>
    refine .inl ?_
    show s.Posts (replyAckCapture which s).state
    unfold replyAckCapture
    split <;> exact of_eq rfl
  | resetSort => exact .inl (ite (softReset s) (of_eq rfl))
  | _ => exact .inl (of_eq rfl)

end State.Posts

/-! ### The command link (R175 to R178) -/

/-- A frame that passes the tests is the bytes it was written with, and its code is in the table (R176). -/
theorem eq_bytes_of_testFrame {sdi : List Byte} {f : Frame} (h : testFrame sdi = .ok f) :
    sdi = f.bytes ∧ requestLength f.code = some f.payload.length := by
  unfold testFrame at h
  split at h
  next code len payload =>
    split at h
    · cases h
    next hlen =>
      have hpayload : payload.length = len.toNat := by
        by_contra hne
        exact hlen (by simp [hne])
      split at h
      · cases h
      next l hl =>
        split at h
        · cases h
        next hne =>
          cases h
          have hll : len.toNat = l := by simpa using hne
          exact ⟨by simp [Frame.bytes, hpayload], by rw [hl, hpayload, hll]⟩
  next => cases h

/-- No other code of the table reads as LOT_OPEN, whatever the payload: it is taken apart byte by byte, as far as the
pattern of the code goes. -/
theorem decodeFrame_ne_lotOpen {sense : Bool} {code : Byte} {k : Nat} (hk : requestLength code = some k)
    (h : code.toNat ≠ 0x20) (payload : List Byte) : decodeFrame sense ⟨code, payload⟩ ≠ some .lotOpen := by
  intro hd
  have hcode : code = BitVec.ofNat 8 code.toNat := (BitVec.ofNat_toNat 8 code).symm
  unfold requestLength at hk
  split at hk
  case h_8 hm => exact absurd hm h
  case h_43 => cases hk
  all_goals
    next hm =>
      rw [hm] at hcode
      subst hcode
      repeat'
        first
        | cases hd
        | rcases payload with _ | ⟨x, payload⟩

/-- The one frame that reads as LOT_OPEN (spec 11, command code table). -/
theorem bytes_eq_of_decodeFrame {sense : Bool} {f : Frame} (hl : requestLength f.code = some f.payload.length)
    (h : decodeFrame sense f = some .lotOpen) : f.bytes = [0x20#8, 0x00#8] := by
  obtain ⟨code, payload⟩ := f
  by_cases hcode : code.toNat = 0x20
  · obtain rfl : code = 0x20#8 := BitVec.eq_of_toNat_eq hcode
    obtain rfl : payload = [] := List.eq_nil_of_length_eq_zero (Option.some.inj hl).symm
    rfl
  · exact absurd h (decodeFrame_ne_lotOpen hl hcode payload)

/-- An opening seen from states that differ in nothing the lot rests on. -/
theorem State.OpensLot.congr {s s' t t' : State} (h : s.OpensLot t) (hs : s'.ledger = s.ledger)
    (hb : s'.banks = s.banks) (ht : t'.ledger = t.ledger) : s'.OpensLot t' :=
  ⟨hs ▸ h.free, by rw [ht, h.ledger, hs, hb]⟩

theorem Reply.busyWith_ledger (r : Reply) (f : Frame) : (r.busyWith f).ledger = r.state.ledger := rfl

theorem Reply.answered_ledger (r : Reply) : r.answered.ledger = r.state.ledger := rfl

/-- The write of a frame: its block acts, and BUSY keeps the answer (R176). -/
theorem State.takeWritten_posts (s : State) {f : Frame} (hl : requestLength f.code = some f.payload.length) :
    s.Posts (s.takeWritten f) ∨ s.OpensLot (s.takeWritten f) ∧ f.bytes = [0x20#8, 0x00#8] := by
  unfold State.takeWritten
  split
  next i hi =>
    rcases State.Posts.replyOf i (s.onLink fun l => { l with writes := l.writes + 1 }) with h | ⟨rfl, h⟩
    · exact .inl (State.Posts.of_same rfl (h.then_same (Reply.busyWith_ledger _ f)))
    · exact .inr ⟨h.congr rfl rfl (Reply.busyWith_ledger _ f), bytes_eq_of_decodeFrame hl hi⟩
  next => exact .inl (.of_eq rfl)

theorem State.endWrite_posts (s : State) (sdi : List Byte) :
    s.Posts (s.endWrite sdi) ∨ s.OpensLot (s.endWrite sdi) ∧ sdi = [0x20#8, 0x00#8] := by
  unfold State.endWrite
  split
  · exact .inl (.of_eq rfl)
  · split
    next f hf =>
      obtain ⟨rfl, hl⟩ := eq_bytes_of_testFrame hf
      exact s.takeWritten_posts hl
    next => exact .inl (.of_eq rfl)

theorem State.finishTransaction_posts (s : State) (phase : LinkPhase) (sdi : List Byte) :
    s.Posts (s.finishTransaction phase sdi) ∨
      s.OpensLot (s.finishTransaction phase sdi) ∧ sdi = [0x20#8, 0x00#8] := by
  dsimp only [State.finishTransaction]
  split
  next =>
    split
    · rcases State.endWrite_posts (s.onLink fun l =>
        { l with transaction := .idle, shiftedOut := s.bytesOut .ready sdi.length }) sdi with h | ⟨h, hsdi⟩
      · exact .inl (State.Posts.of_same rfl h)
      · exact .inr ⟨h.congr rfl rfl rfl, hsdi⟩
    · exact .inl (.of_eq rfl)
  next => exact .inl (.of_eq rfl)
  next =>
    refine .inl (.of_eq ?_)
    unfold State.endRead
    split
    · split <;> rfl
    · rfl

/-- The rise of CS_N after the bytes `sdi` (R175). -/
theorem State.endTransaction_posts (s : State) (sdi : List Byte) :
    s.Posts (s.endTransaction sdi) ∨ s.OpensLot (s.endTransaction sdi) ∧ sdi = [0x20#8, 0x00#8] := by
  unfold State.endTransaction
  split
  · exact .inl (.of_eq rfl)
  · split
    · exact s.finishTransaction_posts _ sdi
    · exact .inl (.of_eq rfl)
    · exact s.finishTransaction_posts _ sdi

/-! ### Every row -/

/-- What the row `i` may do to the lot: make entries, open a lot as LOT_OPEN, or reset the part. -/
inductive State.LotStep (s : State) (i : Instr) (t : State) : Prop
  | posts (h : s.Posts t)
  | opens (h : s.OpensLot t) (hi : i = .lotOpen ∨ riseOf i = some [0x20#8, 0x00#8])
  | powersOn (estop : Bool) (cans : BitVec 12) (hi : i = .powerOnReset estop cans)
      (ht : t = s.powerOn estop cans)

namespace State.LotStep

variable {s t : State} {i : Instr}

/-- An event row acts, or nothing happens while RESET_N is asserted. -/
theorem of_event_step {f : State → State} (h : s.event f = .next t) (hf : s.LotStep i (f s)) :
    s.LotStep i t := by
  unfold State.event at h
  cases h
  split
  · exact .posts (.of_eq rfl)
  · exact hf

theorem of_event {f : State → State} (h : s.event f = .next t) (hf : s.Posts (f s)) : s.LotStep i t :=
  of_event_step h (.posts hf)

/-- A command row is lost, returns the answer kept, or is handed to its block. -/
theorem of_command (h : s.command i (Machine.replyOf i) = .next t) : s.LotStep i t := by
  refine of_event_step h ?_
  split
  · exact .posts (.of_eq rfl)
  · split <;> exact .posts (.of_eq rfl)
  · split
    · exact .posts (.of_eq rfl)
    next f _ _ _ u hu =>
      have hw := (State.takeFrame_some.mp hu).2.2
      subst hw
      rcases State.Posts.replyOf i (s.writeWhole f) with h | ⟨rfl, h⟩
      · exact .posts (State.Posts.of_same rfl (h.then_same (Reply.answered_ledger _)))
      · exact .opens (h.congr rfl rfl (Reply.answered_ledger _)) (.inl rfl)

theorem of_transaction {sdi : List Byte} (hi : riseOf i = some sdi)
    (h : (Host.Outcome.next (s.endTransaction sdi) : Host.Outcome State Fault Refusal) = .next t) :
    s.LotStep i t := by
  cases h
  rcases s.endTransaction_posts sdi with h | ⟨h, rfl⟩
  · exact .posts h
  · exact .opens h (.inr hi)

/-- What every row does to the lot; that CR gives up CHECK records only rests on the coherence of the blocks. -/
theorem of_exec (hc : ∀ c, i = .chutePulse c → s.Coherent) (h : exec i s = .next t) : s.LotStep i t := by
  cases hf : frameOf i with
  | some f => exact of_command (exec_command hf s ▸ h)
  | none =>
    cases i with
    | powerOnReset estop cans => cases h; exact .powersOn estop cans rfl rfl
    | resetNAsserted => cases h; exact .posts (.of_eq rfl)
    | indexDone sensed =>
      change execIndexDone sensed s = .next t at h
      refine of_event h ?_
      split
      · exact .honourIndex s sensed
      · exact .honourIndex s sensed
      · exact .spuriousIndex s
    | minDwellExpiry =>
      change execMinDwellExpiry s = .next t at h
      refine of_event h (.of_eq ?_)
      split
      · exact State.endDwellTest_ledger _
      · rfl
    | moveTimerExpiry =>
      change execMoveTimerExpiry s = .next t at h
      refine of_event h (.of_eq ?_)
      split <;> rfl
    | estopAsserted =>
      change execEstopAsserted s = .next t at h
      refine of_event h ?_
      dsimp only
      split
      · exact .of_eq rfl
      · exact State.Posts.of_same rfl (.emergencyStop { s with lines := { s.lines with estop := true } })
    | estopReleased =>
      change execEstopReleased s = .next t at h
      refine of_event h (.of_eq ((State.reportSevere_ledger _ _).trans ?_))
      split <;> rfl
    | startLineEdge sensed =>
      change execStartLineEdge sensed s = .next t at h
      refine of_event h ?_
      split
      · exact .beginDwell s sensed
      · exact .of_eq rfl
    | feedPulseEnd =>
      change execFeedPulseEnd s = .next t at h
      exact of_event h (.of_eq rfl)
    | loadSense =>
      change execLoadSense s = .next t at h
      exact of_event h ((State.Posts.loadSense s).then_same (by simp))
    | feedWindowExpiry =>
      change execFeedWindowExpiry s = .next t at h
      exact of_event h ((State.Posts.feedMiss s).then_same (by simp))
    | requestSent k =>
      change execRequestSent k s = .next t at h
      exact of_event h (.of_eq rfl)
    | quietTimerExpiry k =>
      change execQuietTimerExpiry k s = .next t at h
      exact of_event h (.of_eq rfl)
    | result k tag code status =>
      change execResult k tag code status s = .next t at h
      exact of_event h (.of_eq (by simp))
    | identAnswer k tag maxRange =>
      change execIdentAnswer k tag maxRange s = .next t at h
      exact of_event h (.of_eq (by simp))
    | responseTimeout k =>
      change execResponseTimeout k s = .next t at h
      exact of_event h (.of_eq (by simp))
    | linkPause k =>
      change execLinkPause k s = .next t at h
      refine of_event h (.of_eq ?_)
      split <;> rfl
    | framingError k =>
      change execFramingError k s = .next t at h
      refine of_event h (.of_eq ?_)
      split <;> rfl
    | unknownType k b =>
      change execUnknownType k b s = .next t at h
      exact of_event h (.of_eq (by simp))
    | discardQuiet k =>
      change execDiscardQuiet k s = .next t at h
      refine of_event h (.of_eq ?_)
      split <;> rfl
    | pulseTimerExpiry c =>
      change execPulseTimerExpiry c s = .next t at h
      exact of_event h (.of_eq rfl)
    | chutePulse c =>
      change execChutePulse c s = .next t at h
      exact of_event h ((State.Posts.chutePulse (hc c rfl) c).then_same (State.endDwellTest_ledger _))
    | windowTimerExpiry c =>
      change execWindowTimerExpiry c s = .next t at h
      exact of_event h (.of_eq (by simp))
    | canRemoved g =>
      change execCanRemoved g s = .next t at h
      exact of_event h (.of_eq rfl)
    | canInserted g =>
      change execCanInserted g s = .next t at h
      exact of_event h (.of_eq rfl)
    | writeTransaction sdi => exact of_transaction rfl h
    | poll sdi => exact of_transaction rfl h
    | discard sdi => exact of_transaction rfl h
    | readTransaction sdi => exact of_transaction rfl h
    | transactionBegin =>
      cases h
      refine .posts (.of_eq ?_)
      unfold State.beginTransaction
      split
      · split <;> rfl
      · rfl
    | byteReceived k b =>
      change execByteReceived k b s = .next t at h
      exact of_event h (.of_eq (by simp))
    | _ => cases hf

theorem balanced (h : s.LotStep i t) (hs : s.Balanced) : t.Balanced := by
  cases h with
  | posts h => exact h.balanced hs
  | opens h _ => exact h.balanced
  | powersOn estop cans _ ht =>
    subst ht
    exact (State.balanced_iff _).mpr (.of_noLot rfl)

end State.LotStep

/-- Settles O58: every step makes entries that keep the balance, opens a lot in balance, or resets the part. -/
theorem lotStaysBalanced : Obligations.LotStaysBalanced := by
  intro s t hc hs h
  unfold step at h
  split at h
  · cases h; exact hs
  next i rest _ =>
    have hs' : State.Balanced { s with pending := rest } :=
      (State.balanced_iff _).mpr (s.balanced_iff.mp hs)
    exact (State.LotStep.of_exec (fun _ _ => hc.withPending rest) h).balanced hs'

end Sys2Proof.Machine
end

section
/-! SUPPORT. LOT_OPEN: its tests in their order and the seven items of the opening (R155, R156, R158). -/

namespace Sys2Proof.Machine

/-! ### The tests (R156) -/

theorem replyLotOpen_inLot {u : State} (h : u.lot.state ≠ .noLot) : replyLotOpen u = u.refuse .refusedState :=
  if_pos h

theorem LiveRecord.isPurgePending_iff (r : LiveRecord) :
    r.isPurgePending = true ↔ ∃ w, r.phase = .purgePending w := by
  refine ⟨LiveRecord.exists_purgePending, ?_⟩
  rintro ⟨w, hw⟩
  simp [LiveRecord.isPurgePending, hw]

theorem State.allDrained_iff (u : State) :
    u.allPockets PocketRecord.isDrained = true ↔
      ∀ p r, u.pocket p = .live r → ∃ w, r.phase = .purgePending w := by
  rw [State.allPockets_iff]
  refine forall_congr' fun p => ?_
  cases u.pocket p with
  | live r => simp [PocketRecord.isDrained, LiveRecord.isPurgePending_iff]
  | _ => simp [PocketRecord.isDrained]

theorem State.noneHoldsLot_iff (u : State) (n : Nat) :
    u.allPockets (fun r => !r.holdsLot n) = true ↔
      ∀ p r, u.pocket p = .live r → (∃ w, r.phase = .purgePending w) → r.lot ≠ n := by
  rw [State.allPockets_iff]
  refine forall_congr' fun p => ?_
  cases u.pocket p with
  | live r =>
    simp only [PocketRecord.live.injEq, forall_eq', PocketRecord.holdsLot, ← LiveRecord.isPurgePending_iff]
    cases r.isPurgePending <;> simp
  | _ => simp [PocketRecord.holdsLot]

theorem replyLotOpen_notDrained {u : State} (h : u.lot.state = .noLot) {p : Fin 24} {r : LiveRecord}
    (hr : u.pocket p = .live r)
    (hrec : (∀ w, r.phase ≠ .purgePending w) ∨ r.lot = nextLotNumber u.lot.number) :
    replyLotOpen u = u.refuse .notDrained := by
  unfold replyLotOpen
  rw [if_neg (not_not.mpr h)]
  split
  · rfl
  next hd =>
    rw [Bool.not_eq_true', Bool.not_eq_false, State.allDrained_iff] at hd
    have hw := hd p r hr
    rw [if_pos]
    rw [Bool.not_eq_true', ← Bool.not_eq_true, State.noneHoldsLot_iff]
    intro hn
    rcases hrec with hnone | hlot
    · exact hnone _ hw.choose_spec
    · exact hn p r hr hw hlot

theorem replyLotOpen_validated {u : State} (h : u.lot.state = .noLot)
    (hrec : ∀ p r, u.pocket p = .live r →
      (∃ w, r.phase = .purgePending w) ∧ r.lot ≠ nextLotNumber u.lot.number) :
    replyLotOpen u =
      match u.validate with
      | some (item, subject) => ⟨u, .invalidRecipe, byte1 item.code ++ byte1 subject⟩
      | none => u.openLot.done := by
  have hd : u.allPockets PocketRecord.isDrained = true := u.allDrained_iff.mpr fun p r hr => (hrec p r hr).1
  have hn : u.allPockets (fun r => !r.holdsLot (nextLotNumber u.lot.number)) = true :=
    (u.noneHoldsLot_iff _).mpr fun p r hr _ => (hrec p r hr).2
  unfold replyLotOpen
  rw [if_neg (not_not.mpr h), hd, hn]
  rfl

/-! ### The opening (R158) -/

theorem HeadUnit.dropIncapable_eq (v : HeadUnit) (range : Fin 7) :
    v.dropIncapable range =
      { v with state := if v.state.inService && !v.reaches range then .out .incapable else v.state } := by
  unfold HeadUnit.dropIncapable
  split <;> rfl

theorem State.head_withBanks (s : State) (banks : Banks) (armed : Option (Fin 12)) (h : Head) :
    State.head { s with banks := banks, forceClass := armed } h = s.head h := rfl

theorem State.openLot_head (u : State) (h : Head) :
    u.openLot.head h =
      { u.head h with
        forceDoubt := false
        state :=
          if (u.head h).state.inService && !(u.head h).reaches u.banks.pending.range then .out .incapable
          else (u.head h).state } := by
  cases h <;> simp [State.openLot, State.head_withBanks, HeadUnit.dropIncapable_eq]

/-- A record that is PURGE_PENDING keeps all but its lap (R27, R158). -/
theorem State.openLot_pocket_purgePending {u : State} {p : Fin 24} {r : LiveRecord} (hr : u.pocket p = .live r)
    (hw : ∃ w, r.phase = .purgePending w) :
    u.openLot.pocket p = .live { r with lap := min r.lap u.banks.pending.lapLimit } := by
  have hpp := r.isPurgePending_iff.mpr hw
  obtain ⟨v, hv⟩ := u.openLot_pocket p
  rw [hv, hr]
  dsimp only
  rw [State.checkDoneTest_of_isPurgePending hpp, LiveRecord.lowerLap, if_pos hpp]

theorem State.openLot_pocket_other {u : State} {p : Fin 24} (hr : ∀ r, u.pocket p ≠ .live r) :
    u.openLot.pocket p = u.pocket p := by
  obtain ⟨v, hv⟩ := u.openLot_pocket p
  rw [hv]
  cases hp : u.pocket p with
  | live r => exact absurd hp (hr r)
  | empty => rfl
  | unknown => rfl

@[simp] theorem State.openLot_banks (u : State) : u.openLot.banks = ⟨u.banks.pending, u.banks.pending⟩ := by
  simp [State.openLot]
@[simp] theorem State.openLot_forceClass (u : State) : u.openLot.forceClass = none := by simp [State.openLot]
@[simp] theorem State.openLot_check (u : State) :
    u.openLot.check = { u.check with counter := 0, due := false } := by
  simp [State.openLot, CheckUnit.restart, State.headLeft]
@[simp] theorem State.openLot_lot (u : State) :
    u.openLot.lot =
      { state := .open_, number := nextLotNumber u.lot.number, counters := LotCounters.zero } := by
  simp [State.openLot, State.headLeft]
@[simp] theorem State.openLot_dial (u : State) : u.openLot.dial = u.dial := by simp [State.openLot, State.headLeft]
@[simp] theorem State.openLot_feed (u : State) : u.openLot.feed = u.feed := by simp [State.openLot, State.headLeft]
@[simp] theorem State.openLot_gates (u : State) : u.openLot.gates = u.gates := by
  simp [State.openLot, State.headLeft]
@[simp] theorem State.openLot_faults (u : State) : u.openLot.faults = u.faults := by
  simp [State.openLot, State.headLeft]
@[simp] theorem State.openLot_lines (u : State) : u.openLot.lines = u.lines := by
  simp [State.openLot, State.headLeft]
@[simp] theorem State.openLot_link (u : State) : u.openLot.link = u.link := by simp [State.openLot, State.headLeft]

/-! ### The ACTIVE bank (R155) -/

@[simp] theorem State.confirm_banks (s : State) (c : Chute) (p : Fin 24) (sweep : Bool) :
    (s.confirm c p sweep).banks = s.banks := by
  cases c with
  | gate g =>
    dsimp only [State.confirm, State.confirmGate]
    split
    next r _ => split <;> simp [State.binPart, State.fillBin, State.spillPart]
    next => simp
  | checkReturn =>
    dsimp only [State.confirm, State.confirmReturn]
    split
    next r _ =>
      unfold State.countReturn
      split <;> simp
    next => rfl
  | purge =>
    dsimp only [State.confirm, State.confirmPurge]
    split
    · split <;> simp
    · split
      next r _ =>
        unfold State.countPurge
        split <;> simp
      next => simp

@[simp] theorem State.chutePulse_banks (s : State) (c : Chute) : (s.chutePulse c).banks = s.banks := by
  unfold State.chutePulse
  split <;> simp

theorem exec_chutePulse_banks {c : Chute} {s t : State} (h : exec (.chutePulse c) s = .next t) :
    t.banks = s.banks := by
  change execChutePulse c s = .next t at h
  unfold execChutePulse State.event at h
  cases h
  split
  · rfl
  · simp

/-- Only LOT_OPEN and the power-on reset change the ACTIVE bank (R155). -/
theorem active_changed {i : Instr} {s t : State} (h : exec i s = .next t)
    (hne : t.banks.active ≠ s.banks.active) :
    ((i = .lotOpen ∨ riseOf i = some [0x20#8, 0x00#8]) ∧ t.banks.active = s.banks.pending) ∨
      ∃ e c, i = .powerOnReset e c := by
  by_cases hc : ∃ c, i = .chutePulse c
  · obtain ⟨c, rfl⟩ := hc
    exact absurd (congrArg Banks.active (exec_chutePulse_banks h)) hne
  · cases State.LotStep.of_exec (fun c hi => absurd ⟨c, hi⟩ hc) h with
    | posts hp => exact absurd hp.active_eq hne
    | opens ho hi => exact .inl ⟨hi, congrArg Ledger.active ho.ledger⟩
    | powersOn e c hi _ => exact .inr ⟨e, c, hi⟩

/-- Settles O46: the tests of LOT_OPEN in their order, the opening field by field, and the ACTIVE bank by what each
row enters in the ledger. -/
theorem lotOpening : Obligations.LotOpening := by
  refine ⟨fun s u hu => ?_, fun i s t => active_changed⟩
  have hexec : exec .lotOpen s = .next (replyLotOpen u).answered := hu.exec_eq
  rw [hexec]
  refine ⟨fun hlot => ?_, fun hlot => ?_, fun hlot hrec => ?_⟩
  · rw [replyLotOpen_inLot hlot, State.refuse_answered]
  · rintro ⟨p, r, hr, hrec⟩
    rw [replyLotOpen_notDrained hlot hr hrec, State.refuse_answered]
  · rw [replyLotOpen_validated hlot hrec]
    refine ⟨fun item n hv => ?_, fun hv => ⟨u.openLot.answer .ok [], ?_, ?_⟩⟩
    · rw [hv]
      rfl
    · rw [hv]
      exact congrArg Host.Outcome.next (State.done_answered _)
    · have hpurged := fun p r hr => State.openLot_pocket_purgePending hr (hrec p r hr).1
      refine ⟨by simp, by simp, by simp, ?_, fun h => ?_, fun p hr => ?_,
        fun p r hr => ?_, by simp, by simp, by simp, by simp, by simp, by simp⟩
      · rw [State.answer_lot, State.openLot_lot]
        rfl
      · rw [State.answer_head, u.openLot_head]
      · rw [State.answer_pocket, State.openLot_pocket_other hr]
      · rw [State.answer_pocket, hpurged p r hr]

end Sys2Proof.Machine
end

section
/-! SUPPORT. The editing commands of the PENDING bank: the codes they read, the fields they clamp, and the answer they
give (R150 to R153). -/

namespace Sys2Proof.Machine

/-! ### Structural fields (R150 to R152) -/

theorem modeOf_eq_some {i : Byte} {mode : MeasureMode} (h : i.toNat = mode.code) : modeOf i = some mode := by
  cases mode <;> simp [modeOf, h, MeasureMode.code]

theorem modeOf_eq_none {i : Byte} (h : 3 ≤ i.toNat) : modeOf i = none := by
  unfold modeOf
  split
  · omega
  · omega
  · omega
  · rfl

theorem policyOf_eq_some {i : Byte} {policy : Policy} (h : i.toNat = policy.code) : policyOf i = some policy := by
  cases policy <;> simp [policyOf, h, Policy.code]

theorem policyOf_eq_none {i : Byte} (h : 2 ≤ i.toNat) : policyOf i = none := by
  unfold policyOf
  split
  · omega
  · omega
  · rfl

theorem overflowOf_eq_some {i : Byte} {gate : Option (Fin 12)} (h : i.toNat = gate.elim 255 Fin.val) :
    overflowOf i = some gate := by
  unfold overflowOf
  cases gate with
  | some g =>
    have hg : i.toNat = g.val := h
    rw [dif_pos (hg ▸ g.isLt)]
    exact congrArg (some ∘ some) (Fin.ext hg)
  | none =>
    have h255 : i.toNat = 255 := h
    rw [dif_neg (by omega), if_pos (BitVec.eq_of_toNat_eq h255)]

theorem overflowOf_eq_none {i : Byte} (h : 12 ≤ i.toNat) (h255 : i.toNat ≠ 255) : overflowOf i = none := by
  unfold overflowOf
  rw [dif_neg (Nat.not_lt.mpr h), if_neg fun he => h255 (congrArg BitVec.toNat he)]

/-! ### Clamped fields (R150, R151, R152) -/

/-- A field brought into its range is as it was exactly when it was in it. -/
theorem clampNat_ne (lo hi x : Nat) (h : lo ≤ hi) : (clampNat lo hi x != x) = !decide (lo ≤ x ∧ x ≤ hi) := by
  rw [Bool.eq_iff_iff, bne_iff_ne, Bool.not_eq_true', decide_eq_false_iff_not, clampNat]
  omega

theorem clampSigned_ne (lo hi x : Int) (h : lo ≤ hi) :
    (clampSigned lo hi x != x) = !decide (lo ≤ x ∧ x ≤ hi) := by
  rw [Bool.eq_iff_iff, bne_iff_ne, Bool.not_eq_true', decide_eq_false_iff_not, clampSigned_ne_iff h]

theorem min_ne (hi x : Nat) : (min hi x != x) = !decide (x ≤ hi) := by
  rw [Bool.eq_iff_iff, bne_iff_ne, Bool.not_eq_true', decide_eq_false_iff_not]
  omega

theorem lt_eq_not_le (x y : Nat) : decide (x < y) = !decide (y ≤ x) := by
  rw [← decide_not, decide_eq_decide, Nat.not_le]

theorem checkIntervalOf_ne (k : Nat) :
    (checkIntervalOf k != k) = !decide (k = 0 ∨ 20 ≤ k ∧ k ≤ 5000) := by
  rw [Bool.eq_iff_iff, bne_iff_ne, Bool.not_eq_true', decide_eq_false_iff_not, checkIntervalOf, clampNat]
  split <;> omega

theorem decide_toNat_ne_zero (c : Byte) : decide (c.toNat ≠ 0) = (c != 0#8) := by
  rw [Bool.eq_iff_iff, bne_iff_ne, decide_eq_true_iff]
  exact not_congr (BitVec.toNat_eq (y := 0#8)).symm

/-- Fields are clamped when any of them is. -/
theorem not_decide_or (p q : Prop) [Decidable p] [Decidable q] : (!decide p || !decide q) = !decide (p ∧ q) := by
  simp

/-- An edit of the PENDING bank answers CLAMPED unless every field was in its range (R150). -/
theorem State.onPendingBank_answered (u : State) (f : Recipe → Recipe) {clamped : Bool} {c : Prop} [Decidable c]
    (h : clamped = !decide c) :
    ((u.onPendingBank f).doneClamped clamped).answered =
      State.answer { u with banks := { u.banks with pending := f u.banks.pending } }
        (if c then .ok else .clamped) [] := by
  rw [State.doneClamped_answered, h, status_ite_not_decide]
  rfl

/-- An edit of the PENDING bank with every structural field in its range. -/
theorem State.Hands.exec_onPendingBank {s u : State} {i : Instr} (hu : s.Hands i u) {f : Recipe → Recipe}
    {clamped : Bool} {c : Prop} [Decidable c] (hr : replyOf i u = (u.onPendingBank f).doneClamped clamped)
    (h : clamped = !decide c) :
    exec i s = .next
      (State.answer { u with banks := { u.banks with pending := f u.banks.pending } }
        (if c then .ok else .clamped) []) := by
  rw [hu.exec_eq, hr, u.onPendingBank_answered f h]

/-- A command its block refuses. -/
theorem State.Hands.exec_refuse {s u : State} {i : Instr} (hu : s.Hands i u) {status : Status}
    (hr : replyOf i u = u.refuse status) : exec i s = .next (u.answer status []) := by
  rw [hu.exec_eq, hr, State.refuse_answered]

/-! ### The rows (R150 to R153) -/

theorem replySetMeasure_of_mode {m : Byte} {mode : MeasureMode} (hm : modeOf m = some mode) (ap : Byte)
    (l : BitVec 16) (u : State) :
    replySetMeasure m ap l u =
      (u.onPendingBank fun r =>
        { r with mode := mode, aperture := clampCode ap, agreeLimit := clampNat 1 10000 l.toNat }).doneClamped
        (decide (3 < ap.toNat) || clampNat 1 10000 l.toNat != l.toNat) := by
  simp only [replySetMeasure, hm]

theorem replySetMeasure_of_le {m : Byte} (hm : 3 ≤ m.toNat) (ap : Byte) (l : BitVec 16) (u : State) :
    replySetMeasure m ap l u = u.refuse .badIndex := by
  simp only [replySetMeasure, modeOf_eq_none hm]

theorem replySetRetest_of_policies {s1 s2 : Byte} {p1 p2 : Policy} (h1 : policyOf s1 = some p1)
    (h2 : policyOf s2 = some p2) (d rt l : Byte) (u : State) :
    replySetRetest d rt s1 s2 l u =
      (u.onPendingBank fun r =>
        { r with doubtMask := d &&& maskableFlags, retestLimit := min 2 rt.toNat, slot1 := p1, slot2 := p2,
                 lapLimit := clampNat 1 3 l.toNat }).doneClamped
        (min 2 rt.toNat != rt.toNat || clampNat 1 3 l.toNat != l.toNat) := by
  simp only [replySetRetest, h1, h2]

theorem replySetRetest_of_le {s1 s2 : Byte} (h : 2 ≤ s1.toNat ∨ 2 ≤ s2.toNat) (d rt l : Byte) (u : State) :
    replySetRetest d rt s1 s2 l u = u.refuse .badIndex := by
  unfold replySetRetest
  split
  next p1 p2 h1 h2 =>
    rcases h with h | h
    · rw [policyOf_eq_none h] at h1
      cases h1
    · rw [policyOf_eq_none h] at h2
      cases h2
  next => rfl

/-- The class SET_CLASS writes: its bounds and its guard band are brought into their ranges (R152). -/
def clampedClass (lo hi : BitVec 32) (g : BitVec 16) (primary : Fin 12) (overflow : Option (Fin 12))
    (catchAll : Byte) : ClassDef :=
  { lo := clampSigned (-999999) 999999 lo.toInt, hi := clampSigned (-999999) 999999 hi.toInt
    guardBand := min 50000 g.toNat, primary := primary, overflow := overflow, catchAll := catchAll != 0#8 }

theorem replySetClass_of_structural {i p o : Byte} {k pr : Fin 12} {ov : Option (Fin 12)}
    (hi : indexBelow 12 i = some k) (hp : indexBelow 12 p = some pr) (ho : overflowOf o = some ov)
    (lo hi' : BitVec 32) (g : BitVec 16) (c : Byte) (u : State) :
    replySetClass i lo hi' g p o c u =
      (u.onPendingBank fun r =>
        { r with classes := r.classes.set k.val (some (clampedClass lo hi' g pr ov c)) }).doneClamped
        (clampSigned (-999999) 999999 lo.toInt != lo.toInt || clampSigned (-999999) 999999 hi'.toInt != hi'.toInt ||
          min 50000 g.toNat != g.toNat) := by
  simp only [replySetClass, hi, hp, ho]
  rfl

theorem replySetClass_of_le {i p o : Byte} (h : 12 ≤ i.toNat ∨ 12 ≤ p.toNat ∨ (12 ≤ o.toNat ∧ o.toNat ≠ 255))
    (lo hi : BitVec 32) (g : BitVec 16) (c : Byte) (u : State) :
    replySetClass i lo hi g p o c u = u.refuse .badIndex := by
  unfold replySetClass
  split
  next k pr ov hk hpr hov =>
    rcases h with h | h | ⟨h, h255⟩
    · rw [indexBelow_eq_none h] at hk
      cases hk
    · rw [indexBelow_eq_none h] at hpr
      cases hpr
    · rw [overflowOf_eq_none h h255] at hov
      cases hov
  next => rfl

/-- Settles O44: each row is an edit of the PENDING bank, and its clamps give the status. -/
theorem recipeEditing : Obligations.RecipeEditing := by
  unfold Obligations.RecipeEditing
  refine ⟨fun s u m e hu => ?_, fun s u m ap l hu => ⟨?_, ?_⟩, fun s u d rt s1 s2 l hu => ⟨?_, ?_⟩,
    fun s u i lo hi g p o c hu => ⟨?_, ?_⟩, fun s u hu => hu.exec_eq, fun s u k c d hu => ?_,
    fun s u hu => hu.exec_eq⟩
  case refine_1 =>
    refine hu.exec_onPendingBank rfl ?_
    rw [clampNat_ne _ _ _ (by decide), clampSigned_ne _ _ _ (by decide), not_decide_or]
    simp only [and_assoc]
  case refine_2 =>
    intro mode hm
    have hmode : modeOf m = some mode := modeOf_eq_some (by cases mode <;> exact hm)
    refine hu.exec_onPendingBank (replySetMeasure_of_mode hmode ap l u) ?_
    rw [lt_eq_not_le, clampNat_ne _ _ _ (by decide), not_decide_or]
  case refine_3 => exact fun hm => hu.exec_refuse (replySetMeasure_of_le hm ap l u)
  case refine_4 =>
    intro p1 p2 h1 h2
    have hp1 : policyOf s1 = some p1 := policyOf_eq_some (by cases p1 <;> exact h1)
    have hp2 : policyOf s2 = some p2 := policyOf_eq_some (by cases p2 <;> exact h2)
    refine hu.exec_onPendingBank (replySetRetest_of_policies hp1 hp2 d rt l u) ?_
    rw [min_ne, clampNat_ne _ _ _ (by decide), not_decide_or]
  case refine_5 => exact fun h => hu.exec_refuse (replySetRetest_of_le h d rt l u)
  case refine_6 =>
    intro k pr ov hk hpr hov
    have ho : overflowOf o = some ov := overflowOf_eq_some (by cases ov <;> exact hov)
    rw [decide_toNat_ne_zero]
    refine hu.exec_onPendingBank
      (replySetClass_of_structural (indexBelow_eq_some hk) (indexBelow_eq_some hpr) ho lo hi g c u) ?_
    rw [clampSigned_ne _ _ _ (by decide), clampSigned_ne _ _ _ (by decide), min_ne, not_decide_or, not_decide_or]
    simp only [and_assoc]
  case refine_7 => exact fun h => hu.exec_refuse (replySetClass_of_le h lo hi g c u)
  case refine_8 =>
    refine hu.exec_onPendingBank rfl ?_
    rw [checkIntervalOf_ne, clampSigned_ne _ _ _ (by decide), clampNat_ne _ _ _ (by decide), not_decide_or,
      not_decide_or]
    simp only [and_assoc]

end Sys2Proof.Machine
end

section
/-! SUPPORT. The payloads of READ_RECIPE and READ_LOT, part by part (R153, R165). -/

namespace Sys2Proof.Machine

/-! ### Parts of a payload -/

/-- The `i`th of a run of parts whose lengths are known. -/
theorem slice_flatten {ps : List (List Byte)} {lens : List Nat} (hl : ps.map List.length = lens) (i : Nat)
    {x : List Byte} (hx : ps[i]? = some x) : (ps.flatten.drop (lens.take i).sum).take x.length = x := by
  induction ps generalizing lens i with
  | nil => simp at hx
  | cons y ys ih =>
    subst hl
    cases i with
    | zero =>
      obtain rfl : y = x := by simpa using hx
      exact List.take_left
    | succ i =>
      rw [List.flatten_cons, List.map_cons, List.take_succ_cons, List.sum_cons, List.drop_length_add_append]
      exact ih rfl i (by simpa using hx)

/-- The `k`th of a run of parts of equal length. -/
theorem slice_flatMap {α : Type} {f : α → List Byte} {len : Nat} (hf : ∀ x, (f x).length = len) {l : List α}
    {k : Nat} {x : α} (hx : l[k]? = some x) : ((l.flatMap f).drop (len * k)).take len = f x := by
  have hlens : (l.map f).map List.length = List.replicate l.length len := by
    rw [List.map_map, ← List.map_const']
    exact List.map_congr_left fun y _ => hf y
  have hsum : ((List.replicate l.length len).take k).sum = len * k := by
    have hk : k ≤ l.length := (List.getElem?_eq_some_iff.mp hx).1.le
    rw [List.take_replicate, List.sum_replicate, Nat.min_eq_left hk, smul_eq_mul, Nat.mul_comm]
  have hslice := slice_flatten hlens k (x := f x) (by rw [List.getElem?_map, hx]; rfl)
  rwa [hsum, hf, ← List.flatMap_def] at hslice

/-- A field of a part. -/
theorem fieldAt_of_slice {xs part : List Byte} {k len : Nat} (h : (xs.drop k).take len = part) {j n : Nat}
    (hj : j + n ≤ len) : fieldAt xs (k + j) n = fieldAt part j n := by
  have hmin : min n (len - j) = n := by omega
  rw [fieldAt, fieldAt, ← h, List.drop_take, List.take_take, hmin, List.drop_drop]

/-! ### READ_RECIPE (R153) -/

/-- The parts of the READ_RECIPE payload, the class entries last. -/
def Recipe.parts (bank : Nat) (r : Recipe) : List (List Byte) :=
  [byte1 bank, bytesBE 2 r.mantissa, signedBE 1 r.exponent, byte1 r.mode.code, byte1 r.aperture.val,
    bytesBE 2 r.agreeLimit, [r.doubtMask], byte1 r.retestLimit, byte1 r.slot1.code, byte1 r.slot2.code,
    byte1 r.lapLimit, bytesBE 2 r.checkInterval, signedBE 4 r.certified, bytesBE 2 r.driftLimit,
    bytesBE 2 (packBits (r.classes.toList.map Option.isSome)), r.classes.toList.flatMap classPayload]

/-- The lengths of those parts. -/
def recipeLengths : List Nat := [1, 2, 1, 1, 1, 2, 1, 1, 1, 1, 1, 2, 4, 2, 2, 156]

theorem Recipe.payload_eq (bank : Nat) (r : Recipe) : byte1 bank ++ r.payload = (r.parts bank).flatten := by
  simp [Recipe.payload, Recipe.parts]

@[simp] theorem classPayload_length (c : Option ClassDef) : (classPayload c).length = 13 := by
  cases c <;> simp [classPayload]

theorem Recipe.parts_lengths (bank : Nat) (r : Recipe) : (r.parts bank).map List.length = recipeLengths := by
  simp [Recipe.parts, recipeLengths, List.length_flatMap]

theorem Recipe.payload_length (bank : Nat) (r : Recipe) : (byte1 bank ++ r.payload).length = 179 := by
  rw [r.payload_eq, List.length_flatten, r.parts_lengths]
  rfl

/-- The `i`th field of the payload, before the class entries. -/
theorem Recipe.payload_field (bank : Nat) (r : Recipe) (i : Nat) {x : List Byte} {k n : Nat}
    (hk : (recipeLengths.take i).sum = k) (hx : (r.parts bank)[i]? = some x) (hn : recipeLengths[i]? = some n) :
    fieldAt (byte1 bank ++ r.payload) k n = numBE x := by
  rw [r.payload_eq, ← hk]
  exact fieldAt_flatten (r.parts_lengths bank) i hx hn

/-- The entry of the `k`th class, thirteen bytes from byte 23 on. -/
theorem Recipe.payload_class (bank : Nat) (r : Recipe) (k : Fin 12) :
    ((byte1 bank ++ r.payload).drop (23 + 13 * k.val)).take 13 = classPayload (r.cls k) := by
  have hclasses := slice_flatten (r.parts_lengths bank) 15 (x := r.classes.toList.flatMap classPayload) rfl
  have hentry := slice_flatMap classPayload_length (l := r.classes.toList) (k := k.val) (x := r.cls k)
    (by simp [Recipe.cls])
  have hlen : (r.classes.toList.flatMap classPayload).length = 156 := by simp [List.length_flatMap]
  have hk : 13 * k.val + 13 ≤ 156 := by omega
  rw [hlen] at hclasses
  rw [← hentry, ← hclasses, List.drop_take, List.take_take, List.drop_drop, r.payload_eq,
    Nat.min_eq_left (by omega)]
  rfl

theorem numBE_signedBE_one (x : Int) : numBE (signedBE 1 x) = (BitVec.ofInt 8 x).toNat := by
  rw [signedBE, numBE_bytesBE]
  exact Nat.mod_eq_of_lt (BitVec.ofInt 8 x).isLt

theorem numBE_bytesBE_two (v : Nat) : numBE (bytesBE 2 v) = v % 65536 := numBE_bytesBE 2 v

theorem numBE_bytesBE_four (v : Nat) : numBE (bytesBE 4 v) = v % 4294967296 := numBE_bytesBE 4 v

/-- The classes defined, a bit each, the first class lowest. -/
theorem Recipe.fieldAt_defined (bank : Nat) (r : Recipe) :
    fieldAt (byte1 bank ++ r.payload) 21 2 = packBits (r.classes.toList.map Option.isSome) := by
  have hlt := packBits_lt (r.classes.toList.map Option.isSome)
  rw [List.length_map, Vector.length_toList] at hlt
  refine (r.payload_field bank 14 rfl rfl rfl).trans ?_
  rw [numBE_bytesBE_two, Nat.mod_eq_of_lt (hlt.trans (by decide))]

theorem Recipe.defined_lt (r : Recipe) : packBits (r.classes.toList.map Option.isSome) < 4096 := by
  have hlt := packBits_lt (r.classes.toList.map Option.isSome)
  rwa [List.length_map, Vector.length_toList] at hlt

/-! ### One class entry (R153) -/

/-- The parts of the entry of a defined class. -/
def ClassDef.parts (d : ClassDef) : List (List Byte) :=
  [signedBE 4 d.lo, signedBE 4 d.hi, bytesBE 2 d.guardBand, byte1 d.primary.val,
    byte1 (d.overflow.elim 255 Fin.val), byte1 d.catchAll.toNat]

theorem ClassDef.payload_eq (d : ClassDef) : classPayload (some d) = d.parts.flatten := by
  cases ho : d.overflow <;> simp [classPayload, ClassDef.parts, ho]

theorem ClassDef.parts_lengths (d : ClassDef) : d.parts.map List.length = [4, 4, 2, 1, 1, 1] := by
  simp [ClassDef.parts]

/-- The `i`th field of the entry of a defined class. -/
theorem Recipe.class_field (bank : Nat) (r : Recipe) {k : Fin 12} {d : ClassDef} (hd : r.cls k = some d) (i j : Nat)
    {x : List Byte} {n : Nat} (hj : (([4, 4, 2, 1, 1, 1] : List Nat).take i).sum = j)
    (hx : d.parts[i]? = some x) (hn : ([4, 4, 2, 1, 1, 1] : List Nat)[i]? = some n) (hle : j + n ≤ 13) :
    fieldAt (byte1 bank ++ r.payload) (23 + j + 13 * k.val) n = numBE x := by
  rw [Nat.add_right_comm, fieldAt_of_slice (r.payload_class bank k) hle, hd, d.payload_eq, ← hj]
  exact fieldAt_flatten d.parts_lengths i hx hn

/-! ### READ_LOT (R165) -/

/-- The parts of the READ_LOT payload. -/
def State.lotParts (s : State) : List (List Byte) :=
  [byte1 s.lot.state.code, bytesBE 2 s.lot.number, byte1 s.check.due.toNat, bytesBE 2 s.check.counter,
    bytesBE 4 s.lot.counters.loaded, bytesBE 2 s.lot.counters.checkLoads, bytesBE 2 s.lot.counters.checkReturns,
    s.lot.counters.binned.toList.flatMap (bytesBE 4), bytesBE 4 s.lot.counters.spilled,
    s.lot.counters.purged.toList.flatMap (bytesBE 4), bytesBE 4 s.lot.counters.lost,
    bytesBE 4 s.lot.counters.abandoned, bytesBE 4 s.lot.counters.recalled, bytesBE 4 s.lot.counters.retests,
    bytesBE 4 s.lot.counters.passedUnsorted, bytesBE 4 s.lot.counters.swept, bytesBE 2 s.check.exposure.a,
    bytesBE 2 s.check.exposure.b, signedBE 4 s.check.lastDrift.a, signedBE 4 s.check.lastDrift.b]

/-- The lengths of those parts. -/
def lotLengths : List Nat := [1, 2, 1, 2, 4, 2, 2, 48, 4, 32, 4, 4, 4, 4, 4, 4, 2, 2, 4, 4]

theorem State.lotPayload_eq (s : State) : s.lotPayload = s.lotParts.flatten := by
  simp [State.lotPayload, LotCounters.payload, State.lotParts]

theorem State.lotParts_lengths (s : State) : s.lotParts.map List.length = lotLengths := by
  simp [State.lotParts, lotLengths, List.length_flatMap]

theorem State.lotPayload_length (s : State) : s.lotPayload.length = 134 := by
  rw [s.lotPayload_eq, List.length_flatten, s.lotParts_lengths]
  rfl

/-- The `i`th field of the payload. -/
theorem State.lotPayload_field (s : State) (i : Nat) {x : List Byte} {k n : Nat}
    (hk : (lotLengths.take i).sum = k) (hx : s.lotParts[i]? = some x) (hn : lotLengths[i]? = some n) :
    fieldAt s.lotPayload k n = numBE x := by
  rw [s.lotPayload_eq, ← hk]
  exact fieldAt_flatten s.lotParts_lengths i hx hn

/-- A number of four bytes. -/
theorem State.lotPayload_word (s : State) (i : Nat) {v k : Nat} (hk : (lotLengths.take i).sum = k)
    (hx : s.lotParts[i]? = some (bytesBE 4 v)) (hn : lotLengths[i]? = some 4) :
    fieldAt s.lotPayload k 4 = v % 4294967296 :=
  (s.lotPayload_field i hk hx hn).trans (numBE_bytesBE_four v)

/-- A number of two bytes. -/
theorem State.lotPayload_half (s : State) (i : Nat) {v k : Nat} (hk : (lotLengths.take i).sum = k)
    (hx : s.lotParts[i]? = some (bytesBE 2 v)) (hn : lotLengths[i]? = some 2) :
    fieldAt s.lotPayload k 2 = v % 65536 :=
  (s.lotPayload_field i hk hx hn).trans (numBE_bytesBE_two v)

/-- A counter of a family of counters, four bytes each, that is the `i`th part of the payload. -/
theorem State.lotPayload_counter (s : State) (i : Nat) {m at_ : Nat} {v : Vector Nat m}
    (hk : (lotLengths.take i).sum = at_) (hx : s.lotParts[i]? = some (v.toList.flatMap (bytesBE 4))) (g : Fin m) :
    fieldAt s.lotPayload (at_ + 4 * g.val) 4 = v[g.val] % 4294967296 := by
  have hlen : (v.toList.flatMap (bytesBE 4)).length = 4 * m := by
    simp [List.length_flatMap, Nat.mul_comm]
  have hpart := slice_flatten s.lotParts_lengths i hx
  rw [← s.lotPayload_eq, hk, hlen] at hpart
  have hcounter : fieldAt (v.toList.flatMap (bytesBE 4)) (4 * g.val + 0) 4 = fieldAt (bytesBE 4 v[g.val]) 0 4 :=
    fieldAt_flatMap (bytesBE_length 4) (by simp) (by decide)
  rw [fieldAt_of_slice hpart (by omega), ← Nat.add_zero (4 * g.val), hcounter, fieldAt, List.drop_zero,
    List.take_of_length_le (by simp), numBE_bytesBE_four]

/-! ### The fields -/

theorem numBE_byte1_of_lt {n : Nat} (h : n < 256) : numBE (byte1 n) = n := by
  rw [numBE_byte1, Nat.mod_eq_of_lt h]

theorem numBE_byte1_toNat (b : Bool) : numBE (byte1 b.toNat) = if b = true then 1 else 0 := by
  cases b <;> rfl

theorem ClassDef.overflow_lt (d : ClassDef) : d.overflow.elim 255 Fin.val < 256 := by
  cases d.overflow with
  | none => decide
  | some o => exact o.isLt.trans (by decide)

/-- READ_RECIPE reads the bank it names (R153). -/
theorem replyReadRecipe_eq {i : Byte} (h : i.toNat ≤ 1) (u : State) :
    replyReadRecipe i u =
      u.report (byte1 i.toNat ++ (if i.toNat = 0 then u.banks.pending else u.banks.active).payload) := by
  obtain h0 | h1 : i.toNat = 0 ∨ i.toNat = 1 := by omega
  · simp only [replyReadRecipe, h0, if_true]
  · simp only [replyReadRecipe, h1, Nat.one_ne_zero, if_false]

/-- Settles O45: each field of the two payloads is the item at its place. -/
theorem readRecipeAndLot : Obligations.ReadRecipeAndLot := by
  refine ⟨fun s u i hu hi => ?_, fun s u hu => ?_⟩
  case refine_1 =>
    have hi256 : i.toNat < 256 := by omega
    obtain ⟨r, hr⟩ : ∃ r, r = if i.toNat = 0 then u.banks.pending else u.banks.active := ⟨_, rfl⟩
    refine ⟨byte1 i.toNat ++ r.payload, r, hr, ?_⟩
    have field := r.payload_field i.toNat
    refine ⟨?_, r.payload_length i.toNat, ?_⟩
    · rw [hu.exec_eq, show replyOf (.readRecipe i) u = _ from replyReadRecipe_eq hi u, ← hr, State.report_answered]
    refine ⟨(field 0 rfl rfl rfl).trans (numBE_byte1_of_lt hi256), (field 1 rfl rfl rfl).trans (numBE_bytesBE_two _),
      (field 2 rfl rfl rfl).trans (numBE_signedBE_one _), ?_,
      (field 4 rfl rfl rfl).trans (numBE_byte1_of_lt (r.aperture.isLt.trans (by decide))),
      (field 5 rfl rfl rfl).trans (numBE_bytesBE_two _), (field 6 rfl rfl rfl).trans (numBE_singleton _),
      (field 7 rfl rfl rfl).trans (numBE_byte1 _), ?_, ?_, (field 10 rfl rfl rfl).trans (numBE_byte1 _),
      (field 11 rfl rfl rfl).trans (numBE_bytesBE_two _), (field 12 rfl rfl rfl).trans (numBE_signedBE_four _),
      (field 13 rfl rfl rfl).trans (numBE_bytesBE_two _), fun k => ?_, ?_, fun k => ⟨fun hk => ?_, fun d hd => ?_⟩⟩
    · refine (field 3 rfl rfl rfl).trans ?_
      cases r.mode <;> rfl
    · refine (field 8 rfl rfl rfl).trans ?_
      cases r.slot1 <;> rfl
    · refine (field 9 rfl rfl rfl).trans ?_
      cases r.slot2 <;> rfl
    · rw [r.fieldAt_defined, testBit_packBits]
      simp [Recipe.cls]
    · rw [r.fieldAt_defined]
      exact r.defined_lt
    · rw [r.payload_class, hk]
      rfl
    · have entry := @Recipe.class_field i.toNat r k d hd
      refine ⟨(entry 0 0 rfl rfl rfl (by decide)).trans (numBE_signedBE_four _),
        (entry 1 4 rfl rfl rfl (by decide)).trans (numBE_signedBE_four _),
        (entry 2 8 rfl rfl rfl (by decide)).trans (numBE_bytesBE_two _),
        (entry 3 10 rfl rfl rfl (by decide)).trans (numBE_byte1_of_lt (d.primary.isLt.trans (by decide))),
        ?_, (entry 5 12 rfl rfl rfl (by decide)).trans (numBE_byte1_toNat _)⟩
      refine ((entry 4 11 rfl rfl rfl (by decide)).trans (numBE_byte1_of_lt d.overflow_lt)).trans ?_
      cases d.overflow <;> rfl
  case refine_2 =>
    have field := u.lotPayload_field
    have word := u.lotPayload_word
    have half := u.lotPayload_half
    refine ⟨u.lotPayload, hu.exec_eq, u.lotPayload_length, ?_, half 1 rfl rfl rfl,
      (field 2 rfl rfl rfl).trans (numBE_byte1_toNat _), half 3 rfl rfl rfl, word 4 rfl rfl rfl, half 5 rfl rfl rfl,
      half 6 rfl rfl rfl, u.lotPayload_counter 7 rfl rfl, word 8 rfl rfl rfl, u.lotPayload_counter 9 rfl rfl,
      word 10 rfl rfl rfl, word 11 rfl rfl rfl, word 12 rfl rfl rfl, word 13 rfl rfl rfl, word 14 rfl rfl rfl,
      word 15 rfl rfl rfl, half 16 rfl rfl rfl, half 17 rfl rfl rfl,
      (field 18 rfl rfl rfl).trans (numBE_signedBE_four _), (field 19 rfl rfl rfl).trans (numBE_signedBE_four _)⟩
    refine (field 0 rfl rfl rfl).trans ?_
    cases u.lot.state <;> rfl

end Sys2Proof.Machine
end

section
/-! SUPPORT. The validation of the PENDING bank: each item of its table finds its failure and the subject of it, and
the first item in the order of their codes that fails is the one given (R157). -/

namespace Sys2Proof.Machine

/-! ### The classes of a bank (R97) -/

theorem Recipe.mem_defined {r : Recipe} {x : Fin 12 × ClassDef} : x ∈ r.defined ↔ r.cls x.1 = some x.2 := by
  obtain ⟨i, c⟩ := x
  simp only [Recipe.defined, List.mem_filterMap, List.mem_finRange, true_and, Option.map_eq_some_iff, Prod.mk.injEq]
  constructor
  · rintro ⟨_, _, hc, rfl, rfl⟩
    exact hc
  · exact fun hc => ⟨i, c, hc, rfl, rfl⟩

theorem Recipe.anyClass_iff {r : Recipe} {test : Fin 12 → ClassDef → Bool} :
    r.anyClass test = true ↔ ∃ j d, r.cls j = some d ∧ test j d = true := by
  simp only [Recipe.anyClass, List.any_eq_true, Recipe.mem_defined, Prod.exists]

theorem Recipe.defined_isEmpty_iff {r : Recipe} : r.defined.isEmpty = true ↔ ∀ i, r.cls i = none := by
  rw [List.isEmpty_iff, List.eq_nil_iff_forall_not_mem]
  simp only [Recipe.mem_defined, Prod.forall, Option.eq_none_iff_forall_ne_some, ne_eq]

/-- The first class that fails a test, as a search over the indexes. -/
theorem Recipe.firstClass_eq_find (r : Recipe) (test : Fin 12 → ClassDef → Bool) :
    r.firstClass test = (Fin.find? fun i => (r.cls i).any (test i)).map Fin.val := by
  have hany : (fun i => ((r.cls i).map fun c => (i, c)).any fun x => test x.1 x.2) =
      fun i => (r.cls i).any (test i) := by
    funext i
    cases r.cls i <;> rfl
  rw [Recipe.firstClass, Recipe.defined, List.find?_filterMap, hany, ← Fin.find?_eq_find?_finRange]
  cases hfind : Fin.find? fun i => (r.cls i).any (test i) with
  | none => rfl
  | some i =>
    obtain ⟨c, hc, -⟩ := (Option.any_eq_true _ _).mp (Fin.find?_eq_some_iff.mp hfind).1
    simp [hc]

/-! ### What an item finds -/

/-- A search finds the failure of an item: nothing when it does not fail, and else its subject. -/
structure Finds (found : Option Nat) (fails : Prop) (subject : Nat → Prop) : Prop where
  none_iff : found = none ↔ ¬fails
  some_iff : ∀ n, found = some n ↔ fails ∧ subject n

/-- The first of the classes for which `P` holds. -/
def IsFirst (P : Fin 12 → Prop) (n : Nat) : Prop := ∃ i : Fin 12, n = i.val ∧ P i ∧ ∀ j, j < i → ¬P j

/-- The search over the classes finds the first one that fails. -/
theorem Recipe.firstClass_finds {r : Recipe} {test : Fin 12 → ClassDef → Bool} {P : Fin 12 → Prop}
    (hP : ∀ i, P i ↔ ∃ c, r.cls i = some c ∧ test i c = true) :
    Finds (r.firstClass test) (∃ i, P i) (IsFirst P) := by
  have hany : ∀ i, (r.cls i).any (test i) = true ↔ P i := fun i => by
    rw [hP, Option.any_eq_true]
  have hnot : ∀ i, (r.cls i).any (test i) = false ↔ ¬P i := fun i => by
    rw [← hany, Bool.not_eq_true]
  rw [r.firstClass_eq_find]
  constructor
  · rw [Option.map_eq_none_iff, Fin.find?_eq_none_iff, not_exists]
    exact forall_congr' hnot
  · intro n
    simp only [Option.map_eq_some_iff, Fin.find?_eq_some_iff, hany, hnot]
    constructor
    · rintro ⟨i, ⟨hi, hfirst⟩, rfl⟩
      exact ⟨⟨i, hi⟩, i, rfl, hi, hfirst⟩
    · rintro ⟨-, i, rfl, hi, hfirst⟩
      exact ⟨i, ⟨hi, hfirst⟩, rfl⟩

/-! ### The items of one class (R157, items 2, 3, 5 and 6) -/

theorem Recipe.windowOrder_finds (r : Recipe) :
    Finds (r.firstClass windowOrderFails) (∃ i, r.classFails .windowOrder i) (IsFirst (r.classFails .windowOrder)) :=
  Recipe.firstClass_finds fun i => by simp [Recipe.classFails, windowOrderFails]

theorem Recipe.guardEmpty_finds (r : Recipe) :
    Finds (r.firstClass guardEmptyFails) (∃ i, r.classFails .guardEmpty i) (IsFirst (r.classFails .guardEmpty)) :=
  Recipe.firstClass_finds fun i => by simp [Recipe.classFails, guardEmptyFails]

theorem Recipe.gateSharedFails_iff {r : Recipe} {i : Fin 12} {c : ClassDef} :
    r.gateSharedFails i c = true ↔ ∃ j d, r.cls j = some d ∧ j < i ∧ d.primary = c.primary := by
  simp [Recipe.gateSharedFails, Recipe.anyClass_iff]

theorem Recipe.gateShared_finds (r : Recipe) :
    Finds (r.firstClass r.gateSharedFails) (∃ i, r.classFails .gateShared i) (IsFirst (r.classFails .gateShared)) :=
  Recipe.firstClass_finds fun i => by simp only [Recipe.classFails, Recipe.gateSharedFails_iff]

theorem Recipe.overflowFails_iff {r : Recipe} {i : Fin 12} {c : ClassDef} :
    r.overflowFails i c = true ↔
      ∃ o, c.overflow = some o ∧
        ∃ j d, r.cls j = some d ∧ (d.primary = o ∨ (j < i ∧ d.overflow = some o)) := by
  cases ho : c.overflow <;> simp [Recipe.overflowFails, ho, Recipe.anyClass_iff]

theorem Recipe.overflowConflict_finds (r : Recipe) :
    Finds (r.firstClass r.overflowFails) (∃ i, r.classFails .overflowConflict i)
      (IsFirst (r.classFails .overflowConflict)) :=
  Recipe.firstClass_finds fun i => by simp only [Recipe.classFails, Recipe.overflowFails_iff]

/-! ### CATCHALL_PLACE (R157 item 4; log entry 9) -/

/-- The class at an index is a catch-all. -/
def Recipe.IsCatchAll (r : Recipe) (i : Fin 12) : Prop := ∃ c, r.cls i = some c ∧ c.catchAll = true

/-- The class at an index is a catch-all after another. -/
def Recipe.RepeatsCatchAll (r : Recipe) (i : Fin 12) : Prop := r.IsCatchAll i ∧ ∃ j, j < i ∧ r.IsCatchAll j

/-- The class at an index is a catch-all before a class. -/
def Recipe.MisplacesCatchAll (r : Recipe) (i : Fin 12) : Prop := r.IsCatchAll i ∧ ∃ j, i < j ∧ ∃ d, r.cls j = some d

theorem Recipe.classFails_catchAllPlace {r : Recipe} {i : Fin 12} :
    r.classFails .catchAllPlace i ↔ r.RepeatsCatchAll i ∨ r.MisplacesCatchAll i := by
  constructor
  · rintro ⟨c, hc, hcatch, j, d, hd, ⟨hj, hdcatch⟩ | hj⟩
    · exact .inl ⟨⟨c, hc, hcatch⟩, j, hj, d, hd, hdcatch⟩
    · exact .inr ⟨⟨c, hc, hcatch⟩, j, hj, d, hd⟩
  · rintro (⟨⟨c, hc, hcatch⟩, j, hj, d, hd, hdcatch⟩ | ⟨⟨c, hc, hcatch⟩, j, hj, d, hd⟩)
    · exact ⟨c, hc, hcatch, j, d, hd, .inl ⟨hj, hdcatch⟩⟩
    · exact ⟨c, hc, hcatch, j, d, hd, .inr hj⟩

theorem Recipe.repeatsCatchAll_iff {r : Recipe} {i : Fin 12} :
    r.RepeatsCatchAll i ↔ ∃ c, r.cls i = some c ∧ r.catchAllFails i c = true := by
  simp only [Recipe.RepeatsCatchAll, Recipe.IsCatchAll, Recipe.catchAllFails, Bool.and_eq_true, Recipe.anyClass_iff,
    decide_eq_true_iff]
  constructor
  · rintro ⟨⟨c, hc, hcatch⟩, j, hj, d, hd, hdcatch⟩
    exact ⟨c, hc, hcatch, j, d, hd, hj, hdcatch⟩
  · rintro ⟨c, hc, hcatch, j, d, hd, hj, hdcatch⟩
    exact ⟨⟨c, hc, hcatch⟩, j, hj, d, hd, hdcatch⟩

theorem Recipe.misplacesCatchAll_iff {r : Recipe} {i : Fin 12} :
    r.MisplacesCatchAll i ↔ ∃ c, r.cls i = some c ∧ r.catchAllMisplaced i c = true := by
  simp only [Recipe.MisplacesCatchAll, Recipe.IsCatchAll, Recipe.catchAllMisplaced, Bool.and_eq_true,
    Recipe.anyClass_iff, decide_eq_true_iff]
  constructor
  · rintro ⟨⟨c, hc, hcatch⟩, j, hj, d, hd⟩
    exact ⟨c, hc, hcatch, j, d, hd, hj⟩
  · rintro ⟨c, hc, hcatch, j, d, hd, hj⟩
    exact ⟨⟨c, hc, hcatch⟩, j, hj, d, hd⟩

/-- The class at an index is the second catch-all. -/
def Recipe.IsSecondCatchAll (r : Recipe) (i : Fin 12) : Prop :=
  r.IsCatchAll i ∧ ∃ j, j < i ∧ r.IsCatchAll j ∧ ∀ k, k < i → r.IsCatchAll k → k = j

/-- The class at an index is the one catch-all. -/
def Recipe.IsOnlyCatchAll (r : Recipe) (i : Fin 12) : Prop := r.IsCatchAll i ∧ ∀ j, r.IsCatchAll j → j = i

/-- The first catch-all after another is the second one. -/
theorem Recipe.isSecondCatchAll_iff {r : Recipe} {i : Fin 12} :
    r.IsSecondCatchAll i ↔ r.RepeatsCatchAll i ∧ ∀ j, j < i → ¬r.RepeatsCatchAll j := by
  constructor
  · rintro ⟨hi, j, hj, hjc, huniq⟩
    refine ⟨⟨hi, j, hj, hjc⟩, ?_⟩
    rintro k hk ⟨hkc, m, hm, hmc⟩
    exact absurd ((huniq m (hm.trans hk) hmc).trans (huniq k hk hkc).symm) hm.ne
  · rintro ⟨⟨hi, j, hj, hjc⟩, hfirst⟩
    refine ⟨hi, j, hj, hjc, fun k hk hkc => ?_⟩
    rcases lt_trichotomy k j with hlt | heq | hgt
    · exact absurd ⟨hjc, k, hlt, hkc⟩ (hfirst j hj)
    · exact heq
    · exact absurd ⟨hkc, j, hgt, hjc⟩ (hfirst k hk)

/-- With no catch-all after another there is at most one. -/
theorem Recipe.isOnlyCatchAll_iff {r : Recipe} {i : Fin 12} :
    r.IsOnlyCatchAll i ↔ r.IsCatchAll i ∧ ¬∃ j, r.RepeatsCatchAll j := by
  constructor
  · rintro ⟨hi, huniq⟩
    refine ⟨hi, ?_⟩
    rintro ⟨k, hkc, m, hm, hmc⟩
    exact absurd ((huniq m hmc).trans (huniq k hkc).symm) hm.ne
  · rintro ⟨hi, hnone⟩
    refine ⟨hi, fun k hkc => ?_⟩
    rcases lt_trichotomy k i with hlt | heq | hgt
    · exact absurd ⟨i, hi, k, hlt, hkc⟩ hnone
    · exact heq
    · exact absurd ⟨k, hkc, i, hgt, hi⟩ hnone

/-- The subject of CATCHALL_PLACE. -/
def Recipe.CatchAllSubject (r : Recipe) (n : Nat) : Prop :=
  ∃ i : Fin 12, n = i.val ∧ (r.IsSecondCatchAll i ∨ r.IsOnlyCatchAll i)

theorem Recipe.catchAllPlace_finds (r : Recipe) :
    Finds r.catchAllFailure (∃ i, r.classFails .catchAllPlace i) r.CatchAllSubject := by
  have hrep := Recipe.firstClass_finds (r := r) fun i => Recipe.repeatsCatchAll_iff
  have hmis := Recipe.firstClass_finds (r := r) fun i => Recipe.misplacesCatchAll_iff
  simp only [Recipe.classFails_catchAllPlace, exists_or]
  constructor
  · rw [Recipe.catchAllFailure, Option.or_eq_none_iff, hrep.none_iff, hmis.none_iff, not_or]
  intro n
  rw [Recipe.catchAllFailure, Option.or_eq_some_iff, hrep.some_iff, hrep.none_iff, hmis.some_iff]
  constructor
  · rintro (⟨hfails, i, rfl, hi⟩ | ⟨hnone, hfails, i, rfl, hi, -⟩)
    · exact ⟨.inl hfails, i, rfl, .inl (Recipe.isSecondCatchAll_iff.mpr hi)⟩
    · exact ⟨.inr hfails, i, rfl, .inr (Recipe.isOnlyCatchAll_iff.mpr ⟨hi.1, hnone⟩)⟩
  · rintro ⟨hfails, i, rfl, hsecond | honly⟩
    · have hi := Recipe.isSecondCatchAll_iff.mp hsecond
      exact .inl ⟨⟨i, hi.1⟩, i, rfl, hi⟩
    · have hnone := (Recipe.isOnlyCatchAll_iff.mp honly).2
      obtain ⟨k, hk⟩ := hfails.resolve_left hnone
      obtain rfl : k = i := honly.2 k hk.1
      exact .inr ⟨hnone, ⟨k, hk⟩, k, rfl, hk, fun j hj hjmis => hj.ne (honly.2 j hjmis.1)⟩

/-- A test of the classes that are not catch-alls, in the terms of the statement. -/
theorem Recipe.not_isCatchAll_iff {r : Recipe} {i : Fin 12} :
    ¬r.IsCatchAll i ↔ ∀ c, r.cls i = some c → c.catchAll = false := by
  simp only [Recipe.IsCatchAll, not_exists, not_and, Bool.not_eq_true]

theorem State.itemSubject_catchAllPlace {s : State} {n : Nat} :
    s.itemSubject .catchAllPlace n ↔ s.banks.pending.CatchAllSubject n := by
  have hne (k j : Fin 12) :
      (k ≠ j → ∀ e, s.banks.pending.cls k = some e → e.catchAll = false) ↔
        (s.banks.pending.IsCatchAll k → k = j) := by
    rw [← Recipe.not_isCatchAll_iff]
    exact not_imp_not
  refine exists_congr fun i => and_congr_right fun _ => ?_
  constructor
  · rintro ⟨c, hc, hcatch, ⟨j, d, hj, hd, hdcatch, huniq⟩ | huniq⟩
    · exact .inl ⟨⟨c, hc, hcatch⟩, j, hj, ⟨d, hd, hdcatch⟩,
        fun k hk => (hne k j).mp fun hkj e => huniq k e hk hkj⟩
    · exact .inr ⟨⟨c, hc, hcatch⟩, fun k => (hne k i).mp fun hki e => huniq k e hki⟩
  · rintro (⟨⟨c, hc, hcatch⟩, j, hj, ⟨d, hd, hdcatch⟩, huniq⟩ | ⟨⟨c, hc, hcatch⟩, huniq⟩)
    · exact ⟨c, hc, hcatch, .inl ⟨j, d, hj, hd, hdcatch, fun k e hk hkj => (hne k j).mpr (huniq k hk) hkj e⟩⟩
    · exact ⟨c, hc, hcatch, .inr fun k e hki => (hne k i).mpr (huniq k) hki e⟩

/-! ### The heads (R157, items 7 and 8) -/

theorem State.headTooShort_iff {s : State} {h : Head} :
    s.headTooShort h ↔ (s.inService h && (s.head h).tooShortFor s.banks.pending.aperture) = true := by
  rw [Bool.and_eq_true, HeadUnit.tooShortFor_iff]
  rfl

theorem State.timeoutShort_finds (s : State) :
    Finds s.timeoutFailure (∃ h, s.headTooShort h)
      (fun n => (n = 0 ∧ s.headTooShort .a) ∨ (n = 1 ∧ ¬s.headTooShort .a)) := by
  have hfails : (∃ h, s.headTooShort h) ↔ s.headTooShort .a ∨ s.headTooShort .b :=
    ⟨fun ⟨h, hh⟩ => by cases h <;> simp [hh], fun hh => hh.elim (⟨.a, ·⟩) (⟨.b, ·⟩)⟩
  rw [hfails]
  unfold State.timeoutFailure
  by_cases ha : s.headTooShort .a
  · rw [if_pos (State.headTooShort_iff.mp ha)]
    constructor <;> simp [ha, eq_comm]
  · rw [if_neg (mt State.headTooShort_iff.mpr ha)]
    by_cases hb : s.headTooShort .b
    · rw [if_pos (State.headTooShort_iff.mp hb)]
      constructor <;> simp [ha, hb, eq_comm]
    · rw [if_neg (mt State.headTooShort_iff.mpr hb)]
      constructor <;> simp [ha, hb]

theorem State.headCapable_iff {s : State} {h : Head} :
    s.headCapable h ↔ s.capable h s.banks.pending.range = true := by
  rw [State.headCapable, State.capable, Bool.and_eq_true]
  refine and_congr_right fun _ => ?_
  unfold HeadUnit.reaches
  cases (s.head h).maxRange with
  | none => simp
  | some m =>
    simp only [Option.some.injEq, exists_eq_left', decide_eq_true_iff]
    rfl

/-! ### The failure of each item -/

/-- The subject of an item that finds no class and no head. -/
def subjectIf (fails : Bool) : Option Nat := if fails then some 0xFF else none

theorem subjectIf_finds {fails : Bool} {P : Prop} (h : fails = true ↔ P) :
    Finds (subjectIf fails) P (fun n => n = 0xFF) := by
  obtain rfl : (fails = true) = P := propext h
  cases fails with
  | true => exact ⟨by simp [subjectIf], fun n => by simp [subjectIf, eq_comm]⟩
  | false => exact ⟨by simp [subjectIf], fun n => by simp [subjectIf]⟩

/-- What the validation finds for an item (R157). -/
def State.itemFailure (s : State) : Item → Option Nat
  | .noClasses => subjectIf s.banks.pending.defined.isEmpty
  | .windowOrder => s.banks.pending.firstClass windowOrderFails
  | .guardEmpty => s.banks.pending.firstClass guardEmptyFails
  | .catchAllPlace => s.banks.pending.catchAllFailure
  | .gateShared => s.banks.pending.firstClass s.banks.pending.gateSharedFails
  | .overflowConflict => s.banks.pending.firstClass s.banks.pending.overflowFails
  | .timeoutShort => s.timeoutFailure
  | .noCapableHead => subjectIf !(s.capable .a s.banks.pending.range || s.capable .b s.banks.pending.range)

theorem State.noCapableHead_iff {s : State} :
    (!(s.capable .a s.banks.pending.range || s.capable .b s.banks.pending.range)) = true ↔
      ∀ h, ¬s.headCapable h := by
  simp only [State.headCapable_iff, Bool.not_eq_true', Bool.or_eq_false_iff, Bool.not_eq_true]
  exact ⟨fun ⟨ha, hb⟩ h => by cases h <;> assumption, fun h => ⟨h .a, h .b⟩⟩

theorem State.itemFailure_finds (s : State) (item : Item) :
    Finds (s.itemFailure item) (s.itemFails item) (s.itemSubject item) := by
  cases item with
  | noClasses => exact subjectIf_finds Recipe.defined_isEmpty_iff
  | windowOrder => exact s.banks.pending.windowOrder_finds
  | guardEmpty => exact s.banks.pending.guardEmpty_finds
  | catchAllPlace =>
    have hfinds := s.banks.pending.catchAllPlace_finds
    exact ⟨hfinds.none_iff, fun n => by rw [State.itemSubject_catchAllPlace]; exact hfinds.some_iff n⟩
  | gateShared => exact s.banks.pending.gateShared_finds
  | overflowConflict => exact s.banks.pending.overflowConflict_finds
  | timeoutShort => exact s.timeoutShort_finds
  | noCapableHead => exact subjectIf_finds State.noCapableHead_iff

/-! ### The order of the items -/

/-- The items in the order of their codes (R157). -/
def Item.inOrder : List Item :=
  [.noClasses, .windowOrder, .guardEmpty, .catchAllPlace, .gateShared, .overflowConflict, .timeoutShort,
    .noCapableHead]

theorem Item.mem_inOrder (item : Item) : item ∈ Item.inOrder := by
  cases item <;> decide

theorem Item.inOrder_sorted : Item.inOrder.Pairwise (·.code < ·.code) := by decide

theorem findSome_cons_eq_or {α β : Type} (f : α → Option β) (x : α) (xs : List α) :
    (x :: xs).findSome? f = (f x).or (xs.findSome? f) := by
  cases hx : f x <;> simp [hx]

theorem or_subjectIf (fails : Bool) (item : Item) (rest : Option (Item × Nat)) :
    ((subjectIf fails).map (item, ·)).or rest = if fails then some (item, 0xFF) else rest := by
  cases fails <;> rfl

theorem map_subjectIf_not (holds : Bool) (item : Item) :
    (subjectIf !holds).map (item, ·) = if holds then none else some (item, 0xFF) := by
  cases holds <;> rfl

/-- The validation is the search for the first item that fails. -/
theorem State.validate_eq_findSome (s : State) :
    s.validate = Item.inOrder.findSome? fun item => (s.itemFailure item).map (item, ·) := by
  simp only [Item.inOrder, findSome_cons_eq_or, State.itemFailure, List.findSome?_nil, Option.or_none, or_subjectIf,
    map_subjectIf_not]
  rfl

theorem State.validate_eq_none_iff (s : State) : s.validate = none ↔ ∀ item, s.itemFailure item = none := by
  simp only [s.validate_eq_findSome, List.findSome?_eq_none_iff, Option.map_eq_none_iff, Item.mem_inOrder,
    forall_const]

theorem State.validate_eq_some_iff (s : State) (item : Item) (n : Nat) :
    s.validate = some (item, n) ↔
      s.itemFailure item = some n ∧ ∀ j : Item, j.code < item.code → s.itemFailure j = none := by
  rw [s.validate_eq_findSome, List.findSome?_eq_some_iff]
  constructor
  · rintro ⟨before, first, after, horder, hfirst, hbefore⟩
    obtain ⟨m, hm, hpair⟩ := Option.map_eq_some_iff.mp hfirst
    obtain ⟨rfl, rfl⟩ := Prod.mk.inj hpair
    refine ⟨hm, fun j hj => ?_⟩
    have hsorted := Item.inOrder_sorted
    have hmem := j.mem_inOrder
    rw [horder] at hsorted hmem
    rcases List.mem_append.mp hmem with hj' | hj'
    · exact Option.map_eq_none_iff.mp (hbefore j hj')
    · rcases List.mem_cons.mp hj' with rfl | hj'
      · exact absurd hj (lt_irrefl _)
      · exact absurd hj (List.rel_of_pairwise_cons (List.pairwise_append.mp hsorted).2.1 hj').not_gt
  · rintro ⟨hitem, hlower⟩
    obtain ⟨before, after, horder⟩ := List.append_of_mem item.mem_inOrder
    have hsorted := Item.inOrder_sorted
    rw [horder] at hsorted
    refine ⟨before, item, after, horder, by rw [hitem]; rfl, fun j hj => ?_⟩
    have hcode : j.code < item.code := (List.pairwise_append.mp hsorted).2.2 j hj item List.mem_cons_self
    rw [hlower j hcode]
    rfl

/-- Settles O47: each item finds its own failure, and the items are searched in the order of their codes. -/
theorem validationGivesTheFirstFailure : Obligations.ValidationGivesTheFirstFailure := by
  constructor
  · intro s
    rw [s.validate_eq_none_iff]
    exact forall_congr' fun item => (s.itemFailure_finds item).none_iff
  · intro s item n
    rw [s.validate_eq_some_iff, (s.itemFailure_finds item).some_iff, and_assoc]
    exact and_congr_right fun _ => and_congr_right fun _ => forall_congr' fun j =>
      imp_congr_right fun _ => (s.itemFailure_finds j).none_iff

end Sys2Proof.Machine
end

section
/-! SUPPORT. The fault unit's commands: the payloads part by part, what ACK_FAULTS clears, and the rank of the
captures (R167 to R172). -/

namespace Sys2Proof.Machine

theorem Flag.number_lt (f : Flag) : f.number < 19 := by
  cases f <;> decide

theorem numBE_byte1_flag (f : Flag) : numBE (byte1 f.number) = f.number :=
  numBE_byte1_of_lt (f.number_lt.trans (by decide))

/-! ### READ_FAULTS (R172) -/

/-- The two lines, the host hold and the two captures, bit 0 first (R172). -/
def State.faultBits (s : State) : List Bool :=
  [s.holdLine, s.attnLine, s.dial.hostHold, s.faults.pocketCapture.isSome, s.faults.headCapture.isSome]

/-- The parts of the READ_FAULTS payload. -/
def State.faultsParts (s : State) : List (List Byte) :=
  [bytesBE 4 s.flags.toNat, bytesBE 4 s.faults.attnMask.toNat, bytesBE 2 s.faults.gateBlockedBins.toNat,
    bytesBE 2 s.faults.nearFullBins.toNat, bytesBE 2 s.faults.fullBins.toNat,
    bytesBE 2 s.faults.unsortedClasses.toNat, byte1 (packBits s.faultBits)]

/-- The lengths of those parts. -/
def faultsLengths : List Nat := [4, 4, 2, 2, 2, 2, 1]

theorem State.faultsPayload_eq (s : State) : s.faultsPayload = s.faultsParts.flatten := by
  simp [State.faultsPayload, State.faultsParts, State.faultBits]

theorem State.faultsParts_lengths (s : State) : s.faultsParts.map List.length = faultsLengths := by
  simp [State.faultsParts, faultsLengths]

theorem State.faultsPayload_length (s : State) : s.faultsPayload.length = 17 := by
  rw [s.faultsPayload_eq, List.length_flatten, s.faultsParts_lengths]
  rfl

/-- The `i`th field of the payload. -/
theorem State.faultsPayload_field (s : State) (i : Nat) {x : List Byte} {k n : Nat}
    (hk : (faultsLengths.take i).sum = k) (hx : s.faultsParts[i]? = some x) (hn : faultsLengths[i]? = some n) :
    fieldAt s.faultsPayload k n = numBE x := by
  rw [s.faultsPayload_eq, ← hk]
  exact fieldAt_flatten s.faultsParts_lengths i hx hn

/-- A set of flags or of numbers that fits in its `n` bytes. -/
theorem State.faultsPayload_set (s : State) (i : Nat) {w : Nat} {v : BitVec w} {k n : Nat}
    (hk : (faultsLengths.take i).sum = k) (hx : s.faultsParts[i]? = some (bytesBE n v.toNat))
    (hn : faultsLengths[i]? = some n) (hw : 2 ^ w ≤ 256 ^ n) : fieldAt s.faultsPayload k n = v.toNat :=
  (s.faultsPayload_field i hk hx hn).trans
    ((numBE_bytesBE n _).trans (Nat.mod_eq_of_lt (v.isLt.trans_le hw)))

/-- The lines, the host hold and the captures stand in byte 16. -/
theorem State.faultsPayload_bits (s : State) : fieldAt s.faultsPayload 16 1 = packBits s.faultBits :=
  (s.faultsPayload_field 6 rfl rfl rfl).trans
    ((numBE_byte1 _).trans (packBits_mod_byte (by simp [State.faultBits])))

/-! ### ACK_FAULTS (R168) -/

/-- A flag is named in the 32-bit field by the bit of its number. -/
theorem getLsbD_flagSetOf (x : BitVec 32) (f : Flag) : (flagSetOf x).getLsbD f.number = x.getLsbD f.number := by
  simp [flagSetOf, f.number_lt]

/-- The acknowledgement changes the fault unit and the PG-miss count, and then the test of R5 is made. -/
theorem State.ackFaults_eq (s : State) (named : FlagSet) :
    s.ackFaults named =
      State.reportSevere
        { s with
          faults := s.faults.acknowledge named
          gates :=
            if named.getLsbD Flag.purgeBlocked.number then { s.gates with purgeMisses := 0 } else s.gates } s := by
  unfold State.ackFaults
  cases named.getLsbD Flag.purgeBlocked.number <;> rfl

/-! ### The payloads of READ_CAPTURE (R170) -/

/-- The parts of the payload of a filled pocket capture. -/
def PocketCapture.parts (c : PocketCapture) : List (List Byte) :=
  [byte1 0, byte1 1, byte1 c.kind.flag.number, byte1 c.pocket.val, bytesBE 2 c.lot, bytesBE 3 c.serial,
    byte1 c.station, byte1 (c.cls.elim 255 Fin.val)]

/-- The lengths of those parts. -/
def pocketCaptureLengths : List Nat := [1, 1, 1, 1, 2, 3, 1, 1]

theorem PocketCapture.payload_eq (c : PocketCapture) : pocketCapturePayload (some c) = c.parts.flatten := by
  cases hc : c.cls <;> simp [pocketCapturePayload, PocketCapture.parts, hc]

theorem PocketCapture.parts_lengths (c : PocketCapture) : c.parts.map List.length = pocketCaptureLengths := by
  simp [PocketCapture.parts, pocketCaptureLengths]

/-- The `i`th field of the payload of a filled pocket capture. -/
theorem PocketCapture.payload_field (c : PocketCapture) (i : Nat) {x : List Byte} {k n : Nat}
    (hk : (pocketCaptureLengths.take i).sum = k) (hx : c.parts[i]? = some x)
    (hn : pocketCaptureLengths[i]? = some n) : fieldAt (pocketCapturePayload (some c)) k n = numBE x := by
  rw [c.payload_eq, ← hk]
  exact fieldAt_flatten c.parts_lengths i hx hn

theorem pocketCapturePayload_length (c : Option PocketCapture) : (pocketCapturePayload c).length = 11 := by
  cases c with
  | none => rfl
  | some c => rw [c.payload_eq, List.length_flatten, c.parts_lengths]; rfl

/-- The payload of the pocket capture begins with its index. -/
theorem pocketCapturePayload_index (c : Option PocketCapture) : fieldAt (pocketCapturePayload c) 0 1 = 0 := by
  cases c with
  | none => rfl
  | some c => exact c.payload_field 0 rfl rfl rfl

/-- The parts of the payload of a filled head capture; no drift stands as 0 (log entry 26). -/
def HeadCapture.parts (c : HeadCapture) : List (List Byte) :=
  [byte1 1, byte1 1, byte1 c.kind.flag.number, byte1 (headCode c.head), bytes16 c.epoch, bytesBE 2 c.exposure,
    byte1 c.drift.isSome.toNat, signedBE 4 (c.drift.getD 0)]

/-- The lengths of those parts. -/
def headCaptureLengths : List Nat := [1, 1, 1, 1, 2, 2, 1, 4]

theorem HeadCapture.payload_eq (c : HeadCapture) : headCapturePayload (some c) = c.parts.flatten := by
  cases hd : c.drift <;> simp [headCapturePayload, HeadCapture.parts, hd]

theorem HeadCapture.parts_lengths (c : HeadCapture) : c.parts.map List.length = headCaptureLengths := by
  simp [HeadCapture.parts, headCaptureLengths]

/-- The `i`th field of the payload of a filled head capture. -/
theorem HeadCapture.payload_field (c : HeadCapture) (i : Nat) {x : List Byte} {k n : Nat}
    (hk : (headCaptureLengths.take i).sum = k) (hx : c.parts[i]? = some x)
    (hn : headCaptureLengths[i]? = some n) : fieldAt (headCapturePayload (some c)) k n = numBE x := by
  rw [c.payload_eq, ← hk]
  exact fieldAt_flatten c.parts_lengths i hx hn

theorem headCapturePayload_length (c : Option HeadCapture) : (headCapturePayload c).length = 13 := by
  cases c with
  | none => rfl
  | some c => rw [c.payload_eq, List.length_flatten, c.parts_lengths]; rfl

/-- The payload of the head capture begins with its index. -/
theorem headCapturePayload_index (c : Option HeadCapture) : fieldAt (headCapturePayload c) 0 1 = 1 := by
  cases c with
  | none => rfl
  | some c => exact c.payload_field 0 rfl rfl rfl

/-! ### READ_CAPTURE and ACK_CAPTURE by their index (R170) -/

theorem replyReadCapture_pocket {i : Byte} (h : i.toNat = 0) (s : State) :
    replyReadCapture i s = s.report (pocketCapturePayload s.faults.pocketCapture) := by
  simp only [replyReadCapture, h]

theorem replyReadCapture_head {i : Byte} (h : i.toNat = 1) (s : State) :
    replyReadCapture i s = s.report (headCapturePayload s.faults.headCapture) := by
  simp only [replyReadCapture, h]

theorem replyAckCapture_pocket {i : Byte} (h : i.toNat = 0) (s : State) :
    replyAckCapture i s = State.done { s with faults := { s.faults with pocketCapture := none } } := by
  simp only [replyAckCapture, h]
  rfl

theorem replyAckCapture_head {i : Byte} (h : i.toNat = 1) (s : State) :
    replyAckCapture i s = State.done { s with faults := { s.faults with headCapture := none } } := by
  simp only [replyAckCapture, h]
  rfl

/-! ### The rank of the captures (R166, R169) -/

theorem PocketFault.rank_lt_iff (held offer : PocketFault) :
    held.rank < offer.rank ↔
      (held = .ejectMiss ∧ offer ≠ .ejectMiss) ∨ (held = .lostPart ∧ (offer = .spill ∨ offer = .strayPart)) ∨
        (held = .spill ∧ offer = .strayPart) := by
  cases held <;> cases offer <;> decide

theorem HeadFault.rank_lt_iff (held offer : HeadFault) :
    held.rank < offer.rank ↔
      (held = .substituted ∧ offer ≠ .substituted) ∨ (held = .lost ∧ offer = .drift) := by
  cases held <;> cases offer <;> decide

/-- Settles O49: each payload is the run of its parts, each command is what its block does, and an offer is taken
by rank. -/
theorem faultCommands : Obligations.FaultCommands := by
  refine ⟨fun s u hu => ?readFaults, fun s u x hu => ?ackFaults, fun s u x hu => hu.exec_eq,
    fun s u i hu => ⟨fun hi => ?readPocket, fun hi => ?readHead⟩,
    fun s u i hu => ⟨fun hi => ?ackPocket, fun hi => ?ackHead⟩,
    fun offer => ⟨rfl, fun held => ?pocketOffer⟩, fun offer => ⟨rfl, fun held => ?headOffer⟩⟩
  case readFaults =>
    refine ⟨u.faultsPayload, hu.exec_eq, u.faultsPayload_length, u.faultsPayload_set 0 rfl rfl rfl (by decide),
      u.faultsPayload_set 1 rfl rfl rfl (by decide), u.faultsPayload_set 2 rfl rfl rfl (by decide),
      u.faultsPayload_set 3 rfl rfl rfl (by decide), u.faultsPayload_set 4 rfl rfl rfl (by decide),
      u.faultsPayload_set 5 rfl rfl rfl (by decide), ?_⟩
    rw [u.faultsPayload_bits]
    exact ⟨testBit_packBits _ 0, testBit_packBits _ 1, testBit_packBits _ 2, testBit_packBits _ 3,
      testBit_packBits _ 4, packBits_lt _⟩
  case ackFaults =>
    refine ⟨_, rfl, ?_⟩
    rw [hu.exec_eq, show replyOf (.ackFaults x) u = (u.ackFaults (flagSetOf x)).done from rfl,
      State.done_answered, State.ackFaults_eq]
    simp only [FaultUnit.acknowledge, keepUnless, getLsbD_flagSetOf]
    rfl
  case readPocket =>
    refine ⟨pocketCapturePayload u.faults.pocketCapture, ?_, pocketCapturePayload_length _,
      pocketCapturePayload_index _, fun hc => by rw [hc]; rfl, fun c hc => ?_⟩
    · rw [hu.exec_eq, show replyOf (.readCapture i) u = _ from replyReadCapture_pocket hi u, State.report_answered]
    · rw [hc]
      have field := c.payload_field
      refine ⟨field 1 rfl rfl rfl, (field 2 rfl rfl rfl).trans (numBE_byte1_flag _),
        (field 3 rfl rfl rfl).trans (numBE_byte1_of_lt (c.pocket.isLt.trans (by decide))),
        (field 4 rfl rfl rfl).trans (numBE_bytesBE_two _), (field 5 rfl rfl rfl).trans (numBE_bytesBE 3 _),
        (field 6 rfl rfl rfl).trans (numBE_byte1 _), (field 7 rfl rfl rfl).trans ?_⟩
      cases c.cls with
      | none => rfl
      | some k => exact numBE_byte1_of_lt (k.isLt.trans (by decide))
  case readHead =>
    refine ⟨headCapturePayload u.faults.headCapture, ?_, headCapturePayload_length _,
      headCapturePayload_index _, fun hc => by rw [hc]; rfl, fun c hc => ?_⟩
    · rw [hu.exec_eq, show replyOf (.readCapture i) u = _ from replyReadCapture_head hi u, State.report_answered]
    · rw [hc]
      have field := c.payload_field
      refine ⟨field 1 rfl rfl rfl, (field 2 rfl rfl rfl).trans (numBE_byte1_flag _),
        (field 3 rfl rfl rfl).trans ?_, (field 4 rfl rfl rfl).trans (numBE_bytes16 _),
        (field 5 rfl rfl rfl).trans (numBE_bytesBE_two _), (field 6 rfl rfl rfl).trans ?_,
        (field 7 rfl rfl rfl).trans ((numBE_signedBE_four _).trans ?_)⟩
      · cases c.head <;> rfl
      · cases c.drift <;> rfl
      · cases c.drift <;> rfl
  case ackPocket =>
    rw [hu.exec_eq, show replyOf (.ackCapture i) u = _ from replyAckCapture_pocket hi u, State.done_answered]
  case ackHead =>
    rw [hu.exec_eq, show replyOf (.ackCapture i) u = _ from replyAckCapture_head hi u, State.done_answered]
  case pocketOffer => simp only [takePocketOffer, PocketFault.rank_lt_iff, ← apply_ite some]
  case headOffer => simp only [takeHeadOffer, HeadFault.rank_lt_iff, ← apply_ite some]

end Sys2Proof.Machine
end

section
/-! SUPPORT. The command frames: the table of the codes both ways, and what passes the tests of a written frame (R176;
spec 11, command codes). -/

namespace Sys2Proof.Machine

/-! ### A frame that reads as a row -/

/-- The row with the level of POCKET_SENSE that its arrival samples, which START alone carries (log entry 12). -/
def sampled (sense : Bool) : Instr → Instr
  | .start _ => .start sense
  | i => i

/-- The frame is the one that the row writes, and it reads as the row, a START with the level sampled. -/
structure SpellsRow (f : Frame) (i : Instr) : Prop where
  written : frameOf i = some f
  read : ∀ sense, decodeFrame sense f = some (sampled sense i)

/-- A frame spells the row that it reads as, when that row writes it; the row is found by reading the frame. -/
theorem SpellsRow.of_read {f : Frame} {i : Instr} (_ : decodeFrame true f = some i)
    (hread : ∀ sense, decodeFrame sense f = some (sampled sense i)) (hwritten : frameOf i = some f) :
    SpellsRow f i :=
  ⟨hwritten, hread⟩

theorem frameOf_sampled (sense : Bool) (i : Instr) : frameOf (sampled sense i) = frameOf i := by
  cases i <;> rfl

/-! ### The table of the codes, row by row -/

/-- A code of the table with the payload length it asks for spells a row: the payload's bytes go into the row's fields
and come back from them. -/
theorem exists_spellsRow {f : Frame} (hl : requestLength f.code = some f.payload.length) :
    ∃ i, SpellsRow f i := by
  obtain ⟨code, payload⟩ := f
  obtain ⟨k, v, rfl⟩ : ∃ (k : Nat) (v : Fin k → Byte), payload = List.ofFn v :=
    ⟨_, payload.get, (List.ofFn_get payload).symm⟩
  have hcode : code = BitVec.ofNat 8 code.toNat := (BitVec.ofNat_toNat 8 code).symm
  simp only [List.length_ofFn] at hl
  unfold requestLength at hl
  split at hl
  case h_43 => cases hl
  all_goals
    next hc =>
      rw [hc] at hcode
      subst hcode
      cases hl
      exact ⟨_, .of_read rfl (fun _ => rfl) (congrArg (fun bytes => some (Frame.mk _ bytes)) (by simp))⟩

/-- No payload makes a row of a code that is not in the table: of the 256 codes, the table has this one or no pattern
of `decodeFrame` does. -/
theorem decodeFrame_of_requestLength_none {code : Byte} (hn : requestLength code = none) (sense : Bool)
    (payload : List Byte) : decodeFrame sense ⟨code, payload⟩ = none := by
  obtain ⟨n⟩ := code
  fin_cases n
  all_goals
    first
    | rfl
    | cases hn

/-- A code of the table reads as a row with a payload of its length only: the payload is taken apart byte by byte, as far
as the pattern of the code goes. -/
theorem length_of_decodeFrame {code : Byte} {k : Nat} (hk : requestLength code = some k) {payload : List Byte}
    {sense : Bool} {i : Instr} (hd : decodeFrame sense ⟨code, payload⟩ = some i) : payload.length = k := by
  have hcode : code = BitVec.ofNat 8 code.toNat := (BitVec.ofNat_toNat 8 code).symm
  unfold requestLength at hk
  split at hk
  case h_43 => cases hk
  all_goals
    next hc =>
      rw [hc] at hcode
      subst hcode
      cases hk
      clear hc
      repeat'
        first
        | cases hd
        | rcases payload with _ | ⟨x, payload⟩
      rfl

/-! ### The rows and the frames -/

theorem requestLength_of_decodeFrame {sense : Bool} {f : Frame} {i : Instr} (hd : decodeFrame sense f = some i) :
    requestLength f.code = some f.payload.length := by
  cases hk : requestLength f.code with
  | none => exact nomatch (decodeFrame_of_requestLength_none hk sense f.payload).symm.trans hd
  | some k => rw [length_of_decodeFrame hk hd]

/-- What a frame reads as writes that frame. -/
theorem frameOf_of_decodeFrame {sense : Bool} {f : Frame} {i : Instr} (hd : decodeFrame sense f = some i) :
    frameOf i = some f := by
  obtain ⟨j, hj⟩ := exists_spellsRow (requestLength_of_decodeFrame hd)
  obtain rfl : sampled sense j = i := Option.some.inj ((hj.read sense).symm.trans hd)
  rw [frameOf_sampled, hj.written]

/-- Each command row's frame passes the tests and reads back as the row; the other rows are events. -/
theorem frameRoundTrip_row (i : Instr) : Laws.FrameRoundTrip.Statement i := by
  cases i with
  | setDial minDwell moveTimeout startEnable =>
    exact Laws.FrameRoundTrip.setDial minDwell moveTimeout startEnable
  | setFeed window => exact Laws.FrameRoundTrip.setFeed window
  | start sense => exact Laws.FrameRoundTrip.start sense
  | stop => exact Laws.FrameRoundTrip.stop
  | hold => exact Laws.FrameRoundTrip.hold
  | release => exact Laws.FrameRoundTrip.release
  | readDial => exact Laws.FrameRoundTrip.readDial
  | lotOpen => exact Laws.FrameRoundTrip.lotOpen
  | lotClose => exact Laws.FrameRoundTrip.lotClose
  | lotAbort => exact Laws.FrameRoundTrip.lotAbort
  | readLot => exact Laws.FrameRoundTrip.readLot
  | setNominal mantissa exponent => exact Laws.FrameRoundTrip.setNominal mantissa exponent
  | setMeasure mode aperture agreeLimit => exact Laws.FrameRoundTrip.setMeasure mode aperture agreeLimit
  | setRetest doubtMask retestLimit slot1 slot2 lapLimit =>
    exact Laws.FrameRoundTrip.setRetest doubtMask retestLimit slot1 slot2 lapLimit
  | setClass index lo hi guardBand primary overflow catchAll =>
    exact Laws.FrameRoundTrip.setClass index lo hi guardBand primary overflow catchAll
  | clearClasses => exact Laws.FrameRoundTrip.clearClasses
  | setCheck interval certified driftLimit => exact Laws.FrameRoundTrip.setCheck interval certified driftLimit
  | copyActive => exact Laws.FrameRoundTrip.copyActive
  | readRecipe bank => exact Laws.FrameRoundTrip.readRecipe bank
  | setHead head timeoutSelect => exact Laws.FrameRoundTrip.setHead head timeoutSelect
  | setHeadCal head range offset gain => exact Laws.FrameRoundTrip.setHeadCal head range offset gain
  | headEnable head => exact Laws.FrameRoundTrip.headEnable head
  | headDisable head => exact Laws.FrameRoundTrip.headDisable head
  | readHead head => exact Laws.FrameRoundTrip.readHead head
  | readHeadStats head => exact Laws.FrameRoundTrip.readHeadStats head
  | forceDoubt head => exact Laws.FrameRoundTrip.forceDoubt head
  | setGate pulseWidth confirmWindow => exact Laws.FrameRoundTrip.setGate pulseWidth confirmWindow
  | setBin bin capacity threshold => exact Laws.FrameRoundTrip.setBin bin capacity threshold
  | stall bin => exact Laws.FrameRoundTrip.stall bin
  | unstall bin => exact Laws.FrameRoundTrip.unstall bin
  | readBin index => exact Laws.FrameRoundTrip.readBin index
  | readPocket pocket => exact Laws.FrameRoundTrip.readPocket pocket
  | voidPocket pocket => exact Laws.FrameRoundTrip.voidPocket pocket
  | reroutePocket pocket cls => exact Laws.FrameRoundTrip.reroutePocket pocket cls
  | forceClass cls => exact Laws.FrameRoundTrip.forceClass cls
  | requestCheck => exact Laws.FrameRoundTrip.requestCheck
  | readFaults => exact Laws.FrameRoundTrip.readFaults
  | ackFaults flags => exact Laws.FrameRoundTrip.ackFaults flags
  | readCapture which => exact Laws.FrameRoundTrip.readCapture which
  | ackCapture which => exact Laws.FrameRoundTrip.ackCapture which
  | setAttnMask mask => exact Laws.FrameRoundTrip.setAttnMask mask
  | resetSort => exact Laws.FrameRoundTrip.resetSort
  | _ => exact Laws.FrameRoundTrip.of_event rfl

theorem testFrame_of_frameOf {i : Instr} {f : Frame} (hf : frameOf i = some f) : testFrame f.bytes = .ok f :=
  (frameRoundTrip_row i f hf).2

/-- A row's frame reads back as that row at the level that a START carries (log entry 12). -/
theorem decodeFrame_of_frameOf {i : Instr} {f : Frame} (hf : frameOf i = some f) {sense : Bool}
    (hsense : ∀ level, i = .start level → level = sense) : decodeFrame sense f = some i := by
  obtain ⟨⟨level, hd⟩, -⟩ := frameRoundTrip_row i f hf
  obtain ⟨j, hj⟩ := exists_spellsRow (requestLength_of_decodeFrame hd)
  obtain rfl : sampled level j = i := Option.some.inj ((hj.read level).symm.trans hd)
  rw [hj.read sense]
  cases j with
  | start b => rw [hsense level rfl]
  | _ => rfl

/-- Settles O54: the rows one by one, and the table of the codes one by one. -/
theorem frameRoundTrip : Obligations.FrameRoundTrip := by
  refine ⟨fun i f => frameRoundTrip_row i f, fun sense f i => frameOf_of_decodeFrame, fun sense b f hb => ?_⟩
  obtain ⟨hbytes, hl⟩ := eq_bytes_of_testFrame hb
  obtain ⟨i, hi⟩ := exists_spellsRow hl
  exact ⟨hbytes, _, hi.read sense⟩

end Sys2Proof.Machine
end

section
/-! SUPPORT. The link unit and the input lines, which no block writes when it is handed a command: that belongs to the link
itself and to the part's inputs (R174, R176, R180). -/

namespace Sys2Proof.Machine

/-- What stands at the part's pins: the link unit and the input lines. -/
def State.port (s : State) : Link × Lines := (s.link, s.lines)

/-! ### The dial and the records -/

theorem State.onDial_port (s : State) (f : Dial → Dial) : (s.onDial f).port = s.port := rfl

theorem State.onFeed_port (s : State) (f : FeedUnit → FeedUnit) : (s.onFeed f).port = s.port := rfl

theorem State.drainTest_port (s : State) : s.drainTest.port = s.port := by simp [State.port]

theorem State.endDwellTest_port (s : State) : s.endDwellTest.port = s.port := by simp [State.port]

theorem State.heldTest_port (s : State) : s.heldTest.port = s.port := by simp [State.port]

theorem State.reportSevere_port (s before : State) : (s.reportSevere before).port = s.port := by
  simp [State.port]

theorem State.giveUpRecords_port (s : State) : s.giveUpRecords.port = s.port := by
  simp [State.port, State.giveUpRecords]

theorem State.headLeft_port (s : State) : s.headLeft.port = s.port := by simp [State.port, State.headLeft]

theorem State.stopDial_port (s : State) : s.stopDial.port = s.port := by
  unfold State.stopDial
  split
  case h_4 => exact s.giveUpRecords_port
  all_goals rfl

theorem State.abandonRecord_port (s : State) (h : Head) (p : Fin 24) (disabled : Bool) :
    (s.abandonRecord h p disabled).port = s.port := by
  unfold State.abandonRecord
  split
  next r _ =>
    split
    next =>
      split
      next =>
        split
        next => rfl
        next =>
          split
          next => simp [State.port, State.applyRecall]
          next => split <;> rfl
      next => rfl
    next => rfl
  next => rfl

theorem State.abandonMeasurement_port (s : State) (h : Head) (next : HeadState) (disabled : Bool) :
    (s.abandonMeasurement h next disabled).port = s.port := by
  dsimp only [State.abandonMeasurement]
  split
  · rw [State.abandonRecord_port]
    split <;> rfl
  · split <;> rfl

theorem State.disableHead_port (s : State) (h : Head) : (s.disableHead h).port = s.port := by
  unfold State.disableHead
  split
  next => rfl
  next => rfl
  next => exact State.headLeft_port _
  next => rw [State.endDwellTest_port, State.abandonMeasurement_port]

/-! ### The arrivals of a dwell -/

theorem State.arriveLoad_port (s : State) : s.arriveLoad.port = s.port := by
  dsimp only [State.arriveLoad]
  split
  next => split <;> rfl
  next => rfl
  next => split <;> rfl

theorem State.arriveHead_port (s : State) (h : Head) : (s.arriveHead h).port = s.port := by
  dsimp only [State.arriveHead]
  split
  next =>
    split
    next =>
      split
      next =>
        split
        next => rfl
        next => rfl
        next => split <;> rfl
      next => rfl
    next => rfl
  next => rfl

theorem State.arriveGate_port (s : State) (g : Fin 12) : (s.arriveGate g).port = s.port := by
  dsimp only [State.arriveGate]
  split
  next =>
    split
    next =>
      split
      next => split <;> rfl
      next => rfl
    next => rfl
  next => rfl

theorem State.arriveCheckReturn_port (s : State) : s.arriveCheckReturn.port = s.port := by
  dsimp only [State.arriveCheckReturn]
  split
  next =>
    split
    next => rfl
    next => simp [State.port, State.passUnsorted]
    next => rfl
  next => rfl

theorem State.arrivePurge_port (s : State) : s.arrivePurge.port = s.port := by
  dsimp only [State.arrivePurge]
  split
  next => rfl
  next => rfl
  next => split <;> rfl

theorem State.lostPart_port (s : State) (p : Fin 24) (r : LiveRecord) : (s.lostPart p r).port = s.port := by
  simp [State.port, State.lostPart]

theorem State.arriveEmptyCheck_port (s : State) (sensed : Bool) : (s.arriveEmptyCheck sensed).port = s.port := by
  dsimp only [State.arriveEmptyCheck]
  split
  next => exact State.drainTest_port _
  next => rfl
  next => rfl
  next => exact State.drainTest_port _
  next => rfl
  next r _ =>
    have hlost := (State.drainTest_port _).trans (s.lostPart_port (s.pocketAt Config.offsetEmptyCheck) r)
    split
    next => rfl
    next => rfl
    all_goals exact hlost

theorem State.deliver_port {arrive : State → State} (ha : ∀ s, (arrive s).port = s.port) (s : State)
    (st : Station) : (s.deliver st arrive).port = s.port := by
  unfold State.deliver
  split
  · rfl
  · exact ha s

theorem State.arriveGates_port (s : State) : s.arriveGates.port = s.port := by
  unfold State.arriveGates
  induction List.finRange 12 generalizing s with
  | nil => rfl
  | cons g gs ih => exact (ih _).trans (State.deliver_port (fun s => s.arriveGate_port g) s _)

theorem State.beginDwell_port (s : State) (sensed : Bool) : (s.beginDwell sensed).port = s.port := by
  dsimp only [State.beginDwell, State.arrivals]
  rw [State.arriveEmptyCheck_port, State.deliver_port State.arrivePurge_port,
    State.deliver_port State.arriveCheckReturn_port, State.arriveGates_port,
    State.deliver_port fun s => s.arriveHead_port .b, State.deliver_port fun s => s.arriveHead_port .a,
    State.deliver_port State.arriveLoad_port]
  rfl

/-! ### What a block returns -/

theorem State.drain_port (s : State) : s.drain.port = s.port := by simp [State.port, State.drain]

theorem replyLotAbort_port (s : State) : (replyLotAbort s).state.port = s.port := by
  unfold replyLotAbort
  split
  · rfl
  · simp [State.port]

theorem State.withHead_port {s : State} (i : Byte) {act : Head → Reply} (ha : ∀ h, (act h).state.port = s.port) :
    (s.withHead i act).state.port = s.port := by
  unfold State.withHead
  split
  · exact ha _
  · rfl

theorem State.withBin_port {s : State} (i : Byte) {act : Fin 12 → Reply} (ha : ∀ g, (act g).state.port = s.port) :
    (s.withBin i act).state.port = s.port := by
  unfold State.withBin
  split
  · exact ha _
  · rfl

theorem State.withPocket_port {s : State} (i : Byte) {act : Fin 24 → Reply}
    (ha : ∀ p, (act p).state.port = s.port) : (s.withPocket i act).state.port = s.port := by
  unfold State.withPocket
  split
  · exact ha _
  · rfl

theorem Reply.ite_port {s : State} {c : Prop} [Decidable c] {x y : Reply} (hx : x.state.port = s.port)
    (hy : y.state.port = s.port) : (if c then x else y).state.port = s.port := by
  split
  · exact hx
  · exact hy

theorem State.voidPocket_port (s : State) (p : Fin 24) : (s.voidPocket p).state.port = s.port := by
  unfold State.voidPocket
  split
  next => rfl
  next => rfl
  next => split <;> rfl

theorem State.reroutePocket_port (s : State) (cls : Byte) (p : Fin 24) :
    (s.reroutePocket cls p).state.port = s.port := by
  unfold State.reroutePocket
  split
  next =>
    split
    next => split <;> rfl
    next => rfl
  next => rfl

theorem State.softReset_port (s : State) : s.softReset.port = s.port := by
  simp [State.port, State.softReset]

theorem replyStart_port (sensed : Bool) (s : State) : (replyStart sensed s).state.port = s.port := by
  unfold replyStart
  split
  · rw [State.done_state, State.beginDwell_port]
  · rfl

theorem replyLotOpen_port (s : State) : (replyLotOpen s).state.port = s.port := by
  unfold replyLotOpen
  refine Reply.ite_port rfl (Reply.ite_port rfl (Reply.ite_port rfl ?_))
  split
  · rfl
  · simp [State.port]

/-- Whatever command its block is handed, the link and the lines stay as they are. -/
theorem replyOf_port (i : Instr) (s : State) : (replyOf i s).state.port = s.port := by
  cases i with
  | setDial minDwell moveTimeout startEnable => exact Reply.ite_port (s.onDial_port _) rfl
  | setFeed window => exact Reply.ite_port (s.onFeed_port _) rfl
  | start sensed => exact replyStart_port sensed s
  | stop => exact s.stopDial_port
  | release => exact State.heldTest_port _
  | lotOpen => exact replyLotOpen_port s
  | lotClose => exact Reply.ite_port s.drain_port rfl
  | lotAbort => exact replyLotAbort_port s
  | setMeasure mode aperture agreeLimit =>
    show (replySetMeasure mode aperture agreeLimit s).state.port = s.port
    unfold replySetMeasure
    split <;> rfl
  | setRetest doubtMask retestLimit slot1 slot2 lapLimit =>
    show (replySetRetest doubtMask retestLimit slot1 slot2 lapLimit s).state.port = s.port
    unfold replySetRetest
    split <;> rfl
  | setClass index lo hi guardBand primary overflow catchAll =>
    show (replySetClass index lo hi guardBand primary overflow catchAll s).state.port = s.port
    unfold replySetClass
    split <;> rfl
  | readRecipe bank =>
    show (replyReadRecipe bank s).state.port = s.port
    unfold replyReadRecipe
    split <;> rfl
  | setHead head => exact State.withHead_port head fun _ => Reply.ite_port rfl rfl
  | setHeadCal head =>
    refine State.withHead_port head fun _ => Reply.ite_port ?_ rfl
    split <;> rfl
  | headEnable head => exact State.withHead_port head fun _ => Reply.ite_port rfl rfl
  | headDisable head => exact State.withHead_port head s.disableHead_port
  | readHead head => exact State.withHead_port head fun _ => rfl
  | readHeadStats head => exact State.withHead_port head fun _ => rfl
  | forceDoubt head => exact State.withHead_port head fun _ => rfl
  | setBin bin => exact State.withBin_port bin fun g => by simp [State.port, State.doneClamped]
  | stall bin => exact State.withBin_port bin fun _ => rfl
  | unstall bin => exact State.withBin_port bin fun _ => rfl
  | readBin index =>
    show (replyReadBin index s).state.port = s.port
    unfold replyReadBin
    split
    next c _ => cases c <;> rfl
    next => rfl
  | readPocket pocket => exact State.withPocket_port pocket fun _ => rfl
  | voidPocket pocket => exact State.withPocket_port pocket s.voidPocket_port
  | reroutePocket pocket cls => exact State.withPocket_port pocket (s.reroutePocket_port cls)
  | forceClass cls =>
    show (replyForceClass cls s).state.port = s.port
    unfold replyForceClass
    split <;> rfl
  | requestCheck => exact Reply.ite_port rfl rfl
  | ackFaults flags =>
    refine (State.reportSevere_port _ _).trans ?_
    split <;> rfl
  | readCapture which =>
    show (replyReadCapture which s).state.port = s.port
    unfold replyReadCapture
    split <;> rfl
  | ackCapture which =>
    show (replyAckCapture which s).state.port = s.port
    unfold replyAckCapture
    split <;> rfl
  | resetSort => exact Reply.ite_port s.softReset_port rfl
  | _ => rfl

theorem replyOf_link (i : Instr) (s : State) : (replyOf i s).state.link = s.link :=
  congrArg Prod.fst (replyOf_port i s)

theorem replyOf_lines (i : Instr) (s : State) : (replyOf i s).state.lines = s.lines :=
  congrArg Prod.snd (replyOf_port i s)

end Sys2Proof.Machine
end

section
/-! SUPPORT. The transactions of the command link, by the state in which they are taken, and the command rows that the part
takes or loses (R174 to R178; log entries 6, 7 and 12). -/

namespace Sys2Proof.Machine

/-! ### What is shifted out (R175, R178) -/

/-- A link-state byte alone is followed by bytes of 0. -/
theorem padTake_singleton (n : Nat) (b : Byte) :
    padTake n [b] = if n = 0 then [] else b :: List.replicate (n - 1) 0#8 := by
  cases n with
  | zero => rfl
  | succ n => simp [padTake]

/-- The link at the end of a transaction that shifts out a link-state byte alone. -/
def Link.ended (l : Link) (phase : LinkPhase) (n : Nat) : Link :=
  { l with transaction := .idle, shiftedOut := padTake n [phase.byte] }

theorem Link.ended_eq (l : Link) (phase : LinkPhase) (n : Nat) :
    l.ended phase n =
      { l with
        transaction := .idle
        shiftedOut := if n = 0 then [] else phase.byte :: List.replicate (n - 1) 0#8 } := by
  rw [Link.ended, padTake_singleton]

/-! ### The tests of a written frame (R176) -/

theorem testFrame_badLength {code len : Byte} {payload : List Byte}
    (h : 40 < len.toNat ∨ payload.length ≠ len.toNat) :
    testFrame (code :: len :: payload) = .error .badLength :=
  if_pos (by simpa [Config.maxCommandPayload] using h)

theorem testFrame_unknown {code len : Byte} {payload : List Byte} (hmax : len.toNat ≤ 40)
    (hlen : payload.length = len.toNat) (hcode : requestLength code = none) :
    testFrame (code :: len :: payload) = .error .unknownCommand := by
  simp [testFrame, Config.maxCommandPayload, hlen, hmax, hcode]

theorem testFrame_otherLength {code len : Byte} {payload : List Byte} {n : Nat}
    (hlen : payload.length = len.toNat) (hcode : requestLength code = some n) (hne : len.toNat ≠ n) :
    testFrame (code :: len :: payload) = .error .badLength := by
  simp [testFrame, Config.maxCommandPayload, hlen, hcode, hne]

/-- Code, length byte and payload are a frame's bytes when the length byte counts the payload. -/
theorem cons_cons_eq_bytes {code len : Byte} {payload : List Byte} (hlen : payload.length = len.toNat) :
    code :: len :: payload = Frame.bytes ⟨code, payload⟩ := by
  simp [Frame.bytes, hlen]

/-! ### The end of a transaction -/

/-- While RESET_N is asserted, and in a transaction that was not taken, nothing is shifted in or out (R174). -/
theorem State.endTransaction_untaken {s : State} (h : s.lines.inReset = true ∨ s.link.transaction = .notTaken)
    (sdi : List Byte) : s.endTransaction sdi = s.endUntaken := by
  unfold State.endTransaction
  split
  next => rfl
  next hr =>
    rw [h.resolve_left hr]

/-- A transaction ends in the link state it was taken in; one with CS_N high before it is taken as the link stands
(R175; log entry 6). -/
theorem State.endTransaction_taken {s : State} {phase : LinkPhase} (hr : s.lines.inReset = false)
    (h : s.link.transaction = .taken phase ∨ s.link.transaction = .idle ∧ s.link.state.phase = phase)
    (sdi : List Byte) : s.endTransaction sdi = s.finishTransaction phase sdi := by
  rcases h with h | ⟨h, rfl⟩ <;> simp [State.endTransaction, hr, h]

/-- A write is taken in READY (R175, R176). -/
theorem State.endTransaction_ready {s : State} (hr : s.lines.inReset = false) (hs : s.link.state = .ready)
    (ht : s.link.transaction = .taken .ready ∨ s.link.transaction = .idle) (sdi : List Byte) :
    s.endTransaction sdi = State.endWrite { s with link := s.link.ended .ready sdi.length } sdi := by
  rw [State.endTransaction_taken hr (ht.imp_right fun h => ⟨h, by rw [hs]; rfl⟩)]
  simp only [State.finishTransaction, hs]
  rfl

/-- What is shifted in during a transaction taken in BUSY is discarded (R177). -/
theorem State.endTransaction_busy {s : State} (hr : s.lines.inReset = false)
    (ht : s.link.transaction = .taken .busy ∨ s.link.transaction = .idle ∧ s.link.state.phase = .busy)
    (sdi : List Byte) : s.endTransaction sdi = { s with link := s.link.ended .busy sdi.length } :=
  State.endTransaction_taken hr ht sdi

/-- A whole read empties the response slot (R178). -/
theorem State.finishTransaction_response {s : State} {r : Response} (hs : s.link.state = .response r)
    (sdi : List Byte) :
    s.finishTransaction .response sdi =
      { s with link :=
        { s.link with
          state := if 3 + r.payload.length ≤ sdi.length then .ready else .response r
          transaction := .idle
          shiftedOut := padTake sdi.length (0xA2#8 :: r.bytes) } } := by
  simp only [State.finishTransaction, State.bytesOut, State.endRead, State.onLink, hs]
  split
  · rfl
  · rfl

/-! ### The end of a write (R176) -/

theorem State.endWrite_poll {s : State} {sdi : List Byte} (h : sdi.length < 2) : s.endWrite sdi = s :=
  if_pos h

theorem State.endWrite_error {s : State} {code len : Byte} {payload : List Byte} {status : Status}
    (h : testFrame (code :: len :: payload) = .error status) :
    s.endWrite (code :: len :: payload) = s.answer status [] := by
  simp [State.endWrite, h]

theorem State.endWrite_frame {s : State} {f : Frame} (h : testFrame f.bytes = .ok f) :
    s.endWrite f.bytes = s.takeWritten f := by
  have hlen : ¬f.bytes.length < 2 := by simp [Frame.bytes]
  simp [State.endWrite, hlen, h]

/-! ### The command rows (log entry 7) -/

/-- The state after the write that carries a row's frame, field by field. -/
theorem State.writeWhole_eq (s : State) (f : Frame) :
    s.writeWhole f =
      { s with link :=
        { s.link with
          transaction := .idle
          shiftedOut := 0xA0#8 :: List.replicate (f.payload.length + 1) 0#8
          writes := s.link.writes + 1 } } := by
  simp [State.writeWhole, State.onLink, padTake_singleton, Frame.bytes, LinkPhase.byte]

/-- In READY the part takes any command row, with CS_N high or in a write. -/
theorem State.hands_writeWhole {s : State} {i : Instr} {f : Frame} (hf : frameOf i = some f)
    (hr : s.lines.inReset = false) (hs : s.link.state = .ready)
    (ht : s.link.transaction = .idle ∨ s.link.transaction = .taken .ready) : s.Hands i (s.writeWhole f) :=
  ⟨hr, f, hf, State.takeFrame_some.mpr ⟨hs, ht, rfl⟩⟩

/-- Writing a frame in READY hands its block the same state as the row it reads as, and BUSY keeps the answer. -/
theorem State.endTransaction_frame {s : State} {i : Instr} {f : Frame}
    (hd : decodeFrame (Config.pocketSenseAtWrite s.link.writes) f = some i) (hr : s.lines.inReset = false)
    (hs : s.link.state = .ready) (ht : s.link.transaction = .idle ∨ s.link.transaction = .taken .ready) :
    s.endTransaction f.bytes = (replyOf i (s.writeWhole f)).busyWith f := by
  rw [State.endTransaction_ready hr hs ht.symm,
    State.endWrite_frame (testFrame_of_frameOf (frameOf_of_decodeFrame hd))]
  exact State.takeWritten_eq hd

/-- BUSY after a write is the answered state but for the link, which no block changes. -/
theorem busyWith_writeWhole (i : Instr) (s : State) (f : Frame) :
    (replyOf i (s.writeWhole f)).busyWith f =
      { (replyOf i (s.writeWhole f)).answered with
        link :=
          { s.link.ended .ready f.bytes.length with
            state := .busy f ⟨(replyOf i (s.writeWhole f)).status, (replyOf i (s.writeWhole f)).payload⟩
            writes := s.link.writes + 1 } } := by
  simp only [Reply.busyWith, State.onLink, replyOf_link]
  rfl

/-- The row of the command in the slot returns the answer that its block gave at the handing. -/
theorem exec_busyWith {i : Instr} {f : Frame} (hf : frameOf i = some f) {r : Reply}
    (hr : r.state.lines.inReset = false) : exec i (r.busyWith f) = .next r.answered := by
  rw [exec_command hf, State.command_busy (s := r.busyWith f) _ hr hf rfl]
  rfl

/-- Settles O52: the row by the state of the link, and the row and the write as the same act of the block. -/
theorem commandsAreTakenOrLost : Obligations.CommandsAreTakenOrLost := by
  refine ⟨fun i f s hf hr => ⟨fun r hs => ?_, fun hs ht => ?_, fun h => ?_⟩, fun i f s hf hsense hr hs ht => ?_⟩
  · rw [exec_command hf, State.command_busy _ hr hf hs]
    rfl
  · rw [← State.writeWhole_eq]
    exact State.hands_writeWhole hf hr hs ht
  · rw [exec_command hf]
    refine State.command_lost _ hf (fun r hr => ?_) (Option.eq_none_iff_forall_ne_some.mpr fun u hu => ?_)
    · rcases h with ⟨r', h⟩ | ⟨f', r', hne, h⟩ | ⟨h, -⟩
      · cases h.symm.trans hr
      · exact hne (LinkState.busy.inj (h.symm.trans hr)).1
      · cases h.symm.trans hr
    · obtain ⟨hs, ht, -⟩ := State.takeFrame_some.mp hu
      rw [hs] at h
      rcases h with ⟨r', h⟩ | ⟨f', r', -, h⟩ | ⟨-, h⟩
      · cases h
      · cases h
      · rcases ht with ht | ht <;> simp [ht] at h
  · have hlines : (replyOf i (s.writeWhole f)).state.lines.inReset = false := by
      rw [replyOf_lines]
      exact hr
    exact ⟨_, _, _, (State.hands_writeWhole hf hr hs ht).exec_eq, rfl, rfl,
      congrArg Host.Outcome.next (State.endTransaction_frame (decodeFrame_of_frameOf hf hsense) hr hs ht),
      exec_busyWith hf hlines⟩

/-! ### The transaction rows -/

/-- The fall of CS_N takes the link state and shifts out its byte (R175). -/
theorem State.beginTransaction_taken {s : State} (hr : s.lines.inReset = false) (ht : s.link.transaction = .idle) :
    s.beginTransaction =
      { s with link :=
        { s.link with
          transaction := .taken s.link.state.phase, shiftedOut := [s.link.state.phase.byte] } } := by
  simp [State.beginTransaction, State.onLink, hr, ht]

theorem State.beginTransaction_inReset {s : State} (hr : s.lines.inReset = true)
    (ht : s.link.transaction = .idle) :
    s.beginTransaction = { s with link := { s.link with transaction := .notTaken, shiftedOut := [] } } := by
  simp [State.beginTransaction, State.onLink, hr, ht]

theorem State.beginTransaction_standing {s : State} (ht : s.link.transaction ≠ .idle) :
    s.beginTransaction = s := by
  unfold State.beginTransaction
  split
  next hi => exact absurd hi ht
  next => rfl

/-- A write whose frame fails a test is answered at its end (R176). -/
theorem State.endTransaction_error {s : State} (hr : s.lines.inReset = false) (hs : s.link.state = .ready)
    (ht : s.link.transaction = .taken .ready ∨ s.link.transaction = .idle) {code len : Byte}
    {payload : List Byte} {status : Status} (h : testFrame (code :: len :: payload) = .error status) :
    s.endTransaction (code :: len :: payload) =
      { s with link :=
        { s.link.ended .ready (code :: len :: payload).length with state := .response ⟨status, []⟩ } } := by
  rw [State.endTransaction_ready hr hs ht, State.endWrite_error h]
  rfl

/-- Settles O51: the fall and the rise of CS_N by the state the transaction is taken in, and a write by the tests of
its frame. -/
theorem linkTransactions : Obligations.LinkTransactions := by
  refine ⟨fun s => ⟨fun hr ht => congrArg Host.Outcome.next ?fall,
      fun hr ht => congrArg Host.Outcome.next (State.beginTransaction_inReset hr ht),
      fun ht => congrArg Host.Outcome.next (State.beginTransaction_standing ht)⟩,
    fun _ _ => ⟨rfl, rfl, rfl⟩,
    fun s b h => congrArg Host.Outcome.next (State.endTransaction_untaken h b),
    fun s b hr hs ht => ⟨s.link.ended .ready b.length, s.link.ended_eq .ready b.length,
      fun hlen => congrArg Host.Outcome.next ?poll, ?write⟩,
    fun s b hr => ⟨s.link.ended .busy b.length, s.link.ended_eq .busy b.length,
      fun f r hs ht => congrArg Host.Outcome.next ?discard,
      fun r _ ht => congrArg Host.Outcome.next (State.endTransaction_busy hr (.inl ht) b)⟩,
    fun s b r hr hs ht => congrArg Host.Outcome.next ?read⟩
  case fall =>
    rw [State.beginTransaction_taken hr ht]
    cases s.link.state <;> rfl
  case poll => rw [State.endTransaction_ready hr hs ht, State.endWrite_poll hlen]
  case write =>
    rintro code len payload rfl
    refine ⟨fun h => congrArg Host.Outcome.next (State.endTransaction_error hr hs ht (testFrame_badLength h)),
      fun hmax hlen hcode =>
        congrArg Host.Outcome.next (State.endTransaction_error hr hs ht (testFrame_unknown hmax hlen hcode)),
      fun n _ hlen hcode hne =>
        congrArg Host.Outcome.next (State.endTransaction_error hr hs ht (testFrame_otherLength hlen hcode hne)),
      fun hlen hcode => ?_⟩
    obtain ⟨j, hj⟩ := exists_spellsRow (f := ⟨code, payload⟩) (hlen ▸ hcode)
    have hd := hj.read (Config.pocketSenseAtWrite s.link.writes)
    have hands := State.hands_writeWhole (frameOf_of_decodeFrame hd) hr hs ht.symm
    rw [cons_cons_eq_bytes hlen]
    exact ⟨_, _, _, hd, hands.exec_eq, rfl, congrArg Host.Outcome.next
      ((State.endTransaction_frame hd hr hs ht.symm).trans (busyWith_writeWhole _ s _))⟩
  case discard => exact State.endTransaction_busy hr (ht.imp_right fun h => ⟨h, by rw [hs]; rfl⟩) b
  case read =>
    rw [State.endTransaction_taken hr (ht.imp_right fun h => ⟨h, by rw [hs]; rfl⟩),
      State.finishTransaction_response hs]
    rfl

end Sys2Proof.Machine
end

section
/-! SUPPORT. The queue, which no operation of the part writes: what each operation leaves waiting, in the order of the
model, and then what every command and every row leaves (spec 00_scope; log entry 10). -/

namespace Sys2Proof.Machine

/-! ### One step -/

theorem step_of_pending_nil {s : State} (h : s.pending = []) : step s = .next s := by
  simp [step, h]

theorem step_of_pending_cons {s : State} {c : Instr} {rest : List Instr} (h : s.pending = c :: rest) :
    step s = exec c { s with pending := rest } := by
  simp [step, h]

/-- Settles O1: the two cases of the queue that a step distinguishes. -/
theorem stepRunsTheFrontCommand : Obligations.StepRunsTheFrontCommand :=
  ⟨fun _ _ _ => step_of_pending_cons rfl, fun _ => step_of_pending_nil rfl⟩

/-! ### The records and the check unit (R8, R105, R140 to R148) -/

@[simp] theorem State.headLeft_pending (s : State) : s.headLeft.pending = s.pending := by
  simp [State.headLeft]

@[simp] theorem State.recall_pending (s : State) (failed : Head) (epoch : BitVec 16) :
    (s.recall failed epoch).pending = s.pending := by simp [State.recall]

@[simp] theorem State.applyRecall_pending (s : State) (p : Fin 24) (r : LiveRecord) (h : Head) :
    (s.applyRecall p r h).pending = s.pending := by simp [State.applyRecall]

@[simp] theorem State.giveUpRecords_pending (s : State) : s.giveUpRecords.pending = s.pending := by
  simp [State.giveUpRecords]

@[simp] theorem State.checkDecision_pending (s : State) (x : Reading) :
    (s.checkDecision x).pending = s.pending := by
  dsimp only [State.checkDecision]
  split
  next => split <;> simp [State.checkFail]
  next => rfl

/-! ### A reading and the record it is for (R24, R25, R81 to R92) -/

@[simp] theorem State.raiseSubstituted_pending (s : State) (h : Option Head) :
    (s.raiseSubstituted h).pending = s.pending := by
  cases h <;> rfl

@[simp] theorem State.completeAttempt_pending (s : State) (p : Fin 24) (r : LiveRecord) (x : Reading)
    (attempt : Attempt) (verdict : Option Grading) :
    (s.completeAttempt p r x attempt verdict).pending = s.pending := by
  dsimp only [State.completeAttempt]
  rw [State.raiseSubstituted_pending]
  split <;> split <;> simp

@[simp] theorem State.judgePart_pending (s : State) (p : Fin 24) (r : LiveRecord) (openPair : Bool)
    (x : Reading) : (s.judgePart p r openPair x).pending = s.pending := by
  unfold State.judgePart
  split <;> simp

@[simp] theorem State.judgeCheck_pending (s : State) (p : Fin 24) (r : LiveRecord) (x : Reading) :
    (s.judgeCheck p r x).pending = s.pending := by
  dsimp only [State.judgeCheck]
  split <;> simp

@[simp] theorem State.keepReading_pending (s : State) (p : Fin 24) (r : LiveRecord) (openPair : Bool)
    (h : Head) (range : Fin 7) (raw : Option (BitVec 24 × Byte)) :
    (s.keepReading p r openPair h range raw).pending = s.pending := by
  dsimp only [State.keepReading]
  split <;> simp

@[simp] theorem State.handReading_pending (s : State) (h : Head) (p : Fin 24) (range : Fin 7)
    (raw : Option (BitVec 24 × Byte)) : (s.handReading h p range raw).pending = s.pending := by
  unfold State.handReading
  split
  next =>
    split
    next =>
      split
      · split
        · rfl
        · split <;> simp
      · rfl
    next => rfl
  next => rfl

@[simp] theorem State.abandonRecord_pending (s : State) (h : Head) (p : Fin 24) (disabled : Bool) :
    (s.abandonRecord h p disabled).pending = s.pending := by
  unfold State.abandonRecord
  split
  next =>
    split
    next =>
      split
      · split
        · rfl
        · split
          · simp
          · split <;> rfl
      · rfl
    next => rfl
  next => rfl

/-! ### The heads (R45 to R59) -/

@[simp] theorem State.raiseLost_pending (s : State) (h : Head) : (s.raiseLost h).pending = s.pending := rfl

@[simp] theorem State.completeResult_pending (s : State) (h : Head) (p : Fin 24) (range : Fin 7)
    (raw : BitVec 24 × Byte) : (s.completeResult h p range raw).pending = s.pending := by
  simp [State.completeResult]

@[simp] theorem State.completeNoReply_pending (s : State) (h : Head) (p : Fin 24) (range : Fin 7) :
    (s.completeNoReply h p range).pending = s.pending := by
  dsimp only [State.completeNoReply]
  split <;> simp

@[simp] theorem State.completeProbe_pending (s : State) (h : Head) (maxRange : Byte) :
    (s.completeProbe h maxRange).pending = s.pending := rfl

@[simp] theorem State.takeHeadFrame_pending (s : State) (h : Head) (f : HeadFrame) :
    (s.takeHeadFrame h f).pending = s.pending := by
  unfold State.takeHeadFrame
  split
  next => split <;> simp
  next => split <;> simp
  next => rfl

@[simp] theorem State.receiveByte_pending (s : State) (h : Head) (b : Byte) :
    (s.receiveByte h b).pending = s.pending := by
  unfold State.receiveByte
  split
  next => split <;> rfl
  next => split <;> simp
  next => rfl

@[simp] theorem State.receiveFrame_pending (s : State) (h : Head) (f : HeadFrame) :
    (s.receiveFrame h f).pending = s.pending := by
  unfold State.receiveFrame
  split
  next => simp
  next => split <;> simp
  next => rfl

@[simp] theorem State.arriveHead_pending (s : State) (h : Head) : (s.arriveHead h).pending = s.pending := by
  dsimp only [State.arriveHead]
  split
  next =>
    split
    next =>
      split
      · split
        · rfl
        · rfl
        · split <;> rfl
      · rfl
    next => rfl
  next => rfl

@[simp] theorem State.abandonMeasurement_pending (s : State) (h : Head) (next : HeadState) (disabled : Bool) :
    (s.abandonMeasurement h next disabled).pending = s.pending := by
  dsimp only [State.abandonMeasurement]
  split <;> split <;> simp

@[simp] theorem State.abandonAt_pending (s : State) (h : Head) : (s.abandonAt h).pending = s.pending := by
  unfold State.abandonAt
  split <;> simp

@[simp] theorem State.abandonAll_pending (s : State) : s.abandonAll.pending = s.pending := by
  simp [State.abandonAll]

@[simp] theorem State.responseTimeout_pending (s : State) (h : Head) :
    (s.responseTimeout h).pending = s.pending := by
  unfold State.responseTimeout
  split
  · split <;> simp
  · rfl

@[simp] theorem State.disableHead_pending (s : State) (h : Head) : (s.disableHead h).pending = s.pending := by
  unfold State.disableHead
  split <;> simp

/-! ### The feed (R27 to R30) -/

@[simp] theorem State.arriveLoad_pending (s : State) : s.arriveLoad.pending = s.pending := by
  dsimp only [State.arriveLoad]
  split
  next => split <;> rfl
  next => rfl
  next => split <;> rfl

@[simp] theorem State.reportLoad_pending (s : State) (f : Feed) : (s.reportLoad f).pending = s.pending := by
  unfold State.reportLoad
  split <;> split <;> rfl

@[simp] theorem State.countLoad_pending (s : State) (f : Feed) : (s.countLoad f).pending = s.pending := by
  unfold State.countLoad
  split <;> rfl

@[simp] theorem State.load_pending (s : State) (f : Feed) : (s.load f).pending = s.pending := by
  simp [State.load]

@[simp] theorem State.endFeed_pending (s : State) : s.endFeed.pending = s.pending := rfl

@[simp] theorem State.loadSense_pending (s : State) : s.loadSense.pending = s.pending := by
  dsimp only [State.loadSense]
  split
  next =>
    split
    · split <;> simp
    · rfl
  next => rfl

@[simp] theorem State.countFeedMiss_pending (s : State) : s.countFeedMiss.pending = s.pending := by
  unfold State.countFeedMiss
  split <;> rfl

@[simp] theorem State.countCheckFeedMiss_pending (s : State) : s.countCheckFeedMiss.pending = s.pending := by
  unfold State.countCheckFeedMiss
  split <;> rfl

@[simp] theorem State.feedMiss_pending (s : State) : s.feedMiss.pending = s.pending := by
  unfold State.feedMiss
  split
  next =>
    split
    · split <;> simp
    · rfl
  next => rfl

/-! ### The gates and the bins (R111, R118 to R127) -/

@[simp] theorem State.fireEjector_pending (s : State) (c : Chute) (p : Fin 24) (sweep : Bool) :
    (s.fireEjector c p sweep).pending = s.pending := rfl

@[simp] theorem State.arriveGate_pending (s : State) (g : Fin 12) : (s.arriveGate g).pending = s.pending := by
  dsimp only [State.arriveGate]
  split
  next =>
    split
    next =>
      split
      · split <;> rfl
      · rfl
    next => rfl
  next => rfl

@[simp] theorem State.arriveCheckReturn_pending (s : State) : s.arriveCheckReturn.pending = s.pending := by
  dsimp only [State.arriveCheckReturn]
  split
  next => split <;> simp [State.passUnsorted]
  next => rfl

@[simp] theorem State.arrivePurge_pending (s : State) : s.arrivePurge.pending = s.pending := by
  dsimp only [State.arrivePurge]
  split
  next => rfl
  next => rfl
  next => split <;> rfl

@[simp] theorem State.confirmGate_pending (s : State) (g : Fin 12) (p : Fin 24) :
    (s.confirmGate g p).pending = s.pending := by
  dsimp only [State.confirmGate]
  split
  next => split <;> simp [State.binPart, State.fillBin, State.spillPart]
  next => rfl

@[simp] theorem State.countReturn_pending (s : State) (r : LiveRecord) : (s.countReturn r).pending = s.pending := by
  unfold State.countReturn
  split <;> rfl

@[simp] theorem State.confirmReturn_pending (s : State) (p : Fin 24) :
    (s.confirmReturn p).pending = s.pending := by
  unfold State.confirmReturn
  split <;> simp

@[simp] theorem State.countPurge_pending (s : State) (r : LiveRecord) : (s.countPurge r).pending = s.pending := by
  unfold State.countPurge
  split <;> simp

@[simp] theorem State.confirmPurge_pending (s : State) (p : Fin 24) (sweep : Bool) :
    (s.confirmPurge p sweep).pending = s.pending := by
  dsimp only [State.confirmPurge]
  split
  · split <;> rfl
  · split <;> simp

@[simp] theorem State.confirm_pending (s : State) (c : Chute) (p : Fin 24) (sweep : Bool) :
    (s.confirm c p sweep).pending = s.pending := by
  cases c <;> simp [State.confirm]

@[simp] theorem State.countGateMiss_pending (s : State) (g : Fin 12) : (s.countGateMiss g).pending = s.pending := by
  dsimp only [State.countGateMiss]
  split <;> rfl

@[simp] theorem State.countPurgeMiss_pending (s : State) : s.countPurgeMiss.pending = s.pending := by
  dsimp only [State.countPurgeMiss]
  split <;> rfl

@[simp] theorem State.missGate_pending (s : State) (g : Fin 12) (p : Fin 24) :
    (s.missGate g p).pending = s.pending := by
  unfold State.missGate
  split <;> simp

@[simp] theorem State.missReturn_pending (s : State) (p : Fin 24) : (s.missReturn p).pending = s.pending := by
  unfold State.missReturn
  split <;> rfl

@[simp] theorem State.missPurge_pending (s : State) (p : Fin 24) (sweep : Bool) :
    (s.missPurge p sweep).pending = s.pending := by
  unfold State.missPurge
  split
  · rfl
  · split
    · split <;> simp
    · simp

@[simp] theorem State.miss_pending (s : State) (c : Chute) (p : Fin 24) (sweep : Bool) :
    (s.miss c p sweep).pending = s.pending := by
  cases c <;> simp [State.miss]

@[simp] theorem State.chutePulse_pending (s : State) (c : Chute) : (s.chutePulse c).pending = s.pending := by
  unfold State.chutePulse
  split <;> simp

@[simp] theorem State.windowExpiry_pending (s : State) (c : Chute) : (s.windowExpiry c).pending = s.pending := by
  dsimp only [State.windowExpiry]
  split <;> simp

@[simp] theorem State.clearBin_pending (s : State) (c : Chute) : (s.clearBin c).pending = s.pending := by
  cases c <;> rfl

/-! ### The dial (R2, R6 to R13, R33) -/

@[simp] theorem State.strayPart_pending (s : State) (p : Fin 24) : (s.strayPart p).pending = s.pending := rfl

@[simp] theorem State.lostPart_pending (s : State) (p : Fin 24) (r : LiveRecord) :
    (s.lostPart p r).pending = s.pending := by simp [State.lostPart]

@[simp] theorem State.arriveEmptyCheck_pending (s : State) (sensed : Bool) :
    (s.arriveEmptyCheck sensed).pending = s.pending := by
  dsimp only [State.arriveEmptyCheck]
  split
  case h_6 => split <;> simp
  all_goals simp

/-- An arrival is delivered to a station that is not busy, and to no other (R2). -/
theorem State.deliver_pending {arrive : State → State} (ha : ∀ s, (arrive s).pending = s.pending) (s : State)
    (st : Station) : (s.deliver st arrive).pending = s.pending := by
  unfold State.deliver
  split
  · rfl
  · exact ha s

@[simp] theorem State.arriveGates_pending (s : State) : s.arriveGates.pending = s.pending := by
  unfold State.arriveGates
  induction List.finRange 12 generalizing s with
  | nil => rfl
  | cons g gs ih => exact (ih _).trans (State.deliver_pending (fun s => s.arriveGate_pending g) s _)

@[simp] theorem State.beginDwell_pending (s : State) (sensed : Bool) :
    (s.beginDwell sensed).pending = s.pending := by
  dsimp only [State.beginDwell, State.arrivals]
  rw [State.arriveEmptyCheck_pending, State.deliver_pending State.arrivePurge_pending,
    State.deliver_pending State.arriveCheckReturn_pending, State.arriveGates_pending,
    State.deliver_pending fun s => s.arriveHead_pending .b, State.deliver_pending fun s => s.arriveHead_pending .a,
    State.deliver_pending State.arriveLoad_pending]
  rfl

@[simp] theorem State.honourIndex_pending (s : State) (sensed : Bool) :
    (s.honourIndex sensed).pending = s.pending := by simp [State.honourIndex, State.advance]

@[simp] theorem State.spuriousIndex_pending (s : State) : s.spuriousIndex.pending = s.pending := by
  simp [State.spuriousIndex, State.advance]

@[simp] theorem State.emergencyStop_pending (s : State) : s.emergencyStop.pending = s.pending := by
  dsimp only [State.emergencyStop]
  split <;> simp [State.releaseOutputs]

@[simp] theorem State.stopDial_pending (s : State) : s.stopDial.pending = s.pending := by
  unfold State.stopDial
  split <;> simp

/-! ### The lot and the soft reset (R158, R159, R173) -/

@[simp] theorem State.openLot_pending (s : State) : s.openLot.pending = s.pending := by simp [State.openLot]

@[simp] theorem State.drain_pending (s : State) : s.drain.pending = s.pending := by simp [State.drain]

@[simp] theorem State.softReset_pending (s : State) : s.softReset.pending = s.pending := by
  simp [State.softReset]

/-! ### What a block returns (R176) -/

/-- The block leaves the queue of the state it was handed. -/
def Reply.KeepsQueue (r : Reply) (s : State) : Prop := r.state.pending = s.pending

namespace Reply.KeepsQueue

variable {s : State}

theorem done {t : State} (h : t.pending = s.pending) : t.done.KeepsQueue s := h

theorem doneClamped {t : State} (h : t.pending = s.pending) (clamped : Bool) :
    (t.doneClamped clamped).KeepsQueue s := h

theorem report {t : State} (h : t.pending = s.pending) (payload : List Byte) :
    (t.report payload).KeepsQueue s := h

theorem refuse (s : State) (status : Status) : (s.refuse status).KeepsQueue s := rfl

theorem ite {c : Prop} [Decidable c] {x y : Reply} (hx : x.KeepsQueue s) (hy : y.KeepsQueue s) :
    (if c then x else y).KeepsQueue s := by
  split
  · exact hx
  · exact hy

theorem withHead (i : Byte) {act : Head → Reply} (h : ∀ k, (act k).KeepsQueue s) :
    (s.withHead i act).KeepsQueue s := by
  unfold State.withHead
  split
  · exact h _
  · exact refuse s _

theorem withBin (i : Byte) {act : Fin 12 → Reply} (h : ∀ g, (act g).KeepsQueue s) :
    (s.withBin i act).KeepsQueue s := by
  unfold State.withBin
  split
  · exact h _
  · exact refuse s _

theorem withPocket (i : Byte) {act : Fin 24 → Reply} (h : ∀ p, (act p).KeepsQueue s) :
    (s.withPocket i act).KeepsQueue s := by
  unfold State.withPocket
  split
  · exact h _
  · exact refuse s _

theorem setHeadCal (head range : Byte) (offset gain : BitVec 16) (s : State) :
    (replySetHeadCal head range offset gain s).KeepsQueue s := by
  refine withHead head fun _ => ite ?_ (refuse s _)
  split
  · exact refuse s _
  · exact doneClamped rfl _

theorem readBin (index : Byte) (s : State) : (replyReadBin index s).KeepsQueue s := by
  unfold replyReadBin
  split
  · exact report (s.clearBin_pending _) _
  · exact refuse s _

theorem voidPocket (s : State) (p : Fin 24) : (s.voidPocket p).KeepsQueue s := by
  unfold State.voidPocket
  split
  · exact refuse s _
  · exact done rfl
  · split <;> rfl

theorem reroutePocket (s : State) (cls : Byte) (p : Fin 24) : (s.reroutePocket cls p).KeepsQueue s := by
  unfold State.reroutePocket
  split
  next =>
    split
    next => split <;> rfl
    next => exact refuse s _
  next => exact refuse s _

theorem forceClass (cls : Byte) (s : State) : (replyForceClass cls s).KeepsQueue s := by
  unfold replyForceClass
  split
  · exact done rfl
  · exact refuse s _

theorem ackFaults (flags : BitVec 32) (s : State) : (replyAckFaults flags s).KeepsQueue s := by
  refine done ?_
  dsimp only [State.ackFaults]
  rw [State.reportSevere_pending]
  split <;> rfl

theorem readCapture (which : Byte) (s : State) : (replyReadCapture which s).KeepsQueue s := by
  unfold replyReadCapture
  split <;> rfl

theorem ackCapture (which : Byte) (s : State) : (replyAckCapture which s).KeepsQueue s := by
  unfold replyAckCapture
  split <;> rfl

theorem setMeasure (mode aperture : Byte) (agreeLimit : BitVec 16) (s : State) :
    (replySetMeasure mode aperture agreeLimit s).KeepsQueue s := by
  unfold replySetMeasure
  split <;> rfl

theorem setRetest (doubtMask retestLimit slot1 slot2 lapLimit : Byte) (s : State) :
    (replySetRetest doubtMask retestLimit slot1 slot2 lapLimit s).KeepsQueue s := by
  unfold replySetRetest
  split <;> rfl

theorem setClass (index : Byte) (lo hi : BitVec 32) (guardBand : BitVec 16) (primary overflow catchAll : Byte)
    (s : State) : (replySetClass index lo hi guardBand primary overflow catchAll s).KeepsQueue s := by
  unfold replySetClass
  split <;> rfl

theorem readRecipe (bank : Byte) (s : State) : (replyReadRecipe bank s).KeepsQueue s := by
  unfold replyReadRecipe
  split <;> rfl

theorem lotOpen (s : State) : (replyLotOpen s).KeepsQueue s := by
  unfold replyLotOpen
  refine ite (refuse s _) (ite (refuse s _) (ite (refuse s _) ?_))
  split
  · rfl
  · exact done s.openLot_pending

theorem lotAbort (s : State) : (replyLotAbort s).KeepsQueue s :=
  ite (refuse s _) (done (by simp))

/-- Whatever command its block is handed, the queue stays as it is. -/
theorem replyOf (i : Instr) (s : State) : (replyOf i s).KeepsQueue s := by
  cases i with
  | setDial minDwell moveTimeout startEnable => exact ite (doneClamped rfl _) (refuse s _)
  | setFeed window => exact ite (doneClamped rfl _) (refuse s _)
  | start sensed => exact ite (done (s.beginDwell_pending sensed)) (refuse s _)
  | stop => exact done s.stopDial_pending
  | release => exact done (State.heldTest_pending _)
  | lotOpen => exact lotOpen s
  | lotClose => exact ite (done s.drain_pending) (refuse s _)
  | lotAbort => exact lotAbort s
  | setMeasure mode aperture agreeLimit => exact setMeasure mode aperture agreeLimit s
  | setRetest doubtMask retestLimit slot1 slot2 lapLimit =>
    exact setRetest doubtMask retestLimit slot1 slot2 lapLimit s
  | setClass index lo hi guardBand primary overflow catchAll =>
    exact setClass index lo hi guardBand primary overflow catchAll s
  | readRecipe bank => exact readRecipe bank s
  | setHead head => exact withHead head fun _ => ite (doneClamped rfl _) (refuse s _)
  | setHeadCal head range offset gain => exact setHeadCal head range offset gain s
  | headEnable head => exact withHead head fun _ => ite (done rfl) (refuse s _)
  | headDisable head => exact withHead head fun h => done (s.disableHead_pending h)
  | readHead head => exact withHead head fun _ => report rfl _
  | readHeadStats head => exact withHead head fun _ => report rfl _
  | forceDoubt head => exact withHead head fun _ => done rfl
  | setBin bin => exact withBin bin fun _ => doneClamped (by simp) _
  | stall bin => exact withBin bin fun _ => done rfl
  | unstall bin => exact withBin bin fun _ => done rfl
  | readBin index => exact readBin index s
  | readPocket pocket => exact withPocket pocket fun _ => report rfl _
  | voidPocket pocket => exact withPocket pocket (voidPocket s)
  | reroutePocket pocket cls => exact withPocket pocket (reroutePocket s cls)
  | forceClass cls => exact forceClass cls s
  | requestCheck => exact ite (done rfl) (refuse s _)
  | ackFaults flags => exact ackFaults flags s
  | readCapture which => exact readCapture which s
  | ackCapture which => exact ackCapture which s
  | resetSort => exact ite (done s.softReset_pending) (refuse s _)
  | _ => exact rfl

end Reply.KeepsQueue

/-! ### The command link (R174 to R178) -/

@[simp] theorem State.beginTransaction_pending (s : State) : s.beginTransaction.pending = s.pending := by
  unfold State.beginTransaction
  split
  · split <;> rfl
  · rfl

@[simp] theorem State.takeWritten_pending (s : State) (f : Frame) : (s.takeWritten f).pending = s.pending := by
  unfold State.takeWritten
  split
  · exact Reply.KeepsQueue.replyOf _ (s.onLink _)
  · rfl

@[simp] theorem State.endWrite_pending (s : State) (sdi : List Byte) : (s.endWrite sdi).pending = s.pending := by
  unfold State.endWrite
  split
  · rfl
  · split <;> simp

@[simp] theorem State.endRead_pending (s : State) (n : Nat) : (s.endRead n).pending = s.pending := by
  unfold State.endRead
  split
  · split <;> rfl
  · rfl

@[simp] theorem State.finishTransaction_pending (s : State) (phase : LinkPhase) (sdi : List Byte) :
    (s.finishTransaction phase sdi).pending = s.pending := by
  dsimp only [State.finishTransaction]
  split
  · split <;> simp
  · rfl
  · simp

@[simp] theorem State.endTransaction_pending (s : State) (sdi : List Byte) :
    (s.endTransaction sdi).pending = s.pending := by
  unfold State.endTransaction
  split
  · rfl
  · split
    · simp
    · rfl
    · simp

/-! ### Every row -/

/-- A row completes in `s`: it answers a next state, and the queue is that of `s`. -/
def State.Completes (s : State) (o : Host.Outcome State Fault Refusal) : Prop :=
  ∃ t, o = .next t ∧ t.pending = s.pending

namespace State.Completes

variable {s : State}

theorem next {t : State} (h : t.pending = s.pending) : s.Completes (.next t) := ⟨t, rfl, h⟩

/-- An event row acts, or nothing happens while RESET_N is asserted (R180). -/
theorem event {f : State → State} (h : (f s).pending = s.pending) : s.Completes (s.event f) := by
  unfold State.event
  split
  · exact next rfl
  · exact next h

/-- A command row is lost, returns the answer kept, or is handed to its block and answered (R174, R176). -/
theorem command (s : State) (i : Instr) : s.Completes (s.command i (replyOf i)) := by
  refine event ?_
  split
  next => rfl
  next => split <;> rfl
  next =>
    split
    next => rfl
    next f _ _ _ u hu =>
      obtain ⟨-, -, rfl⟩ := State.takeFrame_some.mp hu
      exact Reply.KeepsQueue.replyOf i (s.writeWhole f)

/-- Every row completes: a command row by what its block returns, and an event row by its own operation. -/
theorem exec (i : Instr) (s : State) : s.Completes (Machine.exec i s) := by
  cases hf : frameOf i with
  | some f => exact exec_command hf s ▸ command s i
  | none =>
    cases i with
    | powerOnReset estop cans => exact next rfl
    | resetNAsserted => exact next rfl
    | indexDone sensed =>
      show s.Completes (execIndexDone sensed s)
      refine event ?_
      split <;> simp
    | minDwellExpiry =>
      show s.Completes (execMinDwellExpiry s)
      refine event ?_
      split <;> simp
    | moveTimerExpiry =>
      show s.Completes (execMoveTimerExpiry s)
      refine event ?_
      split <;> rfl
    | estopAsserted =>
      show s.Completes (execEstopAsserted s)
      refine event ?_
      dsimp only
      split <;> simp
    | estopReleased =>
      show s.Completes (execEstopReleased s)
      refine event ?_
      rw [State.reportSevere_pending]
      split <;> rfl
    | startLineEdge sensed =>
      show s.Completes (execStartLineEdge sensed s)
      refine event ?_
      split <;> simp
    | feedPulseEnd =>
      show s.Completes (execFeedPulseEnd s)
      exact event rfl
    | loadSense =>
      show s.Completes (execLoadSense s)
      exact event (by simp)
    | feedWindowExpiry =>
      show s.Completes (execFeedWindowExpiry s)
      exact event (by simp)
    | requestSent k =>
      show s.Completes (execRequestSent k s)
      exact event rfl
    | quietTimerExpiry k =>
      show s.Completes (execQuietTimerExpiry k s)
      exact event rfl
    | result k tag code status =>
      show s.Completes (execResult k tag code status s)
      exact event (by simp)
    | identAnswer k tag maxRange =>
      show s.Completes (execIdentAnswer k tag maxRange s)
      exact event (by simp)
    | responseTimeout k =>
      show s.Completes (execResponseTimeout k s)
      exact event (by simp)
    | linkPause k =>
      show s.Completes (execLinkPause k s)
      refine event ?_
      split <;> rfl
    | framingError k =>
      show s.Completes (execFramingError k s)
      refine event ?_
      split <;> rfl
    | unknownType k b =>
      show s.Completes (execUnknownType k b s)
      exact event (by simp)
    | discardQuiet k =>
      show s.Completes (execDiscardQuiet k s)
      refine event ?_
      split <;> rfl
    | pulseTimerExpiry c =>
      show s.Completes (execPulseTimerExpiry c s)
      exact event rfl
    | chutePulse c =>
      show s.Completes (execChutePulse c s)
      exact event (by simp)
    | windowTimerExpiry c =>
      show s.Completes (execWindowTimerExpiry c s)
      exact event (by simp)
    | canRemoved g =>
      show s.Completes (execCanRemoved g s)
      exact event rfl
    | canInserted g =>
      show s.Completes (execCanInserted g s)
      exact event rfl
    | writeTransaction sdi => exact next (s.endTransaction_pending sdi)
    | poll sdi => exact next (s.endTransaction_pending sdi)
    | discard sdi => exact next (s.endTransaction_pending sdi)
    | readTransaction sdi => exact next (s.endTransaction_pending sdi)
    | transactionBegin => exact next s.beginTransaction_pending
    | byteReceived k b =>
      show s.Completes (execByteReceived k b s)
      exact event (by simp)
    | _ => cases hf

end State.Completes

/-- Settles O2: every command and every event row completes. -/
theorem everyCommandCompletes : Obligations.EveryCommandCompletes := State.Completes.exec

end Sys2Proof.Machine
end

section
/-! SUPPORT. The index controller: its two timers, the three tests made at the end of a step, the commands of the dial and
of the feed window, and the ten bytes of READ_DIAL (R4 to R7, R12 to R16, R32, R162). -/

namespace Sys2Proof.Machine

/-! ### The tests at the end of a step (R4, R5, R162) -/

/-- What the end-of-dwell test makes of a dwell that is over (R4). -/
theorem State.endDwellTest_of_over {s : State} (h : s.dwellOver = true) :
    s.endDwellTest =
      if s.dial.stopPending then
        { s with dial := { s.dial with state := .idle, dwellTimer := .stopped, stopPending := false } }
      else if s.dial.hostHold || s.anySevere then { s with dial := { s.dial with state := .held } }
      else
        { s with dial :=
          { s.dial with
            state := .moving, dwellTimer := .stopped, moveTimer := .running s.dial.moveTimeout } } := by
  unfold State.endDwellTest
  rw [if_pos h]
  rfl

theorem State.dwellOver_eq_false_iff (s : State) :
    s.dwellOver = false ↔ ¬(s.dial.state = .dwell ∧ s.dial.dwellTimer = .elapsed ∧ s.busyEmpty = true) := by
  rw [← State.dwellOver_iff, Bool.not_eq_true]

/-- Settles O7, by the equation of each of the three tests. -/
theorem endOfDwellHeldAndDrainTests : Obligations.EndOfDwellHeldAndDrainTests := by
  refine ⟨?_, ?_, ?_, ?_, ?_⟩
  · intro s hstate htimer hbusy
    exact State.endDwellTest_of_over (s.dwellOver_iff.mpr ⟨hstate, htimer, hbusy⟩)
  · intro s h
    exact State.endDwellTest_of_not_over (s.dwellOver_eq_false_iff.mpr h)
  · exact State.reportSevere_eq
  · intro s hlot hfeed hp
    rw [State.drainTest_eq, if_pos ⟨hlot, hfeed, fun p => (PocketRecord.isLive_eq_false _).mpr (hp p)⟩]
  · intro s h
    rw [State.drainTest_eq]
    simp only [PocketRecord.isLive_eq_false]
    rw [if_neg h]

/-! ### The timers of the dial (R4, R7) -/

theorem exec_minDwellExpiry {s : State} (hreset : s.lines.inReset = false) {ms : Nat}
    (ht : s.dial.dwellTimer = .running ms) :
    exec .minDwellExpiry s = .next (s.onDial fun d => { d with dwellTimer := .elapsed }).endDwellTest := by
  show execMinDwellExpiry s = _
  unfold execMinDwellExpiry
  rw [State.event_eq _ hreset, ht]

/-- Settles O6: the expiry of the minimum dwell is the end-of-dwell test with the timer elapsed. -/
theorem dialTimers : Obligations.DialTimers := by
  refine ⟨?_, ?_⟩
  · intro s ms hreset hdwell ht
    rw [exec_minDwellExpiry hreset ht]
    cases hb : s.busyEmpty
    · have hover : (s.onDial fun d => { d with dwellTimer := .elapsed }).dwellOver = false :=
        (State.dwellOver_eq_false_iff _).mpr fun ⟨_, _, he⟩ => Bool.false_ne_true (hb.symm.trans he)
      rw [State.endDwellTest_of_not_over hover]
      rfl
    · have hover : (s.onDial fun d => { d with dwellTimer := .elapsed }).dwellOver = true :=
        (State.dwellOver_iff _).mpr ⟨hdwell, rfl, hb⟩
      rw [State.endDwellTest_of_over hover]
      rfl
  · intro s hreset
    show execMoveTimerExpiry s = _
    unfold execMoveTimerExpiry
    rw [State.event_eq _ hreset]
    rfl

/-! ### START, STOP, HOLD and RELEASE (R12 to R14) -/

/-- Settles O13: START and the START edge begin the dwell of IDLE. -/
theorem startBeginsADwell : Obligations.StartBeginsADwell := by
  refine ⟨?_, ?_⟩
  · intro s u sensed hu
    rw [hu.exec_eq]
    show Host.Outcome.next (replyStart sensed u).answered = _
    unfold replyStart
    by_cases h : u.dial.state = .idle
    · rw [if_pos h, if_pos h, State.done_answered]; rfl
    · rw [if_neg h, if_neg h, State.refuse_answered]
  · intro s sensed hreset
    show execStartLineEdge sensed s = _
    unfold execStartLineEdge
    rw [State.event_eq _ hreset]
    rfl

/-- Giving up the records leaves the dial as it is (R8). -/
@[simp] theorem State.giveUpRecords_dial (s : State) : s.giveUpRecords.dial = s.dial := by
  simp [State.giveUpRecords]

theorem State.stopDial_running {s : State} (h : s.dial.state = .dwell ∨ s.dial.state = .moving) :
    s.stopDial = s.onDial fun d => { d with stopPending := true } := by
  unfold State.stopDial
  rcases h with h | h <;> simp only [h]

theorem State.stopDial_held {s : State} (h : s.dial.state = .held) : s.stopDial = s.restDial := by
  simp only [State.stopDial, h]

theorem State.stopDial_resting {s : State} (h : s.dial.state = .idle ∨ s.dial.state = .estopped) :
    s.stopDial = s := by
  unfold State.stopDial
  rcases h with h | h <;> simp only [h]

theorem State.stopDial_jammed {s : State} (h : s.dial.state = .jammed) :
    s.stopDial =
      { s.giveUpRecords with
        dial := { s.dial with state := .idle, dwellTimer := .stopped, stopPending := false } } := by
  unfold State.stopDial
  rw [h]
  simp [State.onDial, State.restDial]

/-- The test in HELD after the host hold has cleared (R5, R14). -/
theorem State.release_eq (s : State) :
    (s.onDial fun d => { d with hostHold := false }).heldTest =
      { s with dial :=
        if s.dial.state = .held ∧ s.anySevere = false then
          { s.dial with
            hostHold := false, state := .moving, dwellTimer := .stopped
            moveTimer := .running s.dial.moveTimeout }
        else { s.dial with hostHold := false } } := by
  rw [State.heldTest_eq]
  by_cases h : s.dial.state = .held ∧ s.anySevere = false
  · rw [if_pos h, if_pos ⟨h.1, rfl, h.2⟩]; rfl
  · rw [if_neg h, if_neg fun hh => h ⟨hh.1, hh.2.2⟩]; rfl

/-- Settles O14, by the dial state for STOP. -/
theorem stopHoldRelease : Obligations.StopHoldRelease := by
  refine ⟨?_, ?_, ?_⟩
  · intro s u hu
    have hexec : exec .stop s = .next (u.stopDial.answer .ok []) := hu.exec_eq
    rw [hexec]
    refine ⟨?_, ?_, ?_, ?_⟩
    · intro h; rw [State.stopDial_running h]; rfl
    · intro h; rw [State.stopDial_held h]; rfl
    · intro h; rw [State.stopDial_jammed h]
    · intro h; rw [State.stopDial_resting h]
  · intro s u hu
    exact hu.exec_eq
  · intro s u hu
    rw [hu.exec_eq]
    show Host.Outcome.next ((u.onDial fun d => { d with hostHold := false }).heldTest.answer .ok []) = _
    rw [State.release_eq]

/-! ### SET_DIAL and SET_FEED (R15, R32) -/

theorem clampNat_eq_ite {lo hi : Nat} (h : lo ≤ hi) (x : Nat) :
    clampNat lo hi x = if x < lo then lo else if hi < x then hi else x := by
  unfold clampNat
  split
  · omega
  · split <;> omega

/-- Settles O15: in IDLE each field is clamped, and the answer says whether one was. -/
theorem dialAndFeedSettings : Obligations.DialAndFeedSettings := by
  refine ⟨?_, ?_⟩
  · intro s u d m e hu
    rw [hu.exec_eq]
    show Host.Outcome.next (replySetDial d m e u).answered = _
    unfold replySetDial
    split
    · simp only [clampNat_ne _ _ _ (show 20 ≤ 500 by omega), clampNat_ne _ _ _ (show 50 ≤ 2000 by omega),
        lt_eq_not_le, not_decide_or, decide_toNat_ne_zero, and_assoc]
      rw [State.doneClamped_answered, status_ite_not_decide, clampNat_eq_ite (by omega), clampNat_eq_ite (by omega)]
      rfl
    · rfl
  · intro s u w hu
    rw [hu.exec_eq]
    show Host.Outcome.next (replySetFeed w u).answered = _
    unfold replySetFeed
    split
    · rw [clampNat_ne _ _ _ (show 5 ≤ 100 by omega), State.doneClamped_answered, status_ite_not_decide,
        clampNat_eq_ite (by omega)]
      rfl
    · rfl

end Sys2Proof.Machine
end

section
/-! SUPPORT. READ_DIAL: the ten bytes by their part (R16). -/

namespace Sys2Proof.Machine

/-- The flags of READ_DIAL, bit 0 first (R16). -/
def State.dialBits (s : State) : List Bool :=
  [s.dial.hostHold, s.dial.stopPending, s.anySevere, s.dial.dwellTimer == .elapsed, s.dial.startEnable]

/-- The parts of the READ_DIAL payload. -/
def State.dialParts (s : State) : List (List Byte) :=
  [byte1 s.dial.state.code, byte1 s.dial.position.val, byte1 (packBits s.dialBits),
    bytesBE 3 (packBits s.dial.busy.toList), bytesBE 2 s.dial.minDwell, bytesBE 2 s.dial.moveTimeout]

/-- The lengths of those parts. -/
def dialLengths : List Nat := [1, 1, 1, 3, 2, 2]

theorem State.dialPayload_eq (s : State) : s.dialPayload = s.dialParts.flatten := by
  simp [State.dialPayload, State.dialParts, State.dialBits]

theorem State.dialParts_lengths (s : State) : s.dialParts.map List.length = dialLengths := by
  simp [State.dialParts, dialLengths]

theorem State.dialPayload_length (s : State) : s.dialPayload.length = 10 := by
  rw [s.dialPayload_eq, List.length_flatten, s.dialParts_lengths]
  rfl

/-- The `i`th field of the payload. -/
theorem State.dialPayload_field (s : State) (i : Nat) {x : List Byte} {k n : Nat}
    (hk : (dialLengths.take i).sum = k) (hx : s.dialParts[i]? = some x) (hn : dialLengths[i]? = some n) :
    fieldAt s.dialPayload k n = numBE x := by
  rw [s.dialPayload_eq, ← hk]
  exact fieldAt_flatten s.dialParts_lengths i hx hn

theorem State.dialPayload_state (s : State) : fieldAt s.dialPayload 0 1 = s.dial.state.code := by
  refine (s.dialPayload_field 0 rfl rfl rfl).trans (numBE_byte1_of_lt ?_)
  cases s.dial.state <;> decide

theorem State.dialPayload_position (s : State) : fieldAt s.dialPayload 1 1 = s.dial.position.val :=
  (s.dialPayload_field 1 rfl rfl rfl).trans (numBE_byte1_of_lt (by omega))

theorem State.dialPayload_bits (s : State) : fieldAt s.dialPayload 2 1 = packBits s.dialBits :=
  (s.dialPayload_field 2 rfl rfl rfl).trans
    ((numBE_byte1 _).trans (packBits_mod_byte (by simp [State.dialBits])))

theorem State.dialPayload_busy (s : State) : fieldAt s.dialPayload 3 3 = packBits s.dial.busy.toList := by
  refine (s.dialPayload_field 3 rfl rfl rfl).trans ((numBE_bytesBE 3 _).trans ?_)
  refine Nat.mod_eq_of_lt ((packBits_lt _).trans_le ?_)
  rw [Vector.length_toList]
  norm_num

theorem State.dialPayload_minDwell (s : State) : fieldAt s.dialPayload 6 2 = s.dial.minDwell % 65536 :=
  (s.dialPayload_field 4 rfl rfl rfl).trans (numBE_bytesBE_two _)

theorem State.dialPayload_moveTimeout (s : State) : fieldAt s.dialPayload 8 2 = s.dial.moveTimeout % 65536 :=
  (s.dialPayload_field 5 rfl rfl rfl).trans (numBE_bytesBE_two _)

theorem testBit_busy (s : State) (st : Station) : (packBits s.dial.busy.toList).testBit st.index.val = s.isBusy st := by
  rw [testBit_packBits, List.getD_eq_getElem _ _ (by simp)]
  simp [State.isBusy]

/-- Settles O16: each byte of the payload is read from its part. -/
theorem readDial : Obligations.ReadDial := by
  intro s u hu
  refine ⟨u.dialPayload, hu.exec_eq, u.dialPayload_length, ?_⟩
  rw [u.dialPayload_state, u.dialPayload_position, u.dialPayload_bits, u.dialPayload_busy,
    u.dialPayload_minDwell, u.dialPayload_moveTimeout]
  refine ⟨by cases u.dial.state <;> rfl, rfl, testBit_packBits _ 0, testBit_packBits _ 1, testBit_packBits _ 2,
    ?_, testBit_packBits _ 4, ?_, testBit_busy u, ?_, rfl, rfl⟩
  · exact (testBit_packBits _ 3).trans (beq_eq_decide _ _)
  · intro k hk
    rw [testBit_packBits]
    exact List.getD_eq_default _ _ (by simpa [State.dialBits] using hk)
  · intro k hk
    rw [testBit_packBits]
    exact List.getD_eq_default _ _ (by simpa using hk)

end Sys2Proof.Machine
end

section
/-! SUPPORT. The records given up, the check-done test, the index and the emergency stop where no measurement is in flight
(R6 to R11, R105). -/

namespace Sys2Proof.Machine

/-! ### The records given up (R8) -/

theorem State.giveUpRecords_pocket (s : State) (p : Fin 24) :
    s.giveUpRecords.pocket p = if s.pocket p = .empty then .empty else .unknown := by
  simp only [State.giveUpRecords, State.drainTest_pocket, State.onCounters_pocket, State.pocket_mapLive]
  cases s.pocket p <;> simp

/-- Every record given up, as one change of the records and of the lot (R8, R162). -/
theorem State.giveUpRecords_eq (s : State) :
    s.giveUpRecords =
      { s with
        pockets := s.giveUpRecords.pockets
        lot :=
          { s.lot with
            state := if s.lot.state = .draining ∧ s.feed.inFlight = none then .noLot else s.lot.state
            counters :=
              { s.lot.counters with
                abandoned := min 4294967295 (s.lot.counters.abandoned + s.countLive s.isCurrentPart) } } } := by
  have hpockets : s.giveUpRecords.pockets = (s.mapLive fun _ => .unknown).pockets := by
    simp [State.giveUpRecords]
  have hdead (p : Fin 24) :
      (((s.mapLive fun _ => .unknown).onCounters fun c =>
        { c with abandoned := satAdd Config.maxCount32 c.abandoned (s.countLive s.isCurrentPart) }).pocket
          p).isLive = false := by
    rw [State.onCounters_pocket, State.pocket_mapLive]
    cases s.pocket p <;> rfl
  rw [hpockets, State.giveUpRecords, State.drainTest_eq]
  simp only [hdead, implies_true, and_true]
  simp [satAdd, Config.maxCount32]

/-! ### The check-done test (R105) -/

theorem LiveRecord.isPending_iff (r : LiveRecord) : r.isPending = true ↔ ∃ h o, r.phase = .pending h o := by
  unfold LiveRecord.isPending
  cases r.phase <;> simp

theorem LiveRecord.readBy_iff (r : LiveRecord) (h : Head) : r.readBy h = true ↔ ∃ x ∈ r.readings, x.head = h := by
  simp [LiveRecord.readBy]

/-- The check-done test in the terms of the statements (R105). -/
theorem State.checkIsDone_iff (s : State) (r : LiveRecord) :
    s.checkIsDone r = true ↔
      r.kind = .check ∧ (∃ h o, r.phase = .pending h o) ∧ r.readings ≠ [] ∧
        ∀ h, s.inService h = true → ∃ x ∈ r.readings, x.head = h := by
  have hheads : (∀ h, s.inService h = true → r.readBy h = true) ↔
      (s.inService .a = false ∨ r.readBy .a = true) ∧ (s.inService .b = false ∨ r.readBy .b = true) := by
    constructor
    · intro h
      refine ⟨?_, ?_⟩
      · cases ha : s.inService .a
        · exact .inl rfl
        · exact .inr (h .a ha)
      · cases hb : s.inService .b
        · exact .inl rfl
        · exact .inr (h .b hb)
    · rintro ⟨ha, hb⟩ h hs
      cases h with
      | a => exact ha.resolve_left (by simp [hs])
      | b => exact hb.resolve_left (by simp [hs])
  simp only [← r.readBy_iff]
  rw [hheads]
  simp [State.checkIsDone, r.isPending_iff, and_assoc]

theorem State.headLeft_pocket_live {s : State} {p : Fin 24} {r : LiveRecord} (h : s.pocket p = .live r) :
    s.headLeft.pocket p = .live (s.checkDoneTest r) := by
  rw [State.headLeft, State.pocket_mapLive_live _ h]

theorem State.headLeft_pocket_other {s : State} {p : Fin 24} (h : ∀ r, s.pocket p ≠ .live r) :
    s.headLeft.pocket p = s.pocket p := State.pocket_mapLive_other _ h

/-- Settles O12, by the record for each of the two. -/
theorem givenUpAndCheckDone : Obligations.GivenUpAndCheckDone := by
  refine ⟨fun s => ⟨s.giveUpRecords_pocket, s.giveUpRecords_eq⟩, ?_⟩
  intro s p
  refine ⟨?_, State.headLeft_pocket_other, rfl⟩
  intro r hr
  rw [State.headLeft_pocket_live hr, ← s.checkIsDone_iff]
  constructor
  · intro h
    rw [State.checkDoneTest, if_pos h]
  · intro h
    rw [State.checkDoneTest, if_neg h]

/-! ### No measurement in flight (R9, R11) -/

theorem State.abandonAt_of_ne {s : State} {h : Head} (hm : (s.head h).state ≠ .measuring) : s.abandonAt h = s := by
  rw [State.abandonAt, if_neg hm]

theorem State.abandonAll_of_none {s : State} (hm : ∀ h, (s.head h).state ≠ .measuring) : s.abandonAll = s := by
  rw [State.abandonAll, State.abandonAt_of_ne (hm .a), State.abandonAt_of_ne (hm .b)]

/-- SPURIOUS_INDEX is a severe flag (R166). -/
theorem State.anySevere_of_spuriousIndex {s : State} (h : s.faults.events.getLsbD 1 = true) :
    s.anySevere = true := by
  rw [State.anySevere_iff]
  refine ⟨.spuriousIndex, by decide, ?_⟩
  rw [State.flagSet_event s (by decide) (by decide) (by decide)]
  exact h

theorem State.anySevere_raise_spuriousIndex (s : State) : (s.raise .spuriousIndex).anySevere = true := by
  apply State.anySevere_of_spuriousIndex
  simp [State.raise, State.onFaults, Flag.bit, Flag.number]

theorem exec_indexDone_honoured {s : State} (hreset : s.lines.inReset = false)
    (hm : s.dial.state = .moving ∨ s.dial.state = .jammed) (sensed : Bool) :
    exec (.indexDone sensed) s = .next (s.honourIndex sensed) := by
  show execIndexDone sensed s = _
  unfold execIndexDone
  rw [State.event_eq _ hreset]
  rcases hm with hm | hm <;> simp only [hm]

theorem exec_indexDone_spurious {s : State} (hreset : s.lines.inReset = false) (hm : s.dial.state ≠ .moving)
    (hj : s.dial.state ≠ .jammed) (sensed : Bool) :
    exec (.indexDone sensed) s = .next s.spuriousIndex := by
  show execIndexDone sensed s = _
  unfold execIndexDone
  rw [State.event_eq _ hreset]
  cases hs : s.dial.state with
  | moving => exact absurd hs hm
  | jammed => exact absurd hs hj
  | _ => rfl

/-- The dial after a spurious index has advanced it: a dwell that is over ends IDLE or HELD (R4, R11). -/
def Dial.afterSpurious (d : Dial) (isOver : Prop) [Decidable isOver] : Dial :=
  if isOver then
    if d.stopPending then
      { d with position := d.position + 1, state := .idle, dwellTimer := .stopped, stopPending := false }
    else { d with position := d.position + 1, state := .held }
  else { d with position := d.position + 1 }

end Sys2Proof.Machine
end

section
/-! SUPPORT. The index and the emergency stop where no measurement is in flight, the two resets, and the conditions that
every step keeps, right after the reset (R1, R6 to R11, R17, R42, R173). -/

namespace Sys2Proof.Machine

/-! ### INDEX_DONE (R6, R7, R11) -/

/-- A spurious index with no measurement in flight (R11). -/
theorem State.spuriousIndex_of_none {s : State} (hm : ∀ h, (s.head h).state ≠ .measuring) :
    s.spuriousIndex =
      { s with
        faults := { s.faults with events := s.faults.events ||| 2#19 }
        dial := s.dial.afterSpurious (s.dial.state = .dwell ∧ s.dial.dwellTimer = .elapsed ∧ s.busyEmpty = true) } := by
  have hsevere : (s.advance.raise .spuriousIndex).anySevere = true := s.advance.anySevere_raise_spuriousIndex
  have hover : (s.advance.raise .spuriousIndex).dwellOver = s.dwellOver := rfl
  have habandon : (s.advance.raise .spuriousIndex).abandonAll = s.advance.raise .spuriousIndex :=
    State.abandonAll_of_none hm
  rw [State.spuriousIndex, habandon, Dial.afterSpurious]
  by_cases h : s.dial.state = .dwell ∧ s.dial.dwellTimer = .elapsed ∧ s.busyEmpty = true
  · rw [State.endDwellTest_of_over (hover.trans (s.dwellOver_iff.mpr h)), if_pos h, hsevere, Bool.or_true]
    by_cases hs : s.dial.stopPending = true
    · rw [if_pos (show (s.advance.raise .spuriousIndex).dial.stopPending = true from hs), if_pos hs]
      rfl
    · rw [if_neg (show ¬(s.advance.raise .spuriousIndex).dial.stopPending = true from hs), if_neg hs, if_pos rfl]
      rfl
  · rw [State.endDwellTest_of_not_over (hover.trans (s.dwellOver_eq_false_iff.mpr h)), if_neg h]
    rfl

/-- Settles O8, by the dial state. -/
theorem indexDoneByDialState : Obligations.IndexDoneByDialState := by
  refine ⟨?_, ?_⟩
  · intro s sensed hreset hm
    rw [exec_indexDone_honoured hreset hm]
    rfl
  · intro s sensed hreset hm hj hnone
    rw [exec_indexDone_spurious hreset hm hj, State.spuriousIndex_of_none hnone]
    rfl

/-! ### The emergency stop (R9, R10) -/

theorem DialState.betweenPositions_iff (x : DialState) :
    x.betweenPositions = true ↔ x = .moving ∨ x = .jammed := by
  cases x <;> simp [DialState.betweenPositions]

theorem exec_estopAsserted {s : State} (hreset : s.lines.inReset = false) (hs : s.dial.state ≠ .estopped) :
    exec .estopAsserted s = .next (State.emergencyStop { s with lines := { s.lines with estop := true } }) := by
  show execEstopAsserted s = _
  unfold execEstopAsserted
  rw [State.event_eq _ hreset]
  dsimp only
  rw [if_neg hs]

/-- The part after items 1 to 4 of R9: the timers of the dial stopped, and the outputs released. -/
def State.stopped (s : State) : State :=
  (s.onDial fun d => { d with dwellTimer := .stopped, moveTimer := .stopped, stopPending := false }).releaseOutputs

/-- An emergency stop with no measurement in flight (R9). -/
theorem State.emergencyStop_of_none {s : State} (hm : ∀ h, (s.head h).state ≠ .measuring) :
    s.emergencyStop =
      (if s.dial.state = .moving ∨ s.dial.state = .jammed then s.stopped.giveUpRecords else s.stopped).onDial
        fun d => { d with state := .estopped } := by
  have habandon : s.stopped.abandonAll = s.stopped := State.abandonAll_of_none hm
  simp only [State.emergencyStop, ← DialState.betweenPositions_iff]
  rw [← State.stopped, habandon]

theorem exec_estopReleased {s : State} (hreset : s.lines.inReset = false) :
    exec .estopReleased s = .next
      ((if s.dial.state = .estopped then
          State.onDial { s with lines := { s.lines with estop := false } } fun d => { d with state := .idle }
        else { s with lines := { s.lines with estop := false } }).reportSevere s) :=
  State.event_eq _ hreset

/-- Settles O10, by the dial state for each of the two edges. -/
theorem emergencyStopAndRelease : Obligations.EmergencyStopAndRelease := by
  refine ⟨?_, ?_, ?_⟩
  · intro s hreset hs hnone
    refine ⟨_, _, rfl, rfl, ?_⟩
    have hstop := State.emergencyStop_of_none (s := { s with lines := { s.lines with estop := true } }) hnone
    rw [exec_estopAsserted hreset hs, hstop]
    rfl
  · intro s hreset hs
    refine ⟨?_, ?_⟩
    · show execEstopAsserted s = _
      unfold execEstopAsserted
      rw [State.event_eq _ hreset]
      dsimp only
      rw [if_pos hs]
    · rw [exec_estopReleased hreset, if_pos hs, State.reportSevere_eq, if_neg]
      · rfl
      · rintro ⟨-, -, hheld, -⟩
        exact absurd hheld (by simp)
  · intro s hreset hs
    rw [exec_estopReleased hreset, if_neg hs]

/-! ### The resets (R1, R173) -/

theorem State.powerOn_pocket (s : State) (estop : Bool) (cans : BitVec 12) (p : Fin 24) :
    (s.powerOn estop cans).pocket p = .unknown := by
  simp [State.pocket, State.powerOn, State.reset]

theorem State.powerOn_flags (s : State) (estop : Bool) (cans : BitVec 12) :
    (s.powerOn estop cans).flags = if estop then 0x40020#19 else 0x40000#19 := by
  have hunknown : (s.powerOn estop cans).recordsUnknown = true :=
    (State.recordsUnknown_iff _).mpr ⟨0, State.powerOn_pocket s estop cans 0⟩
  have hhead : (s.powerOn estop cans).noHead = false := by simp [State.noHead, State.powerOn, State.reset]
  have hline : (s.powerOn estop cans).lines.estop = estop := rfl
  have hevents : (s.powerOn estop cans).faults.events = 0#19 := rfl
  simp only [State.flags, State.conditionFlags, hunknown, hhead, hline, hevents]
  cases estop <;> decide

/-- Settles O3: each block is read off the state that RESET_N leaves. -/
theorem powerOnValues : Obligations.PowerOnValues := by
  intro s estop cans
  refine ⟨s.powerOn estop cans, rfl, rfl, s.powerOn_pocket estop cans, rfl, ?_, rfl, rfl, ?_, ?_, rfl, rfl, rfl,
    rfl, rfl, rfl, rfl, rfl, s.powerOn_flags estop cans, rfl, rfl, Transaction.acrossReset_eq _, rfl⟩
  · intro h
    cases h <;> rfl
  · intro g
    simp [State.bin, State.powerOn, State.reset, Bin.reset]
  · intro c
    simp [State.ejector, State.powerOn, State.reset, Ejector.reset]

theorem DialState.acceptsReset_iff (x : DialState) :
    x.acceptsReset = true ↔ x = .idle ∨ x = .estopped ∨ x = .jammed := by
  cases x <;> simp [DialState.acceptsReset]

theorem LiveRecord.isEjecting_iff (r : LiveRecord) : r.isEjecting = true ↔ ∃ e, r.phase = .ejecting e := by
  unfold LiveRecord.isEjecting
  cases r.phase <;> simp

/-! What the soft reset leaves of each block (the table of R173). -/

theorem State.softReset_pockets (s : State) :
    s.softReset.pockets = (s.mapLive fun r => .live r.softReset).pockets := by
  simp [State.softReset]
@[simp] theorem State.softReset_dial (s : State) : s.softReset.dial = s.dial.softReset := by simp [State.softReset]
@[simp] theorem State.softReset_feed (s : State) : s.softReset.feed = s.feed.softReset := by simp [State.softReset]
@[simp] theorem State.softReset_forceClass (s : State) : s.softReset.forceClass = none := by simp [State.softReset]
@[simp] theorem State.softReset_check (s : State) : s.softReset.check = s.check.restart := by simp [State.softReset]
@[simp] theorem State.softReset_gates (s : State) : s.softReset.gates = s.gates.softReset := by simp [State.softReset]
@[simp] theorem State.softReset_banks (s : State) : s.softReset.banks = s.banks := by simp [State.softReset]
@[simp] theorem State.softReset_lot (s : State) : s.softReset.lot = { s.lot with state := .noLot } := by
  simp [State.softReset]
@[simp] theorem State.softReset_faults (s : State) : s.softReset.faults = s.faults.softReset := by
  simp [State.softReset]
@[simp] theorem State.softReset_lines (s : State) : s.softReset.lines = s.lines := by simp [State.softReset]
@[simp] theorem State.softReset_link (s : State) : s.softReset.link = s.link := by simp [State.softReset]
@[simp] theorem State.softReset_head (s : State) (h : Head) : s.softReset.head h = (s.head h).softReset := by
  cases h <;> simp [State.head, PerHead.get, State.softReset]
@[simp] theorem State.softReset_bin (s : State) (g : Fin 12) : s.softReset.bin g = { s.bin g with misses := 0 } := by
  simp [State.bin, GateUnit.softReset]

theorem State.softReset_pocket (s : State) (p : Fin 24) :
    s.softReset.pocket p = (s.mapLive fun r => .live r.softReset).pocket p := by
  unfold State.pocket
  rw [s.softReset_pockets]

/-- Settles O50: the soft reset is read block by block. -/
theorem resetSort : Obligations.ResetSort := by
  intro s u hu
  rw [hu.exec_eq]
  show (_ → Host.Outcome.next (replyResetSort u).answered = _) ∧ (_ → ∃ t, Host.Outcome.next (replyResetSort u).answered = _ ∧ _)
  unfold replyResetSort
  refine ⟨fun h => ?_, fun h => ?_⟩
  · rw [if_neg fun ha => ?_, State.refuse_answered]
    rw [DialState.acceptsReset_iff] at ha
    rcases h with h | h | h <;> rw [h] at ha <;> simp at ha
  · have ha : u.dial.state.acceptsReset = true := by
      rw [DialState.acceptsReset_iff]
      rcases h with h | h | h
      · exact .inl h
      · exact .inr (.inl h)
      · exact .inr (.inr h)
    rw [if_pos ha, State.done_answered]
    refine ⟨u.softReset.answer .ok [], rfl, by simp [Dial.softReset], ?_, ?_, ?_, by simp [HeadUnit.softReset],
      by simp, by simp [CheckUnit.restart], by simp, by simp [GateUnit.softReset], by simp [GateUnit.softReset],
      by simp [GateUnit.softReset], by simp, by simp, by simp [FaultUnit.softReset], by simp, by simp⟩
    · intro p hp
      rw [State.answer_pocket, State.softReset_pocket, State.pocket_mapLive_other _ hp]
    · intro p r hp
      rw [State.answer_pocket, State.softReset_pocket, State.pocket_mapLive_live _ hp, LiveRecord.softReset]
      refine ⟨fun he => ?_, fun hn => ?_⟩
      · rw [if_pos (r.isEjecting_iff.mpr he)]
      · rw [if_neg fun he => (r.isEjecting_iff.mp he).elim hn]
        rfl
    · rw [State.answer_feed, State.softReset_feed, FeedUnit.softReset]
      cases u.feed.inFlight <;> rfl

end Sys2Proof.Machine
end

section
/-! SUPPORT. The work in flight: what the busy set, the feed, the heads, the ejectors and the records hold of it, that the
blocks agree exactly when these do, and the changes of it that keep the agreement (R3, R8, R9, R19, R36, R44, R53, R119). -/

namespace Sys2Proof.Machine

/-! ### What the blocks hold of the work in flight -/

/-- What a head holds of the work: nothing, a probe, the measurement of a pocket; or a state and a request that do not
fit (R44). -/
inductive HeadWork where
  | resting
  | probing
  | measuring (p : Fin 24)
  | unfit
deriving DecidableEq

def HeadWork.isMeasuring : HeadWork → Bool
  | .measuring _ => true
  | _ => false

/-- What a head state and the kind of the request in flight hold together. -/
def HeadWork.of : HeadState → Option RequestKind → HeadWork
  | .out _, none => .resting
  | .ready, none => .resting
  | .probing, some .ident => .probing
  | .measuring, some (.measure p _ _) => .measuring p
  | _, _ => .unfit

def HeadUnit.work (u : HeadUnit) : HeadWork := .of u.state (u.request.map Request.kind)

/-- What a record holds of the work: the head that measures it, or the station that ejects it (R19). -/
inductive PocketWork where
  | idle
  | measured (h : Head)
  | ejected (c : Chute)
deriving DecidableEq

def Phase.work : Phase → PocketWork
  | .measuring h _ _ => .measured h
  | .ejecting e => .ejected e.chute
  | _ => .idle

def PocketRecord.work : PocketRecord → PocketWork
  | .live r => r.phase.work
  | _ => .idle

/-- The work in flight as the blocks hold it. -/
structure Work where
  dial : DialState
  window : Bool
  feeding : Bool
  busy : Station → Bool
  head : Head → HeadWork
  ejector : Chute → EjectorState
  pocket : Fin 24 → PocketWork

def State.work (s : State) : Work where
  dial := s.dial.state
  window := s.feed.windowTimer.isRunning
  feeding := s.feed.inFlight.isSome
  busy := s.isBusy
  head h := (s.head h).work
  ejector c := (s.ejector c).state
  pocket p := (s.pocket p).work

/-- The blocks agree on the work in flight. -/
structure Work.Agrees (w : Work) : Prop where
  window : w.window = w.feeding
  load : w.busy .load = w.feeding
  chutes : ∀ c, w.busy (.eject c) = (w.ejector c).isFired
  heads : ∀ h, w.busy (.head h) = (w.head h).isMeasuring
  fit : ∀ h, w.head h ≠ .unfit
  measuring : ∀ h p, w.head h = .measuring p ↔ w.pocket p = .measured h
  ejecting : ∀ c p, w.ejector c = .fired p false ↔ w.pocket p = .ejected c
  sweeps : ∀ c p, w.ejector c = .fired p true → c = .purge
  settled : w.dial = .held ∨ w.dial = .moving ∨ w.dial = .jammed → ∀ st, w.busy st = false
  still : w.dial ≠ .dwell → ∀ h, w.busy (.head h) = false

/-- Every live record is of a kind that its state admits (R19). -/
def State.KindsFit (s : State) : Prop := ∀ (p : Fin 24) (r : LiveRecord), s.pocket p = .live r → r.kindFits

/-! ### What a head holds, by its state and its request -/

theorem HeadWork.isMeasuring_iff (x : HeadWork) : x.isMeasuring = true ↔ ∃ p, x = .measuring p := by
  cases x <;> simp [HeadWork.isMeasuring]

theorem HeadWork.of_measuring {x : HeadState} {q : Option RequestKind} {p : Fin 24} (h : of x q = .measuring p) :
    x = .measuring ∧ ∃ range aperture, q = some (.measure p range aperture) := by
  unfold of at h
  split at h <;> cases h
  exact ⟨rfl, _, _, rfl⟩

/-! A head state that fits its request is told by the request. -/

theorem HeadWork.of_measure {x : HeadState} {p : Fin 24} {range : Fin 7} {aperture : Fin 4}
    (h : of x (some (.measure p range aperture)) ≠ .unfit) :
    of x (some (.measure p range aperture)) = .measuring p := by
  revert h
  cases x <;> simp [of]

theorem HeadWork.of_ident {x : HeadState} (h : of x (some .ident) ≠ .unfit) : of x (some .ident) = .probing := by
  revert h
  cases x <;> simp [of]

/-- A head state that fits its request is MEASURING or PROBING as what is held says. -/
theorem HeadWork.of_state {x : HeadState} {q : Option RequestKind} (h : of x q ≠ .unfit) :
    (x = .measuring ↔ (of x q).isMeasuring = true) ∧ (x = .probing ↔ of x q = .probing) := by
  revert h
  rcases q with _ | _ | _ <;> cases x <;> simp [of, isMeasuring]

theorem HeadUnit.state_of_work {u : HeadUnit} (h : u.work ≠ .unfit) :
    (u.state = .measuring ↔ u.work.isMeasuring = true) ∧ (u.state = .probing ↔ u.work = .probing) :=
  HeadWork.of_state h

theorem HeadUnit.work_of_rest {u : HeadUnit} (h1 : u.state ≠ .measuring) (h2 : u.state ≠ .probing)
    (hq : u.request = none) : u.work = .resting := by
  rw [HeadUnit.work, hq]
  cases hs : u.state with
  | measuring => exact absurd hs h1
  | probing => exact absurd hs h2
  | _ => rfl

theorem HeadUnit.work_of_probe {u : HeadUnit} {sent : Bool} (hs : u.state = .probing)
    (hq : u.request = some ⟨.ident, sent⟩) : u.work = .probing := by
  rw [HeadUnit.work, hs, hq]
  rfl

/-- A head whose state fits its request is MEASURING with a MEASURE request. -/
theorem HeadUnit.work_of_measure {u : HeadUnit} (hf : u.work ≠ .unfit) {p : Fin 24} {range : Fin 7}
    {aperture : Fin 4} {sent : Bool} (hq : u.request = some ⟨.measure p range aperture, sent⟩) :
    u.work = .measuring p := by
  rw [HeadUnit.work, hq] at hf ⊢
  exact HeadWork.of_measure hf

theorem HeadUnit.work_of_ident {u : HeadUnit} (hf : u.work ≠ .unfit) {sent : Bool}
    (hq : u.request = some ⟨.ident, sent⟩) : u.work = .probing := by
  rw [HeadUnit.work, hq] at hf ⊢
  exact HeadWork.of_ident hf

theorem HeadUnit.work_measuring_iff (u : HeadUnit) (p : Fin 24) :
    u.work = .measuring p ↔ u.state = .measuring ∧ u.measuredPocket = some p := by
  constructor
  · intro h
    obtain ⟨hs, range, aperture, hq⟩ := HeadWork.of_measuring h
    obtain ⟨q, hq, hk⟩ := Option.map_eq_some_iff.mp hq
    obtain ⟨kind, sent⟩ := q
    obtain rfl : kind = _ := hk
    exact ⟨hs, by simp [HeadUnit.measuredPocket, hq]⟩
  · rintro ⟨hs, hp⟩
    unfold HeadUnit.measuredPocket at hp
    split at hp
    next hq => rw [HeadUnit.work, hs, hq, ← Option.some.inj hp]; rfl
    next => cases hp

/-- What a head holds rests on its state and on what it requests. -/
theorem HeadUnit.work_congr {u v : HeadUnit} (hs : v.state = u.state)
    (hq : v.request.map Request.kind = u.request.map Request.kind) : v.work = u.work := by
  rw [HeadUnit.work, HeadUnit.work, hs, hq]

/-! ### The coherence of the part in these terms -/

theorem Phase.work_measured_iff (x : Phase) (h : Head) : x.work = .measured h ↔ x.measuringHead = some h := by
  cases x <;> simp [Phase.work, Phase.measuringHead]

theorem Phase.work_ejected_iff (x : Phase) (c : Chute) : x.work = .ejected c ↔ x.ejectStation = some c := by
  cases x <;> simp [Phase.work, Phase.ejectStation]

theorem State.measuringAt_iff (s : State) (p : Fin 24) (h : Head) :
    s.measuringAt p h ↔ s.work.pocket p = .measured h := by
  show (∃ r, s.pocket p = .live r ∧ r.phase.measuringHead = some h) ↔ (s.pocket p).work = .measured h
  cases hp : s.pocket p <;> simp [PocketRecord.work, Phase.work_measured_iff]

theorem State.ejectingAt_iff (s : State) (p : Fin 24) (c : Chute) :
    s.ejectingAt p c ↔ s.work.pocket p = .ejected c := by
  show (∃ r, s.pocket p = .live r ∧ r.phase.ejectStation = some c) ↔ (s.pocket p).work = .ejected c
  cases hp : s.pocket p <;> simp [PocketRecord.work, Phase.work_ejected_iff]

/-- What a head holds agrees with its state and its record exactly as R44 and R53 have it. -/
theorem State.headAgrees_iff (s : State) (h : Head) :
    s.HeadAgrees h ↔
      s.work.busy (.head h) = (s.work.head h).isMeasuring ∧ s.work.head h ≠ .unfit ∧
        ∀ p, s.work.head h = .measuring p ↔ s.work.pocket p = .measured h := by
  show _ ↔ s.isBusy (.head h) = (s.head h).work.isMeasuring ∧ (s.head h).work ≠ .unfit ∧ ∀ p,
    (s.head h).work = .measuring p ↔ _
  constructor
  · intro ha
    have hwork (p : Fin 24) : (s.head h).work = .measuring p ↔ s.work.pocket p = .measured h := by
      rw [← s.measuringAt_iff, HeadUnit.work_measuring_iff]
      refine ⟨fun ⟨hm, hp⟩ => ?_, ha.record p⟩
      obtain ⟨q, hq, hat⟩ := ha.measuring hm
      rwa [Option.some.inj (hp.symm.trans hq)]
    have hfit : (s.head h).work ≠ .unfit := by
      by_cases hm : (s.head h).state = .measuring
      · obtain ⟨q, hq, -⟩ := ha.measuring hm
        rw [((s.head h).work_measuring_iff q).mpr ⟨hm, hq⟩]
        nofun
      · by_cases hp : (s.head h).state = .probing
        · obtain ⟨sent, hq⟩ := ha.probing hp
          rw [HeadUnit.work_of_probe hp hq]
          nofun
        · rw [HeadUnit.work_of_rest hm hp (ha.resting hm hp)]
          nofun
    exact ⟨Bool.eq_iff_iff.mpr (ha.busy.trans (HeadUnit.state_of_work hfit).1), hfit, hwork⟩
  · rintro ⟨hbusy, hfit, hwork⟩
    have hstate := HeadUnit.state_of_work hfit
    have hrecord (p : Fin 24) : s.measuringAt p h ↔
        (s.head h).state = .measuring ∧ (s.head h).measuredPocket = some p := by
      rw [s.measuringAt_iff, ← hwork, HeadUnit.work_measuring_iff]
    refine ⟨(Bool.eq_iff_iff.mp hbusy).trans hstate.1.symm, fun hm => ?_, fun hp => ?_, fun hm hp => ?_,
      fun p hp => (hrecord p).mp hp⟩
    · obtain ⟨p, hp⟩ := (HeadWork.isMeasuring_iff _).mp (hstate.1.mp hm)
      have hat := ((s.head h).work_measuring_iff p).mp hp
      exact ⟨p, hat.2, (hrecord p).mpr hat⟩
    · have hpr := hstate.2.mp hp
      rcases hq : (s.head h).request with _ | ⟨_ | _, sent⟩
      · rw [HeadUnit.work, hp, hq] at hfit
        exact absurd rfl hfit
      · rw [HeadUnit.work_of_measure hfit hq] at hpr
        cases hpr
      · exact ⟨sent, rfl⟩
    · rcases hq : (s.head h).request with _ | ⟨_ | _, sent⟩
      · rfl
      · exact absurd (hstate.1.mpr (by rw [HeadUnit.work_of_measure hfit hq]; rfl)) hm
      · exact absurd (hstate.2.mpr (HeadUnit.work_of_ident hfit hq)) hp

/-- The blocks are coherent exactly when what they hold of the work agrees and every kind fits its state. -/
theorem State.coherent_iff (s : State) : s.Coherent ↔ s.work.Agrees ∧ s.KindsFit := by
  constructor
  · intro hc
    have hheads h := (s.headAgrees_iff h).mp (hc.heads h)
    refine ⟨⟨hc.window, hc.load, hc.chutes, fun h => (hheads h).1, fun h => (hheads h).2.1,
      fun h => (hheads h).2.2, fun c p => (hc.ejecting c p).trans (s.ejectingAt_iff p c), hc.sweeps,
      fun hd => s.busyEmpty_iff.mp (hc.settled hd), fun hd h => ?_⟩, hc.kinds⟩
    exact Bool.eq_false_iff.mpr fun hb => hc.still hd h ((hc.heads h).busy.mp hb)
  · rintro ⟨ha, hk⟩
    have hheads h : s.HeadAgrees h := (s.headAgrees_iff h).mpr ⟨ha.heads h, ha.fit h, ha.measuring h⟩
    exact ⟨ha.window, ha.load, ha.chutes, hheads, fun c p => (ha.ejecting c p).trans (s.ejectingAt_iff p c).symm,
      ha.sweeps, fun hd => s.busyEmpty_iff.mpr (ha.settled hd),
      fun hd h hm => absurd ((hheads h).busy.mpr hm) (Bool.eq_false_iff.mp (ha.still hd h)), hk⟩

/-! ### Changes of the work that keep the agreement -/

namespace Work.Agrees

open Function

variable {w : Work}

/-- A feed begins in a dwell, or the feed in flight ends (R28 to R30). -/
theorem feedTurns (hw : w.Agrees) (b : Bool) (hb : b = true → w.dial = .dwell) :
    Work.Agrees { w with window := b, feeding := b, busy := update w.busy .load b } where
  window := rfl
  load := by simp
  chutes c := by simpa using hw.chutes c
  heads h := by simpa using hw.heads h
  fit := hw.fit
  measuring := hw.measuring
  ejecting := hw.ejecting
  sweeps := hw.sweeps
  settled hd st := by
    have hb' : b = false := by
      rw [Bool.eq_false_iff]
      intro hbt
      have hdwell : w.dial = .dwell := hb hbt
      rcases hd with hd | hd | hd <;> cases hdwell.symm.trans hd
    simp only [update_apply]
    split
    · exact hb'
    · exact hw.settled hd st
  still hd h := by simpa using hw.still hd h

/-- A head that measures nothing takes another state with its request (R44, R50, R51). -/
theorem headTurns (hw : w.Agrees) {h : Head} (hh : ∀ p, w.head h ≠ .measuring p) {x : HeadWork}
    (hx : x = .resting ∨ x = .probing) : Work.Agrees { w with head := update w.head h x } where
  window := hw.window
  load := hw.load
  chutes := hw.chutes
  heads k := by
    by_cases hk : k = h
    · subst hk
      rw [hw.heads k]
      simp only [update_self]
      cases hwk : w.head k with
      | measuring p => exact absurd hwk (hh p)
      | _ => rcases hx with rfl | rfl <;> rfl
    · simpa [hk] using hw.heads k
  fit k := by
    by_cases hk : k = h
    · subst hk
      rcases hx with rfl | rfl <;> simp
    · simpa [hk] using hw.fit k
  measuring k p := by
    rw [← hw.measuring k p]
    by_cases hk : k = h
    · subst hk
      have hne : x ≠ .measuring p := by rcases hx with rfl | rfl <;> nofun
      simp [hne, hh p]
    · simp [hk]
  ejecting := hw.ejecting
  sweeps := hw.sweeps
  settled := hw.settled
  still := hw.still

/-- A measurement begins in a dwell: its head joins the busy set and its record is MEASURING there (R53). -/
theorem measurementBegins (hw : w.Agrees) {h : Head} {p : Fin 24} (hd : w.dial = .dwell)
    (hh : w.head h = .resting) (hp : w.pocket p = .idle) :
    Work.Agrees
      { w with
        busy := update w.busy (.head h) true
        head := update w.head h (.measuring p)
        pocket := update w.pocket p (.measured h) } where
  window := hw.window
  load := by simpa using hw.load
  chutes c := by simpa using hw.chutes c
  heads k := by
    by_cases hk : k = h
    · subst hk
      simp [HeadWork.isMeasuring]
    · simpa [hk] using hw.heads k
  fit k := by
    by_cases hk : k = h
    · subst hk
      simp
    · simpa [hk] using hw.fit k
  measuring k q := by
    have hnone : ∀ q, w.pocket q ≠ .measured h := fun q hq => by
      cases hh.symm.trans ((hw.measuring h q).mpr hq)
    by_cases hk : k = h
    · subst hk
      by_cases hq : q = p
      · subst hq
        simp
      · simp [hq, hnone q, Ne.symm hq]
    · by_cases hq : q = p
      · subst hq
        have hne : w.head k ≠ .measuring q := fun hm => by
          have := (hw.measuring k q).mp hm
          rw [hp] at this
          cases this
        simp [hk, hne, Ne.symm hk]
      · simpa [hk, hq] using hw.measuring k q
  ejecting c q := by
    rw [hw.ejecting c q]
    by_cases hq : q = p
    · subst hq
      simp [hp]
    · simp [hq]
  sweeps := hw.sweeps
  settled hd' := by
    rcases hd' with hd' | hd' | hd' <;> cases hd.symm.trans hd'
  still hd' := absurd hd hd'

/-- A measurement ends, with a reading or without one: its head rests and is no longer in the busy set, and its record is
MEASURING no longer (R24, R25, R55 to R59). -/
theorem measurementEnds (hw : w.Agrees) {h : Head} {p : Fin 24} (hh : w.head h = .measuring p) :
    Work.Agrees
      { w with
        busy := update w.busy (.head h) false
        head := update w.head h .resting
        pocket := update w.pocket p .idle } where
  window := hw.window
  load := by simpa using hw.load
  chutes c := by simpa using hw.chutes c
  heads k := by
    by_cases hk : k = h
    · subst hk
      simp [HeadWork.isMeasuring]
    · simpa [hk] using hw.heads k
  fit k := by
    by_cases hk : k = h
    · subst hk
      simp
    · simpa [hk] using hw.fit k
  measuring k q := by
    have hat := (hw.measuring h p).mp hh
    by_cases hk : k = h
    · subst hk
      by_cases hq : q = p
      · subst hq
        simp
      · have hne : w.pocket q ≠ .measured k := fun hm =>
          hq (HeadWork.measuring.inj (((hw.measuring k q).mpr hm).symm.trans hh))
        simp [hq, hne]
    · by_cases hq : q = p
      · subst hq
        have hne : w.head k ≠ .measuring q := fun hm =>
          hk (PocketWork.measured.inj (((hw.measuring k q).mp hm).symm.trans hat))
        simp [hk, hne]
      · simpa [hk, hq] using hw.measuring k q
  ejecting c q := by
    rw [hw.ejecting c q]
    by_cases hq : q = p
    · subst hq
      simp [(hw.measuring h q).mp hh]
    · simp [hq]
  sweeps := hw.sweeps
  settled hd' st := by
    have := hw.settled hd' st
    simp only [update_apply]
    split
    · rfl
    · exact this
  still hd k := by
    have := hw.still hd k
    simp only [update_apply]
    split
    · rfl
    · exact this

/-- An ejector fires in a dwell for a record, which is then EJECTING there (R119). -/
theorem fires (hw : w.Agrees) {c : Chute} {p : Fin 24} (hd : w.dial = .dwell) (hc : w.busy (.eject c) = false)
    (hp : w.pocket p = .idle) :
    Work.Agrees
      { w with
        busy := update w.busy (.eject c) true
        ejector := update w.ejector c (.fired p false)
        pocket := update w.pocket p (.ejected c) } where
  window := hw.window
  load := by simpa using hw.load
  chutes d := by
    by_cases hk : d = c
    · subst hk
      simp [EjectorState.isFired]
    · simpa [hk] using hw.chutes d
  heads k := by simpa using hw.heads k
  fit := hw.fit
  measuring k q := by
    rw [hw.measuring k q]
    by_cases hq : q = p
    · subst hq
      simp [hp]
    · simp [hq]
  ejecting d q := by
    have hidle : (w.ejector c).isFired = false := (hw.chutes c).symm.trans hc
    have hnone : ∀ q, w.pocket q ≠ .ejected c := fun q hq => by
      rw [(hw.ejecting c q).mpr hq] at hidle
      cases hidle
    by_cases hk : d = c
    · subst hk
      by_cases hq : q = p
      · subst hq
        simp
      · simp [hq, hnone q, Ne.symm hq]
    · by_cases hq : q = p
      · subst hq
        have hne : w.ejector d ≠ .fired q false := fun hm => by
          cases hp.symm.trans ((hw.ejecting d q).mp hm)
        simp [hk, hne, Ne.symm hk]
      · simpa [hk, hq] using hw.ejecting d q
  sweeps d q h := by
    by_cases hk : d = c
    · subst hk
      simp at h
    · exact hw.sweeps d q (by simpa [hk] using h)
  settled hd' := by rcases hd' with hd' | hd' | hd' <;> cases hd.symm.trans hd'
  still hd' := absurd hd hd'

/-- PG fires in a dwell to sweep a pocket, whose record stays as it is (R36, R119). -/
theorem firesSweep (hw : w.Agrees) (p : Fin 24) (hd : w.dial = .dwell) (hc : w.busy (.eject .purge) = false) :
    Work.Agrees
      { w with
        busy := update w.busy (.eject .purge) true
        ejector := update w.ejector .purge (.fired p true) } where
  window := hw.window
  load := by simpa using hw.load
  chutes d := by
    by_cases hk : d = .purge
    · subst hk
      simp [EjectorState.isFired]
    · simpa [hk] using hw.chutes d
  heads k := by simpa using hw.heads k
  fit := hw.fit
  measuring := hw.measuring
  ejecting d q := by
    by_cases hk : d = .purge
    · subst hk
      have hidle : (w.ejector .purge).isFired = false := (hw.chutes .purge).symm.trans hc
      have hnone : w.pocket q ≠ .ejected .purge := fun hq => by
        rw [(hw.ejecting .purge q).mpr hq] at hidle
        cases hidle
      simp [hnone]
    · simpa [hk] using hw.ejecting d q
  sweeps d q h := by
    by_cases hk : d = .purge
    · exact hk
    · exact hw.sweeps d q (by simpa [hk] using h)
  settled hd' := by rcases hd' with hd' | hd' | hd' <;> cases hd.symm.trans hd'
  still hd' := absurd hd hd'

/-- A busy set that only loses stations keeps what the dial asks of it. -/
theorem update_busy_false {busy : Station → Bool} {st x : Station} (h : busy st = false) :
    update busy x false st = false := by
  rw [update_apply]
  split
  · rfl
  · exact h

/-- An ejection of a record ends: the ejector is FIRED no longer, its station leaves the busy set, and the record is
EJECTING no longer (R121 to R127). -/
theorem ejectionEnds (hw : w.Agrees) {c : Chute} {p : Fin 24} (hc : w.ejector c = .fired p false) {x : EjectorState}
    (hx : x.isFired = false) :
    Work.Agrees
      { w with
        busy := update w.busy (.eject c) false
        ejector := update w.ejector c x
        pocket := update w.pocket p .idle } where
  window := hw.window
  load := by simpa using hw.load
  chutes d := by
    by_cases hk : d = c
    · subst hk
      simp [hx]
    · simpa [hk] using hw.chutes d
  heads k := by simpa using hw.heads k
  fit := hw.fit
  measuring k q := by
    rw [hw.measuring k q]
    by_cases hq : q = p
    · subst hq
      simp [(hw.ejecting c q).mp hc]
    · simp [hq]
  ejecting d q := by
    have hat := (hw.ejecting c p).mp hc
    by_cases hk : d = c
    · subst hk
      have hnot : x ≠ .fired q false := fun h => by rw [h] at hx; cases hx
      by_cases hq : q = p
      · subst hq
        simp [hnot]
      · have hne : w.pocket q ≠ .ejected d := fun hm =>
          hq (EjectorState.fired.inj (((hw.ejecting d q).mpr hm).symm.trans hc)).1
        simp [hq, hne, hnot]
    · by_cases hq : q = p
      · subst hq
        have hne : w.ejector d ≠ .fired q false := fun hm =>
          hk (PocketWork.ejected.inj (((hw.ejecting d q).mp hm).symm.trans hat))
        simp [hk, hne]
      · simpa [hk, hq] using hw.ejecting d q
  sweeps d q h := by
    by_cases hk : d = c
    · subst hk
      simp only [update_self] at h
      rw [h] at hx
      cases hx
    · exact hw.sweeps d q (by simpa [hk] using h)
  settled hd st := update_busy_false (hw.settled hd st)
  still hd k := update_busy_false (x := .eject c) (hw.still hd k)

/-- A sweep ends (R36, R124, R127). -/
theorem sweepEnds (hw : w.Agrees) {c : Chute} {p : Fin 24} (hc : w.ejector c = .fired p true) {x : EjectorState}
    (hx : x.isFired = false) :
    Work.Agrees
      { w with busy := update w.busy (.eject c) false, ejector := update w.ejector c x } where
  window := hw.window
  load := by simpa using hw.load
  chutes d := by
    by_cases hk : d = c
    · subst hk
      simp [hx]
    · simpa [hk] using hw.chutes d
  heads k := by simpa using hw.heads k
  fit := hw.fit
  measuring := hw.measuring
  ejecting d q := by
    by_cases hk : d = c
    · subst hk
      have hnot : x ≠ .fired q false := fun h => by rw [h] at hx; cases hx
      have hne : w.pocket q ≠ .ejected d := fun hm => by
        cases hc.symm.trans ((hw.ejecting d q).mpr hm)
      simp [hnot, hne]
    · simpa [hk] using hw.ejecting d q
  sweeps d q h := by
    by_cases hk : d = c
    · subst hk
      simp only [update_self] at h
      rw [h] at hx
      cases hx
    · exact hw.sweeps d q (by simpa [hk] using h)
  settled hd st := update_busy_false (hw.settled hd st)
  still hd k := update_busy_false (x := .eject c) (hw.still hd k)

/-- An ejector that is not FIRED takes another state that is not (R121). -/
theorem ejectorTurns (hw : w.Agrees) {c : Chute} (hc : (w.ejector c).isFired = false) {x : EjectorState}
    (hx : x.isFired = false) : Work.Agrees { w with ejector := update w.ejector c x } where
  window := hw.window
  load := hw.load
  chutes d := by
    by_cases hk : d = c
    · subst hk
      simp [hx, hw.chutes d, hc]
    · simpa [hk] using hw.chutes d
  heads := hw.heads
  fit := hw.fit
  measuring := hw.measuring
  ejecting d q := by
    by_cases hk : d = c
    · subst hk
      have hnot : x ≠ .fired q false := fun h => by rw [h] at hx; cases hx
      have hne : w.pocket q ≠ .ejected d := fun hm => by
        rw [(hw.ejecting d q).mpr hm] at hc
        cases hc
      simp [hnot, hne]
    · simpa [hk] using hw.ejecting d q
  sweeps d q h := by
    by_cases hk : d = c
    · subst hk
      simp only [update_self] at h
      rw [h] at hx
      cases hx
    · exact hw.sweeps d q (by simpa [hk] using h)
  settled := hw.settled
  still := hw.still

/-- The dial takes another state, where its busy set allows it (R5, R8, R9). -/
theorem dialTurns (hw : w.Agrees) {x : DialState}
    (hsettled : x = .held ∨ x = .moving ∨ x = .jammed → ∀ st, w.busy st = false)
    (hstill : x ≠ .dwell → ∀ h, w.busy (.head h) = false) : Work.Agrees { w with dial := x } :=
  { hw with settled := hsettled, still := hstill }

/-- With nothing busy every record may be given up (R8). -/
theorem givesUp (hw : w.Agrees) (hb : ∀ st, w.busy st = false) {f : Fin 24 → PocketWork} (hf : ∀ p, f p = .idle) :
    Work.Agrees { w with pocket := f } :=
  { hw with
    measuring := fun h p => by
      have hne : w.head h ≠ .measuring p := fun hm => by
        have := (hw.heads h).symm.trans (hb _)
        rw [hm] at this
        cases this
      simp [hne, hf p]
    ejecting := fun c p => by
      have hne : w.ejector c ≠ .fired p false := fun hm => by
        have := (hw.chutes c).symm.trans (hb _)
        rw [hm] at this
        cases this
      simp [hne, hf p] }

end Work.Agrees

end Sys2Proof.Machine
end

section
/-! SUPPORT. What the measuring of a record leaves alone (R24, R25, R55 to R59): the dial, the feed, the gates, the banks, the
state and the number of the lot, the link and the lines. -/

namespace Sys2Proof.Machine

/-- What no operation on a measured record touches. -/
structure Surroundings where
  dial : Dial
  feed : FeedUnit
  gates : GateUnit
  banks : Banks
  lotState : LotState
  lotNumber : Nat
  link : Link
  lines : Lines
  pending : List Instr

def State.surroundings (s : State) : Surroundings where
  dial := s.dial
  feed := s.feed
  gates := s.gates
  banks := s.banks
  lotState := s.lot.state
  lotNumber := s.lot.number
  link := s.link
  lines := s.lines
  pending := s.pending

section
variable (s : State)

@[simp] theorem State.surroundings_onHead (h : Head) (f : HeadUnit → HeadUnit) :
    (s.onHead h f).surroundings = s.surroundings := rfl

@[simp] theorem State.surroundings_onCheck (f : CheckUnit → CheckUnit) :
    (s.onCheck f).surroundings = s.surroundings := rfl

@[simp] theorem State.surroundings_onFaults (f : FaultUnit → FaultUnit) :
    (s.onFaults f).surroundings = s.surroundings := rfl

@[simp] theorem State.surroundings_setLive (p : Fin 24) (r : LiveRecord) :
    (s.setLive p r).surroundings = s.surroundings := rfl

@[simp] theorem State.surroundings_mapLive (f : LiveRecord → PocketRecord) :
    (s.mapLive f).surroundings = s.surroundings := by
  simp [State.surroundings]

@[simp] theorem State.surroundings_onCounters (f : LotCounters → LotCounters) :
    (s.onCounters f).surroundings = s.surroundings := rfl

@[simp] theorem State.surroundings_reportPart (r : LiveRecord) (f : LotCounters → LotCounters) :
    (s.reportPart r f).surroundings = s.surroundings := by
  unfold State.reportPart
  split
  · exact s.surroundings_onCounters f
  · rfl

@[simp] theorem State.surroundings_raiseHead (c : HeadCapture) :
    (s.raiseHead c).surroundings = s.surroundings := rfl

@[simp] theorem State.surroundings_raiseLost (h : Head) : (s.raiseLost h).surroundings = s.surroundings := rfl

@[simp] theorem State.surroundings_raiseSubstituted (x : Option Head) :
    (s.raiseSubstituted x).surroundings = s.surroundings := by
  cases x <;> rfl

@[simp] theorem State.surroundings_headLeft : s.headLeft.surroundings = s.surroundings := s.surroundings_mapLive _

@[simp] theorem State.surroundings_recall (h : Head) (epoch : BitVec 16) :
    (s.recall h epoch).surroundings = s.surroundings := by
  simp [State.recall]

@[simp] theorem State.surroundings_nextEpoch (h : Head) : (s.nextEpoch h).surroundings = s.surroundings := rfl

@[simp] theorem State.surroundings_applyRecall (p : Fin 24) (r : LiveRecord) (h : Head) :
    (s.applyRecall p r h).surroundings = s.surroundings := by
  simp [State.applyRecall]

@[simp] theorem State.surroundings_checkFail (h : Head) (drift : Int) :
    (s.checkFail h drift).surroundings = s.surroundings := by
  simp [State.checkFail]

@[simp] theorem State.surroundings_checkDecision (x : Reading) :
    (s.checkDecision x).surroundings = s.surroundings := by
  unfold State.checkDecision
  split
  next => dsimp only; split <;> simp
  next => exact s.surroundings_onCheck _

@[simp] theorem State.surroundings_completeAttempt (p : Fin 24) (r : LiveRecord) (x : Reading) (attempt : Attempt)
    (verdict : Option Grading) : (s.completeAttempt p r x attempt verdict).surroundings = s.surroundings := by
  have hcleared (u : State) :
      State.surroundings (if verdict.isSome then { u with forceClass := none } else u) = u.surroundings := by
    split <;> rfl
  dsimp only [State.completeAttempt]
  rw [State.surroundings_raiseSubstituted]
  split
  · rw [State.surroundings_reportPart, hcleared, State.surroundings_setLive]
  · rw [hcleared, State.surroundings_setLive]

@[simp] theorem State.surroundings_judgePart (p : Fin 24) (r : LiveRecord) (openPair : Bool) (x : Reading) :
    (s.judgePart p r openPair x).surroundings = s.surroundings := by
  unfold State.judgePart
  split <;> simp

@[simp] theorem State.surroundings_judgeCheck (p : Fin 24) (r : LiveRecord) (x : Reading) :
    (s.judgeCheck p r x).surroundings = s.surroundings := by
  dsimp only [State.judgeCheck]
  split <;> simp

@[simp] theorem State.surroundings_keepReading (p : Fin 24) (r : LiveRecord) (openPair : Bool) (h : Head)
    (range : Fin 7) (raw : Option (BitVec 24 × Byte)) :
    (s.keepReading p r openPair h range raw).surroundings = s.surroundings := by
  dsimp only [State.keepReading]
  split <;> simp

@[simp] theorem State.surroundings_handReading (h : Head) (p : Fin 24) (range : Fin 7)
    (raw : Option (BitVec 24 × Byte)) : (s.handReading h p range raw).surroundings = s.surroundings := by
  unfold State.handReading
  split
  next =>
    split
    next =>
      split
      · split
        next => exact s.surroundings_setLive _ _
        next =>
          split
          · exact s.surroundings_applyRecall _ _ _
          · exact s.surroundings_keepReading _ _ _ _ _ _
      · rfl
    next => rfl
  next => rfl

@[simp] theorem State.surroundings_abandonRecord (h : Head) (p : Fin 24) (disabled : Bool) :
    (s.abandonRecord h p disabled).surroundings = s.surroundings := by
  unfold State.abandonRecord
  split
  next =>
    split
    next =>
      split
      · split
        next => exact s.surroundings_setLive _ _
        next =>
          split
          · exact s.surroundings_applyRecall _ _ _
          · split <;> exact s.surroundings_setLive _ _
      · rfl
    next => rfl
  next => rfl

theorem State.surroundings_leaveBusy_congr {t u : State} (h : t.surroundings = u.surroundings) (st : Station) :
    (t.leaveBusy st).surroundings = (u.leaveBusy st).surroundings := by
  simp only [State.surroundings, Surroundings.mk.injEq] at h
  simp [State.surroundings, h]

/-- A RESULT that is taken leaves all around but its station in the busy set. -/
theorem State.surroundings_completeResult (h : Head) (p : Fin 24) (range : Fin 7) (raw : BitVec 24 × Byte) :
    (s.completeResult h p range raw).surroundings = (s.leaveBusy (.head h)).surroundings := by
  rw [State.completeResult, State.surroundings_handReading]
  rfl

theorem State.surroundings_completeNoReply (h : Head) (p : Fin 24) (range : Fin 7) :
    (s.completeNoReply h p range).surroundings = (s.leaveBusy (.head h)).surroundings := by
  dsimp only [State.completeNoReply]
  rw [State.surroundings_handReading]
  refine State.surroundings_leaveBusy_congr ?_ _
  split <;> simp

theorem State.surroundings_abandonMeasurement (h : Head) (next : HeadState) (disabled : Bool) :
    (s.abandonMeasurement h next disabled).surroundings = (s.leaveBusy (.head h)).surroundings := by
  have hleft : (if next.inService then (s.onHead h fun u => u.abandon next).leaveBusy (.head h)
      else ((s.onHead h fun u => u.abandon next).leaveBusy (.head h)).headLeft).surroundings =
      (s.leaveBusy (.head h)).surroundings := by
    split
    · rfl
    · exact State.surroundings_headLeft _
  dsimp only [State.abandonMeasurement]
  split
  · rw [State.surroundings_abandonRecord, hleft]
  · exact hleft

end

end Sys2Proof.Machine
end

section
/-! SUPPORT. What each operation does to the work in flight: the named updates, the end of a measurement with its reading
or without one, the arrivals, the end of a feed and of an ejection (R19, R23 to R25, R28, R52 to R59, R119, R121 to R127). -/

namespace Sys2Proof.Machine

open Function

theorem update_same {α β : Type} [DecidableEq α] (f : α → β) {a : α} {b : β} (h : b = f a) : update f a b = f := by
  subst h
  exact update_eq_self a f

/-! ### The named updates -/

section
variable (s : State)

theorem State.work_onHead (h : Head) (f : HeadUnit → HeadUnit) :
    (s.onHead h f).work = { s.work with head := update s.work.head h (f (s.head h)).work } := by
  rw [State.work, Work.mk.injEq]
  refine ⟨rfl, rfl, rfl, rfl, ?_, rfl, rfl⟩
  funext k
  rw [State.head_onHead, update_apply]
  split <;> rfl

/-- A change of a head that leaves what it holds of the work leaves the work. -/
theorem State.work_onHead_same {h : Head} {f : HeadUnit → HeadUnit} (hf : (f (s.head h)).work = (s.head h).work) :
    (s.onHead h f).work = s.work := by
  rw [State.work_onHead]
  exact congrArg (fun g => { s.work with head := g }) (update_same s.work.head hf)

theorem State.work_joinBusy (st : Station) :
    (s.joinBusy st).work = { s.work with busy := update s.work.busy st true } := by
  rw [State.work, Work.mk.injEq]
  refine ⟨rfl, rfl, rfl, ?_, rfl, rfl, rfl⟩
  funext k
  rw [State.isBusy_joinBusy, update_apply]
  by_cases hk : k = st <;> simp [hk, State.work]

theorem State.work_leaveBusy (st : Station) :
    (s.leaveBusy st).work = { s.work with busy := update s.work.busy st false } := by
  rw [State.work, Work.mk.injEq]
  refine ⟨rfl, rfl, rfl, ?_, rfl, rfl, rfl⟩
  funext k
  rw [State.isBusy_leaveBusy, update_apply]
  by_cases hk : k = st <;> simp [hk, State.work]

theorem State.work_setPocket (p : Fin 24) (r : PocketRecord) :
    (s.setPocket p r).work = { s.work with pocket := update s.work.pocket p r.work } := by
  rw [State.work, Work.mk.injEq]
  refine ⟨rfl, rfl, rfl, rfl, rfl, rfl, ?_⟩
  funext q
  rw [State.pocket_setPocket, update_apply]
  split <;> rfl

theorem State.work_setLive (p : Fin 24) (r : LiveRecord) :
    (s.setLive p r).work = { s.work with pocket := update s.work.pocket p r.phase.work } :=
  s.work_setPocket p (.live r)

/-- A rule for the live records that keeps what each holds of the work keeps the work. -/
theorem State.work_mapLive {f : LiveRecord → PocketRecord}
    (hf : ∀ p r, s.pocket p = .live r → (f r).work = r.phase.work) : (s.mapLive f).work = s.work := by
  rw [State.work, State.work, Work.mk.injEq]
  refine ⟨by simp, by simp, by simp, funext fun st => by simp, by simp, funext fun c => by simp, ?_⟩
  funext p
  rw [State.pocket_mapLive]
  split
  next r hr => rw [hr, hf p r hr]; rfl
  next => rfl

/-- A live record that holds nothing of the work is written over another. -/
theorem State.work_setLive_idle {s t : State} (ht : t.work = s.work) (p : Fin 24) {r : LiveRecord}
    (hr : r.phase.work = .idle) :
    (t.setLive p r).work = { s.work with pocket := update s.work.pocket p .idle } := by
  rw [State.work_setLive, ht, hr]

theorem State.work_onEjector (c : Chute) (f : Ejector → Ejector) :
    (s.onEjector c f).work = { s.work with ejector := update s.work.ejector c (f (s.ejector c)).state } := by
  rw [State.work, Work.mk.injEq]
  refine ⟨rfl, rfl, rfl, rfl, rfl, ?_, rfl⟩
  funext k
  rw [State.ejector_onEjector, update_apply]
  split <;> rfl

theorem State.work_onEjector_same {c : Chute} {f : Ejector → Ejector}
    (hf : (f (s.ejector c)).state = (s.ejector c).state) : (s.onEjector c f).work = s.work := by
  rw [State.work_onEjector]
  exact congrArg (fun g => { s.work with ejector := g }) (update_same s.work.ejector hf)

theorem State.work_onDial {f : Dial → Dial} (hf : (f s.dial).busy = s.dial.busy) :
    (s.onDial f).work = { s.work with dial := (f s.dial).state } := by
  rw [State.work, Work.mk.injEq]
  refine ⟨rfl, rfl, rfl, ?_, rfl, rfl, rfl⟩
  funext st
  simp [State.isBusy, State.work, hf]

theorem State.work_onFeed (f : FeedUnit → FeedUnit) :
    (s.onFeed f).work =
      { s.work with window := (f s.feed).windowTimer.isRunning, feeding := (f s.feed).inFlight.isSome } := rfl

/-! What holds nothing of the work may change. -/

@[simp] theorem State.work_onCheck (f : CheckUnit → CheckUnit) : (s.onCheck f).work = s.work := rfl
@[simp] theorem State.work_onFaults (f : FaultUnit → FaultUnit) : (s.onFaults f).work = s.work := rfl
@[simp] theorem State.work_onLot (f : Lot → Lot) : (s.onLot f).work = s.work := rfl
@[simp] theorem State.work_onLink (f : Link → Link) : (s.onLink f).work = s.work := rfl
@[simp] theorem State.work_onCounters (f : LotCounters → LotCounters) : (s.onCounters f).work = s.work := rfl
@[simp] theorem State.work_onBin (g : Fin 12) (f : Bin → Bin) : (s.onBin g f).work = s.work := rfl
@[simp] theorem State.work_onPendingBank (f : Recipe → Recipe) : (s.onPendingBank f).work = s.work := rfl
@[simp] theorem State.work_raise (f : Flag) : (s.raise f).work = s.work := rfl
@[simp] theorem State.work_raiseHead (c : HeadCapture) : (s.raiseHead c).work = s.work := rfl
@[simp] theorem State.work_raiseLost (h : Head) : (s.raiseLost h).work = s.work := rfl
@[simp] theorem State.work_raisePocket (c : PocketCapture) : (s.raisePocket c).work = s.work := rfl
@[simp] theorem State.work_raiseGateBlocked (g : Fin 12) : (s.raiseGateBlocked g).work = s.work := rfl
@[simp] theorem State.work_raiseUnsorted (c : Option (Fin 12)) : (s.raiseUnsorted c).work = s.work := rfl
@[simp] theorem State.work_answer (status : Status) (payload : List Byte) :
    (s.answer status payload).work = s.work := rfl

@[simp] theorem State.work_reportPart (r : LiveRecord) (f : LotCounters → LotCounters) :
    (s.reportPart r f).work = s.work := by
  unfold State.reportPart
  split <;> rfl

@[simp] theorem State.work_raiseSubstituted (x : Option Head) : (s.raiseSubstituted x).work = s.work := by
  cases x <;> rfl

@[simp] theorem State.work_testFill (g : Fin 12) (b : Bin) : (s.testFill g b).work = s.work := by
  dsimp only [State.testFill]
  split <;> split <;> rfl

@[simp] theorem State.work_drainTest : s.drainTest.work = s.work := by
  unfold State.drainTest
  split <;> rfl

/-- The gate unit changed but for the states of its ejectors. -/
theorem State.work_onGates {f : GateUnit → GateUnit} (hf : (f s.gates).ejectors = s.gates.ejectors) :
    (s.onGates f).work = s.work := by
  rw [State.work, State.work, Work.mk.injEq]
  refine ⟨rfl, rfl, rfl, rfl, rfl, ?_, rfl⟩
  funext c
  simp [State.ejector, hf]

end

/-! ### The records, where they hold nothing of the work -/

theorem State.checkDoneTest_work (s : State) (r : LiveRecord) : (s.checkDoneTest r).phase.work = r.phase.work := by
  rw [State.checkDoneTest]
  split
  next h =>
    rw [State.checkIsDone, Bool.and_eq_true, Bool.and_eq_true, Bool.and_eq_true, Bool.and_eq_true] at h
    obtain ⟨⟨⟨⟨-, hp⟩, -⟩, -⟩, -⟩ := h
    unfold LiveRecord.isPending at hp
    split at hp
    next hph => rw [hph]; rfl
    next => cases hp
  next => rfl

theorem LiveRecord.recallTo_work (r : LiveRecord) (other : Head) (inService : Bool) :
    (r.recallTo other inService).phase.work = .idle := by
  unfold LiveRecord.recallTo
  split <;> rfl

theorem State.recallRecord_work (s : State) (failed : Head) (epoch : BitVec 16) (r : LiveRecord) :
    (s.recallRecord failed epoch r).phase.work = r.phase.work := by
  unfold State.recallRecord
  split
  · split
    next hp => rw [LiveRecord.recallTo_work, hp]; rfl
    next hp => rw [LiveRecord.recallTo_work, hp]; rfl
    all_goals rfl
  · rfl

theorem Recipe.countLap_work (rec : Recipe) {r : LiveRecord} (h : r.phase.work = .idle) :
    (rec.countLap r).phase.work = .idle := by
  dsimp only [Recipe.countLap]
  split
  · rfl
  · exact h

theorem LiveRecord.lowerLap_work (r : LiveRecord) (limit : Nat) : (r.lowerLap limit).phase.work = r.phase.work := by
  unfold LiveRecord.lowerLap
  split <;> rfl

theorem LiveRecord.abort_work (r : LiveRecord) : r.abort.phase.work = r.phase.work := by
  unfold LiveRecord.abort
  cases h : r.phase <;> simp [h, Phase.work, LiveRecord.purge]

theorem LiveRecord.softReset_work {r : LiveRecord} (hm : r.phase.measuringHead = none) :
    r.softReset.phase.work = r.phase.work := by
  unfold LiveRecord.softReset LiveRecord.isEjecting
  cases h : r.phase with
  | measuring => rw [h] at hm; cases hm
  | _ => simp [h, Phase.work, LiveRecord.purge]

theorem State.gradeRecord_work (s : State) (r : LiveRecord) (g : Grading) :
    (s.gradeRecord r g).phase.work = .idle := by
  unfold State.gradeRecord
  split <;> rfl

theorem State.afterAttempt_work (s : State) (r : LiveRecord) (h : Head) (verdict : Option Grading) :
    (s.afterAttempt r h verdict).1.phase.work = .idle := by
  dsimp only [State.afterAttempt]
  split
  · exact s.gradeRecord_work _ _
  · split <;> rfl

/-! ### A measured record after its reading, or without one -/

section
variable (s : State)

@[simp] theorem State.work_headLeft : s.headLeft.work = s.work :=
  s.work_mapLive fun _ r _ => s.checkDoneTest_work r

@[simp] theorem State.work_recall (h : Head) (epoch : BitVec 16) : (s.recall h epoch).work = s.work := by
  rw [State.recall, State.work_onCounters]
  exact s.work_mapLive fun _ r _ => s.recallRecord_work h epoch r

@[simp] theorem State.work_nextEpoch (h : Head) : (s.nextEpoch h).work = s.work := by
  rw [State.nextEpoch, State.work_onCheck]
  exact s.work_onHead_same rfl

theorem State.work_applyRecall (p : Fin 24) (r : LiveRecord) (h : Head) :
    (s.applyRecall p r h).work = { s.work with pocket := update s.work.pocket p .idle } := by
  rw [State.applyRecall, State.work_reportPart, State.work_setLive, LiveRecord.recallTo_work]

theorem State.work_completeAttempt (p : Fin 24) (r : LiveRecord) (x : Reading) (attempt : Attempt)
    (verdict : Option Grading) :
    (s.completeAttempt p r x attempt verdict).work = { s.work with pocket := update s.work.pocket p .idle } := by
  have hcleared (u : State) :
      State.work (if verdict.isSome then { u with forceClass := none } else u) = u.work := by
    split <;> rfl
  have hrec : ((s.afterAttempt (r.append x) x.head verdict).1.degrade
      (s.banks.active.substitutedFor r x.head attempt)).phase.work = .idle :=
    s.afterAttempt_work _ _ _
  dsimp only [State.completeAttempt]
  rw [State.work_raiseSubstituted]
  split
  · rw [State.work_reportPart, hcleared, State.work_setLive, hrec]
  · rw [hcleared, State.work_setLive, hrec]

theorem State.work_judgePart (p : Fin 24) (r : LiveRecord) (openPair : Bool) (x : Reading) :
    (s.judgePart p r openPair x).work = { s.work with pocket := update s.work.pocket p .idle } := by
  unfold State.judgePart
  split
  · exact s.work_setLive p _
  · exact s.work_completeAttempt p r x _ _
  · exact s.work_completeAttempt p r x _ _

/-- A head that rests goes on resting when a check fails it: it is OUT (R142). -/
theorem State.work_checkFail {h : Head} (hh : (s.head h).request = none)
    (hs : (s.head h).work = .resting) (drift : Int) : (s.checkFail h drift).work = s.work := by
  have hdrift : HeadUnit.work { s.head h with state := .out .drift } = .resting :=
    HeadUnit.work_of_rest (by simp) (by simp) hh
  have hout : (s.onHead h fun u => { u with state := .out .drift }).work = s.work :=
    s.work_onHead_same (hdrift.trans hs.symm)
  simp [State.checkFail, hout]

theorem State.work_checkDecision {x : Reading} (hh : (s.head x.head).request = none)
    (hs : (s.head x.head).work = .resting) : (s.checkDecision x).work = s.work := by
  unfold State.checkDecision
  split
  next =>
    dsimp only
    split
    · rw [State.work_nextEpoch, State.work_onCheck]
    · rw [State.work_checkFail (s.onCheck _) hh hs, State.work_onCheck]
  next => exact s.work_onCheck _

theorem State.work_judgeCheck (p : Fin 24) (r : LiveRecord) {x : Reading} (hh : (s.head x.head).request = none)
    (hs : (s.head x.head).work = .resting) :
    (s.judgeCheck p r x).work = { s.work with pocket := update s.work.pocket p .idle } := by
  have hd := s.work_checkDecision hh hs
  dsimp only [State.judgeCheck]
  split
  · refine State.work_setLive_idle hd p ?_
    rw [State.checkDoneTest_work]
    rfl
  · refine State.work_setLive_idle hd p ?_
    rfl

theorem State.work_keepReading (p : Fin 24) (r : LiveRecord) (openPair : Bool) {h : Head}
    (hh : (s.head h).request = none) (hs : (s.head h).work = .resting) (range : Fin 7)
    (raw : Option (BitVec 24 × Byte)) :
    (s.keepReading p r openPair h range raw).work = { s.work with pocket := update s.work.pocket p .idle } := by
  dsimp only [State.keepReading]
  split
  next => rw [State.work_judgePart, State.work_onHead_same _ rfl]
  next =>
    rw [State.work_judgeCheck, State.work_onHead_same _ rfl]
    · simpa [State.judge] using hh
    · rw [State.head_onHead, if_pos (by rfl)]
      exact (HeadUnit.work_congr (by rfl) (by rfl)).trans hs

/-- The record of a measurement that has ended with a reading is MEASURING no longer (R24). -/
theorem State.work_handReading {h : Head} {p : Fin 24} (hm : s.work.pocket p = .measured h)
    (hh : (s.head h).request = none) (hs : (s.head h).work = .resting) (range : Fin 7)
    (raw : Option (BitVec 24 × Byte)) :
    (s.handReading h p range raw).work = { s.work with pocket := update s.work.pocket p .idle } := by
  obtain ⟨r, hr, hph⟩ := (s.measuringAt_iff p h).mpr hm
  unfold Phase.measuringHead at hph
  split at hph
  next m openPair mark hp =>
    obtain rfl := Option.some.inj hph
    simp only [State.handReading, hr, hp, if_true]
    split
    next => exact s.work_setLive p _
    next =>
      split
      · exact s.work_applyRecall p r m
      · exact s.work_keepReading p r openPair hh hs range raw
  next => cases hph

/-- So is that of a measurement that is abandoned (R25). -/
theorem State.work_abandonRecord {h : Head} {p : Fin 24} (hm : s.work.pocket p = .measured h) (disabled : Bool) :
    (s.abandonRecord h p disabled).work = { s.work with pocket := update s.work.pocket p .idle } := by
  obtain ⟨r, hr, hph⟩ := (s.measuringAt_iff p h).mpr hm
  unfold Phase.measuringHead at hph
  split at hph
  next m openPair mark hp =>
    obtain rfl := Option.some.inj hph
    simp only [State.abandonRecord, hr, hp, if_true]
    split
    next => exact s.work_setLive p _
    next =>
      split
      · exact s.work_applyRecall p r m
      · split <;> exact State.work_setLive_idle rfl p (State.checkDoneTest_work _ _)
  next => cases hph

end

end Sys2Proof.Machine
end

section
/-! SUPPORT. Every operation on the work in flight keeps the blocks agreed on it: measurements and probes (R46, R50 to R59),
arrivals (R27, R28, R52, R107, R111, R118), feeds (R29, R30) and ejections (R121 to R127). -/

namespace Sys2Proof.Machine

open Function

/-! ### Measurements -/

/-- A head that rests, in the terms of its state and its request. -/
theorem HeadUnit.rests {u : HeadUnit} (hf : u.work ≠ .unfit) (h1 : u.state ≠ .measuring) (h2 : u.state ≠ .probing) :
    u.work = .resting := by
  have hs := HeadUnit.state_of_work hf
  cases hw : u.work with
  | resting => rfl
  | probing => exact absurd (hs.2.mpr hw) h2
  | measuring p => exact absurd (hs.1.mpr (by rw [hw]; rfl)) h1
  | unfit => exact absurd hw hf

/-- Of a head that is measuring, the work tells the pocket. -/
theorem HeadUnit.measures {u : HeadUnit} (hf : u.work ≠ .unfit) (h : u.state = .measuring) :
    ∃ p, u.work = .measuring p ∧ u.measuredPocket = some p := by
  obtain ⟨p, hp⟩ := (HeadWork.isMeasuring_iff _).mp ((HeadUnit.state_of_work hf).1.mp h)
  exact ⟨p, hp, ((u.work_measuring_iff p).mp hp).2⟩

/-- The work after a measurement of pocket `p` at `h` has ended. -/
def Work.ended (w : Work) (h : Head) (p : Fin 24) : Work :=
  { w with
    busy := update w.busy (.head h) false
    head := update w.head h .resting
    pocket := update w.pocket p .idle }

section
variable {s : State}

/-- The head and the station of a measurement that ends, before its record. -/
theorem State.work_headEnds (h : Head) {f : HeadUnit → HeadUnit} (hf : (f (s.head h)).work = .resting) :
    ((s.onHead h f).leaveBusy (.head h)).work =
      { s.work with busy := update s.work.busy (.head h) false, head := update s.work.head h .resting } := by
  rw [State.work_leaveBusy, State.work_onHead, hf]

theorem State.work_completeResult (hw : s.work.Agrees) {h : Head} {p : Fin 24} (hh : s.work.head h = .measuring p)
    (range : Fin 7) (raw : BitVec 24 × Byte) : (s.completeResult h p range raw).work = s.work.ended h p := by
  have hrest : HeadUnit.work (HeadUnit.resultTaken (s.head h)) = .resting :=
    HeadUnit.work_of_rest (by nofun) (by nofun) rfl
  have hends := State.work_headEnds h hrest
  rw [State.completeResult, State.work_handReading, hends]
  · rfl
  · rw [hends]
    exact (hw.measuring h p).mp hh
  · simp [HeadUnit.resultTaken, HeadUnit.endRequest, HeadUnit.onCounters]
  · simpa using hrest

theorem State.work_completeNoReply (hw : s.work.Agrees) {h : Head} {p : Fin 24} (hh : s.work.head h = .measuring p)
    (range : Fin 7) : (s.completeNoReply h p range).work = s.work.ended h p := by
  have hrest : HeadUnit.work (HeadUnit.noReply (s.head h)) = .resting :=
    HeadUnit.work_of_rest (by simp only [HeadUnit.noReply, HeadUnit.onCounters, HeadUnit.endRequest]; split <;> nofun)
      (by simp only [HeadUnit.noReply, HeadUnit.onCounters, HeadUnit.endRequest]; split <;> nofun) rfl
  have hends := State.work_headEnds h hrest
  have key (u : State) (hu : u.work = (s.onHead h HeadUnit.noReply).work)
      (hk : u.head h = HeadUnit.noReply (s.head h)) :
      ((u.leaveBusy (.head h)).handReading h p range none).work = s.work.ended h p := by
    have hleft : (u.leaveBusy (.head h)).work = ((s.onHead h HeadUnit.noReply).leaveBusy (.head h)).work := by
      rw [State.work_leaveBusy, State.work_leaveBusy, hu]
    rw [State.work_handReading, hleft, hends]
    · rfl
    · rw [hleft, hends]
      exact (hw.measuring h p).mp hh
    · rw [State.leaveBusy_head, hk]
      rfl
    · rw [State.leaveBusy_head, hk]
      exact hrest
  dsimp only [State.completeNoReply]
  split
  · exact key _ rfl (by simp)
  · exact key _ (by simp) (by simp)

theorem State.work_abandonMeasurement (hw : s.work.Agrees) {h : Head} {p : Fin 24}
    (hh : s.work.head h = .measuring p) {after : HeadState} (h1 : after ≠ .measuring) (h2 : after ≠ .probing)
    (disabled : Bool) : (s.abandonMeasurement h after disabled).work = s.work.ended h p := by
  have hrest : HeadUnit.work ((s.head h).abandon after) = .resting := HeadUnit.work_of_rest h1 h2 rfl
  have hends := State.work_headEnds (f := fun u => u.abandon after) h hrest
  have hp : (s.head h).measuredPocket = some p := (((s.head h).work_measuring_iff p).mp hh).2
  have hleft : (if after.inService then (s.onHead h fun u => u.abandon after).leaveBusy (.head h)
      else ((s.onHead h fun u => u.abandon after).leaveBusy (.head h)).headLeft).work =
      { s.work with busy := update s.work.busy (.head h) false, head := update s.work.head h .resting } := by
    split
    · exact hends
    · exact (State.work_headLeft _).trans hends
  dsimp only [State.abandonMeasurement]
  rw [hp, State.work_abandonRecord, hleft]
  · rfl
  · rw [hleft]
    exact (hw.measuring h p).mp hh

end

namespace Work.Agrees

variable {s : State}

theorem ended {w : Work} (hw : w.Agrees) {h : Head} {p : Fin 24} (hh : w.head h = .measuring p) :
    (w.ended h p).Agrees :=
  hw.measurementEnds hh

theorem completeResult (hw : s.work.Agrees) {h : Head} {p : Fin 24} (hh : s.work.head h = .measuring p)
    (range : Fin 7) (raw : BitVec 24 × Byte) : (s.completeResult h p range raw).work.Agrees := by
  rw [State.work_completeResult hw hh]
  exact hw.ended hh

theorem completeNoReply (hw : s.work.Agrees) {h : Head} {p : Fin 24} (hh : s.work.head h = .measuring p)
    (range : Fin 7) : (s.completeNoReply h p range).work.Agrees := by
  rw [State.work_completeNoReply hw hh]
  exact hw.ended hh

/-- A head that holds no measurement takes a state at rest (R50, R51). -/
theorem headRests (hw : s.work.Agrees) {h : Head} (hh : ∀ p, s.work.head h ≠ .measuring p) {f : HeadUnit → HeadUnit}
    (hf : (f (s.head h)).work = .resting ∨ (f (s.head h)).work = .probing) : (s.onHead h f).work.Agrees := by
  rw [State.work_onHead]
  exact hw.headTurns hh hf

/-- A head changed but for its state and what it requests. -/
theorem headSame (hw : s.work.Agrees) {h : Head} {f : HeadUnit → HeadUnit}
    (hf : (f (s.head h)).work = (s.head h).work) : (s.onHead h f).work.Agrees := by
  rw [State.work_onHead_same s hf]
  exact hw

theorem ident_not_measuring (hw : s.work.Agrees) {h : Head} {sent : Bool}
    (hq : (s.head h).request = some ⟨.ident, sent⟩) (p : Fin 24) : s.work.head h ≠ .measuring p := by
  have hp : s.work.head h = .probing := HeadUnit.work_of_ident (hw.fit h) hq
  rw [hp]
  nofun

theorem completeProbe (hw : s.work.Agrees) {h : Head} {sent : Bool} (hq : (s.head h).request = some ⟨.ident, sent⟩)
    (maxRange : Byte) : (s.completeProbe h maxRange).work.Agrees := by
  refine hw.headRests (hw.ident_not_measuring hq) (.inl ?_)
  dsimp only
  split <;> exact HeadUnit.work_of_rest (by simp [HeadUnit.endRequest]) (by simp [HeadUnit.endRequest]) rfl

theorem takeHeadFrame (hw : s.work.Agrees) (h : Head) (f : HeadFrame) : (s.takeHeadFrame h f).work.Agrees := by
  unfold State.takeHeadFrame
  split
  next p range aperture tag code status hq =>
    split
    · exact hw.completeResult (HeadUnit.work_of_measure (hw.fit h) hq) range _
    · exact hw.headSame rfl
  next tag maxRange hq =>
    split
    · exact hw.completeProbe hq maxRange
    · exact hw.headSame rfl
  next => exact hw.headSame rfl

theorem receiveByte (hw : s.work.Agrees) (h : Head) (b : Byte) : (s.receiveByte h b).work.Agrees := by
  unfold State.receiveByte
  split
  next => split <;> exact hw.headSame rfl
  next =>
    split
    next f _ => exact takeHeadFrame (hw.headSame rfl) h f
    next => exact hw.headSame rfl
  next => exact hw

theorem receiveFrame (hw : s.work.Agrees) (h : Head) (f : HeadFrame) : (s.receiveFrame h f).work.Agrees := by
  unfold State.receiveFrame
  split
  next => exact hw.takeHeadFrame h f
  next =>
    split
    · exact takeHeadFrame (hw.headSame rfl) h f
    · exact hw
  next => exact hw

theorem responseTimeout (hw : s.work.Agrees) (h : Head) : (s.responseTimeout h).work.Agrees := by
  unfold State.responseTimeout
  split
  · split
    next p range aperture sent hq => exact hw.completeNoReply (HeadUnit.work_of_measure (hw.fit h) hq) range
    next hq =>
      rw [State.work_raiseLost]
      exact hw.headRests (hw.ident_not_measuring hq) (.inl (HeadUnit.work_of_rest (by nofun) (by nofun) rfl))
    next => exact hw
  · exact hw

/-- A measurement in flight at `h` is abandoned, if there is one. -/
theorem abandonAt (hw : s.work.Agrees) (h : Head) :
    (s.abandonAt h).work.Agrees ∧ (s.abandonAt h).work.dial = s.work.dial ∧
      (s.abandonAt h).work.busy = update s.work.busy (.head h) false := by
  unfold State.abandonAt
  split
  next hm =>
    obtain ⟨p, hp, -⟩ := HeadUnit.measures (hw.fit h) hm
    rw [State.work_abandonMeasurement hw hp (by nofun) (by nofun)]
    exact ⟨hw.ended hp, rfl, rfl⟩
  next hm =>
    have hidle : s.work.busy (.head h) = false := by
      rw [hw.heads h, Bool.eq_false_iff]
      exact fun h' => hm ((HeadUnit.state_of_work (hw.fit h)).1.mpr h')
    exact ⟨hw, rfl, (update_same s.work.busy hidle.symm).symm⟩

/-- After the abandonment no head is in the busy set, and no other station has joined it (R9, R11). -/
theorem abandonAll (hw : s.work.Agrees) :
    s.abandonAll.work.Agrees ∧ s.abandonAll.work.dial = s.work.dial ∧
      (∀ h, s.abandonAll.work.busy (.head h) = false) ∧
      ∀ st, s.work.busy st = false → s.abandonAll.work.busy st = false := by
  obtain ⟨ha, hda, hba⟩ := hw.abandonAt .a
  obtain ⟨hb, hdb, hbb⟩ := ha.abandonAt .b
  refine ⟨hb, hdb.trans hda, fun h => ?_, fun st hst => ?_⟩
  · show ((s.abandonAt .a).abandonAt .b).work.busy (.head h) = false
    rw [hbb, hba]
    cases h <;> simp
  · show ((s.abandonAt .a).abandonAt .b).work.busy st = false
    rw [hbb, hba]
    exact update_busy_false (update_busy_false hst)

/-! ### The tests of R4 and R5 -/

theorem onDial (hw : s.work.Agrees) {f : Dial → Dial} (hf : (f s.dial).busy = s.dial.busy)
    (hs : (f s.dial).state = s.dial.state) : (s.onDial f).work.Agrees := by
  rw [s.work_onDial hf]
  exact hw.dialTurns (fun h => hw.settled (by rwa [hs] at h)) (fun h => hw.still (by rwa [hs] at h))

/-- With nothing busy the dial may take any state. -/
theorem onDial_empty (hw : s.work.Agrees) {f : Dial → Dial} (hf : (f s.dial).busy = s.dial.busy)
    (hb : s.busyEmpty = true) : (s.onDial f).work.Agrees := by
  rw [s.work_onDial hf]
  exact hw.dialTurns (fun _ => s.busyEmpty_iff.mp hb) (fun _ h => s.busyEmpty_iff.mp hb _)

theorem endDwellTest (hw : s.work.Agrees) : s.endDwellTest.work.Agrees := by
  unfold State.endDwellTest
  split
  next hover =>
    obtain ⟨-, -, hempty⟩ := s.dwellOver_iff.mp hover
    split
    · exact onDial_empty (hw.onDial_empty rfl hempty) rfl hempty
    · split
      · exact hw.onDial_empty rfl hempty
      · exact hw.onDial_empty rfl hempty
  next => exact hw

theorem heldTest (hw : s.work.Agrees) : s.heldTest.work.Agrees := by
  unfold State.heldTest
  split
  next h =>
    have hheld : s.dial.state = .held := by
      revert h
      cases s.dial.state <;> simp
    exact hw.onDial_empty rfl (s.busyEmpty_iff.mpr (hw.settled (.inl hheld)))
  next => exact hw

theorem reportSevere (hw : s.work.Agrees) (before : State) : (s.reportSevere before).work.Agrees := by
  unfold State.reportSevere
  split
  · exact hw.heldTest
  · exact hw

theorem disableHead (hw : s.work.Agrees) (h : Head) : (s.disableHead h).work.Agrees := by
  have hfit := hw.fit h
  have hnot (hs : (s.head h).state ≠ .measuring) (p : Fin 24) : s.work.head h ≠ .measuring p :=
    fun hm => hs (((s.head h).work_measuring_iff p).mp hm).1
  unfold State.disableHead
  split
  next => exact hw
  next hs => exact hw.headRests (hnot (by simp [hs])) (.inl (HeadUnit.work_of_rest (by nofun) (by nofun) rfl))
  next hs =>
    rw [State.work_headLeft]
    have hq : (s.head h).request = none := by
      have := HeadUnit.rests hfit (by simp [hs]) (by simp [hs])
      rw [HeadUnit.work, hs] at this
      cases hq : (s.head h).request with
      | none => rfl
      | some q =>
        rw [hq] at this
        cases this
    exact hw.headRests (hnot (by simp [hs])) (.inl (HeadUnit.work_of_rest (by nofun) (by nofun) hq))
  next hs =>
    obtain ⟨p, hp, -⟩ := HeadUnit.measures hfit hs
    refine endDwellTest ?_
    rw [State.work_abandonMeasurement hw hp (by nofun) (by nofun)]
    exact hw.ended hp

end Work.Agrees

end Sys2Proof.Machine
end

section
/-! SUPPORT. The arrivals of a dwell, the feeds and the ejections keep the blocks agreed on the work in flight (R27 to R30,
R33, R52, R107, R111, R118, R119, R121 to R127). -/

namespace Sys2Proof.Machine

open Function

/-! ### Records written over records -/

/-- A pocket record that holds nothing of the work, written over another. -/
theorem State.work_setPocket_same (s : State) {p : Fin 24} {x : PocketRecord} (hx : x.work = .idle)
    (hp : s.work.pocket p = .idle) : (s.setPocket p x).work = s.work := by
  rw [State.work_setPocket, hx]
  exact congrArg (fun g => { s.work with pocket := g }) (update_same s.work.pocket hp.symm)

theorem State.work_setLive_same (s : State) {p : Fin 24} {r : LiveRecord} (hr : r.phase.work = .idle)
    (hp : s.work.pocket p = .idle) : (s.setLive p r).work = s.work :=
  s.work_setPocket_same (x := .live r) hr hp

/-- What the record of a pocket holds of the work. -/
theorem State.work_pocket_live {s : State} {p : Fin 24} {r : LiveRecord} (h : s.pocket p = .live r) :
    s.work.pocket p = r.phase.work := by
  show (s.pocket p).work = _
  rw [h]
  rfl

theorem State.work_pocket_of {s : State} {p : Fin 24} {x : PocketRecord} (h : s.pocket p = x) :
    s.work.pocket p = x.work := by
  show (s.pocket p).work = _
  rw [h]

/-! ### Firing -/

theorem State.work_fireEjector (s : State) (c : Chute) (p : Fin 24) (sweep : Bool) :
    (s.fireEjector c p sweep).work =
      { s.work with
        busy := update s.work.busy (.eject c) true
        ejector := update s.work.ejector c (.fired p sweep) } := by
  rw [State.fireEjector, State.work_joinBusy, State.work_onEjector]

/-! ### The arrivals of a dwell -/

/-- A dwell goes on with its blocks agreed. -/
def State.Dwells (s : State) : Prop := s.work.Agrees ∧ s.dial.state = .dwell

namespace State.Dwells

variable {s : State}

theorem of_same {t : State} (h : s.Dwells) (hw : t.work = s.work) : t.Dwells :=
  ⟨hw ▸ h.1, (congrArg Work.dial hw).trans h.2⟩

/-- An arrival at LOAD counts a lap, or begins a feed (R27, R28). -/
theorem arriveLoad (h : s.Dwells) : s.arriveLoad.Dwells := by
  have hlap {p : Fin 24} {r : LiveRecord} (hr : s.pocket p = .live r) (hi : r.phase.work = .idle) :
      (s.setLive p (s.banks.active.countLap r)).Dwells :=
    h.of_same (s.work_setLive_same (Recipe.countLap_work _ hi) ((State.work_pocket_live hr).trans hi))
  dsimp only [State.arriveLoad]
  split
  next =>
    split
    · refine ⟨?_, h.2⟩
      rw [State.beginFeed, State.work_joinBusy, State.work_onFeed]
      exact h.1.feedTurns true fun _ => h.2
    · exact h
  next => exact h
  next r hr =>
    split
    next hp => exact hlap hr (by rw [hp]; rfl)
    next hp => exact hlap hr (by rw [hp]; rfl)
    next hp => exact hlap hr (by rw [hp]; rfl)
    all_goals exact h

/-- An arrival at a head station begins a measurement, or sends the record to the other head (R52, R53). -/
theorem arriveHead (h : s.Dwells) (k : Head) : (s.arriveHead k).Dwells := by
  dsimp only [State.arriveHead]
  split
  next r hr =>
    split
    next dest openPair hp =>
      have hidle : s.work.pocket (s.pocketAt (Config.offsetHead k)) = .idle := by
        rw [State.work_pocket_live hr, hp]
        rfl
      split
      · split
        next hs =>
          refine ⟨?_, h.2⟩
          have hrest : s.work.head k = .resting := HeadUnit.rests (h.1.fit k) (by simp [hs]) (by simp [hs])
          rw [State.beginMeasurement, State.work_setLive, State.work_joinBusy, State.work_onHead]
          exact h.1.measurementBegins h.2 hrest hidle
        next => exact h
        next =>
          split
          · exact h.of_same (s.work_setLive_same (by rw [State.checkDoneTest_work]; rfl) hidle)
          · exact h
      · exact h
    next => exact h
  next => exact h

/-- A record that stands at a station whose ejector is idle is fired there (R118, R119). -/
theorem fire (h : s.Dwells) {c : Chute} (hc : s.isBusy (.eject c) = false) {p : Fin 24} {r : LiveRecord}
    (hr : s.pocket p = .live r) (hi : r.phase.work = .idle) {e : Ejecting} (he : e.chute = c) :
    ((s.fireEjector c p false).setLive p { r with phase := .ejecting e }).Dwells := by
  refine ⟨?_, h.2⟩
  subst he
  rw [State.work_setLive, State.work_fireEjector]
  exact h.1.fires h.2 hc ((State.work_pocket_live hr).trans hi)

theorem arriveGate (h : s.Dwells) {g : Fin 12} (hc : s.isBusy (.eject (.gate g)) = false) :
    (s.arriveGate g).Dwells := by
  dsimp only [State.arriveGate]
  split
  next r hr =>
    split
    next hp _ =>
      split
      · split
        · exact h.fire hc hr (by rw [hp]; rfl) rfl
        · exact h
      · exact h
    next => exact h
  next => exact h

theorem arriveCheckReturn (h : s.Dwells) (hc : s.isBusy (.eject .checkReturn) = false) :
    s.arriveCheckReturn.Dwells := by
  dsimp only [State.arriveCheckReturn]
  split
  next r hr =>
    split
    next hp => exact h.fire hc hr (by rw [hp]; rfl) rfl
    next => exact h.of_same (by simp [State.passUnsorted])
    next => exact h
  next => exact h

theorem arrivePurge (h : s.Dwells) (hc : s.isBusy (.eject .purge) = false) : s.arrivePurge.Dwells := by
  dsimp only [State.arrivePurge]
  split
  next =>
    refine ⟨?_, h.2⟩
    rw [State.work_fireEjector]
    exact h.1.firesSweep _ h.2 hc
  next => exact h
  next r hr =>
    split
    next hp => exact h.fire hc hr (by rw [hp]; rfl) rfl
    next => exact h

theorem arriveEmptyCheck (h : s.Dwells) (sensed : Bool) : (s.arriveEmptyCheck sensed).Dwells := by
  have hset {u : State} (hu : u.work = s.work) {p : Fin 24} {x : PocketRecord} (hx : x.work = .idle)
      (hp : s.work.pocket p = .idle) : (u.setPocket p x).work = s.work :=
    (u.work_setPocket_same hx (by rw [hu, hp])).trans hu
  have hlost {p : Fin 24} {r : LiveRecord} (hr : s.pocket p = .live r) (hi : r.phase.work = .idle) :
      (s.lostPart p r).drainTest.Dwells := by
    refine h.of_same ?_
    rw [State.work_drainTest, State.lostPart, State.work_reportPart]
    exact hset (by simp) rfl ((State.work_pocket_live hr).trans hi)
  dsimp only [State.arriveEmptyCheck]
  split
  next hp =>
    refine h.of_same ?_
    rw [State.work_drainTest, State.strayPart]
    exact hset (by simp) rfl (State.work_pocket_of hp)
  next => exact h
  next => exact h
  next hp =>
    refine h.of_same ?_
    rw [State.work_drainTest]
    exact hset rfl rfl (State.work_pocket_of hp)
  next => exact h
  next r hr =>
    split
    next => exact h
    next => exact h
    all_goals
      next hp => exact hlost hr (by rw [hp]; rfl)

/-- Each station's own arrival keeps the dwell. -/
theorem ownArrival (h : s.Dwells) (st : Station) : (s.ownArrival st).Dwells := by
  unfold State.ownArrival
  split
  · exact h
  next hb =>
    have hfree := Bool.eq_false_iff.mpr hb
    split
    · exact h.arriveLoad
    · exact h.arriveHead _
    · exact h.arriveGate hfree
    · exact h.arriveCheckReturn hfree
    · exact h.arrivePurge hfree

theorem arriveGates (h : s.Dwells) : s.arriveGates.Dwells := by
  unfold State.arriveGates
  induction List.finRange 12 generalizing s with
  | nil => exact h
  | cons g gs ih => exact ih (h.ownArrival (.eject (.gate g)))

theorem arrivals (h : s.Dwells) (sensed : Bool) : (s.arrivals sensed).Dwells :=
  ((((((h.ownArrival .load).ownArrival (.head .a)).ownArrival (.head .b)).arriveGates).ownArrival
    (.eject .checkReturn)).ownArrival (.eject .purge)).arriveEmptyCheck sensed

end State.Dwells

/-! ### The feed -/

theorem State.work_load (s : State) {f : Feed} (he : s.pocket f.target = .empty) : (s.load f).work = s.work := by
  have hidle : (s.loadRecord f).phase.work = .idle := by
    show (s.loadPhase f).work = .idle
    unfold State.loadPhase
    split
    · rfl
    · split <;> rfl
  have hset : (s.setLive f.target (s.loadRecord f)).work = s.work :=
    s.work_setLive_same hidle (State.work_pocket_of he)
  have hreport (u : State) : (u.reportLoad f).work = u.work := by
    unfold State.reportLoad
    split <;> split <;> rfl
  have hcount (u : State) : (u.countLoad f).work = u.work := by
    unfold State.countLoad
    split <;> rfl
  rw [State.load, hcount, hreport, hset]

theorem State.work_countFeedMiss (s : State) : s.countFeedMiss.work = s.work := by
  unfold State.countFeedMiss
  split <;> rfl

theorem State.work_countCheckFeedMiss (s : State) : s.countCheckFeedMiss.work = s.work := by
  unfold State.countCheckFeedMiss
  split <;> rfl

namespace Work.Agrees

variable {s : State}

theorem endFeed (hw : s.work.Agrees) : s.endFeed.work.Agrees := by
  rw [State.endFeed, State.work_leaveBusy, State.work_onFeed]
  exact hw.feedTurns false nofun

theorem loadSense (hw : s.work.Agrees) : s.loadSense.work.Agrees := by
  unfold State.loadSense
  split
  next f _ =>
    split
    · have hends : (s.endFeed.onFeed fun u => u.clearMisses f.kind).work.Agrees := by
        have hsame : (s.endFeed.onFeed fun u => u.clearMisses f.kind).work = s.endFeed.work := by
          cases f.kind <;> rfl
        rw [hsame]
        exact hw.endFeed
      dsimp only
      split
      next he => rw [State.work_drainTest, State.work_load (s.endFeed.onFeed _) he]; exact hends
      next => rw [State.work_drainTest]; exact hends
    · exact hw
  next => exact hw

theorem feedMiss (hw : s.work.Agrees) : s.feedMiss.work.Agrees := by
  unfold State.feedMiss
  split
  next f _ =>
    split
    · split
      · rw [State.work_drainTest, State.work_countFeedMiss]
        exact hw.endFeed
      · rw [State.work_drainTest, State.work_countCheckFeedMiss]
        exact hw.endFeed
    · exact hw
  next => exact hw

end Work.Agrees

/-! ### The end of an ejection -/

section
variable (s : State)

@[simp] theorem State.work_fillBin (g : Fin 12) : (s.fillBin g).work = s.work := by
  simp [State.fillBin]

theorem State.work_confirmGate {g : Fin 12} {p : Fin 24} {r : LiveRecord} (hr : s.pocket p = .live r) :
    (s.confirmGate g p).work = { s.work with pocket := update s.work.pocket p .idle } := by
  simp only [State.confirmGate, hr]
  split
  · rw [State.binPart, State.work_onCheck, State.work_fillBin, State.work_reportPart, State.work_setPocket]
    rfl
  · rw [State.spillPart, State.work_onBin, State.work_reportPart, State.work_setPocket]
    rfl

theorem State.work_confirmReturn {p : Fin 24} {r : LiveRecord} (hr : s.pocket p = .live r) :
    (s.confirmReturn p).work = { s.work with pocket := update s.work.pocket p .idle } := by
  simp only [State.confirmReturn, hr, State.countReturn]
  split
  · rw [State.work_onCounters, State.work_setPocket]
    rfl
  · rw [State.work_setPocket]
    rfl

theorem State.work_confirmPurge {p : Fin 24} {r : LiveRecord} (hr : s.pocket p = .live r) :
    (s.confirmPurge p false).work = { s.work with pocket := update s.work.pocket p .idle } := by
  have hmisses : (s.onGates fun u => { u with purgeMisses := 0 }).work = s.work := s.work_onGates rfl
  simp only [State.confirmPurge, hr, State.countPurge, Bool.false_eq_true, if_false]
  split
  · rw [State.work_reportPart, State.work_setPocket, hmisses]
    rfl
  · rw [State.work_setPocket, hmisses]
    rfl

theorem State.work_confirm {c : Chute} {p : Fin 24} {r : LiveRecord} (hr : s.pocket p = .live r) :
    (s.confirm c p false).work = { s.work with pocket := update s.work.pocket p .idle } := by
  cases c with
  | gate g => exact s.work_confirmGate hr
  | checkReturn => exact s.work_confirmReturn hr
  | purge => exact s.work_confirmPurge hr

/-- A sweep leaves nothing of the work in its pocket, where there was nothing (R36, R124). -/
theorem State.work_confirm_sweep (p : Fin 24) : (s.confirm .purge p true).work = s.work := by
  have hmisses : (s.onGates fun u => { u with purgeMisses := 0 }).work = s.work := s.work_onGates rfl
  simp only [State.confirm, State.confirmPurge, if_true, State.work_onCounters]
  split
  next hu =>
    rw [State.work_setPocket_same _ rfl, hmisses]
    rw [hmisses]
    exact State.work_pocket_of hu
  next => exact hmisses

theorem State.work_countGateMiss (g : Fin 12) : (s.countGateMiss g).work = s.work := by
  dsimp only [State.countGateMiss]
  split <;> rfl

theorem State.work_countPurgeMiss : s.countPurgeMiss.work = s.work := by
  have hmisses (n : Nat) : (s.onGates fun u => { u with purgeMisses := n }).work = s.work := s.work_onGates rfl
  dsimp only [State.countPurgeMiss]
  split
  · rw [State.work_raise, hmisses]
  · exact hmisses _

theorem State.work_missGate {g : Fin 12} {p : Fin 24} {r : LiveRecord} (hr : s.pocket p = .live r) :
    (s.missGate g p).work = { s.work with pocket := update s.work.pocket p .idle } := by
  simp only [State.missGate, hr]
  rw [State.work_countGateMiss, State.work_raisePocket, State.work_setLive]
  rfl

theorem State.work_missReturn {p : Fin 24} {r : LiveRecord} (hr : s.pocket p = .live r) :
    (s.missReturn p).work = { s.work with pocket := update s.work.pocket p .idle } := by
  simp only [State.missReturn, hr]
  rw [State.work_setLive]
  rfl

/-- A phase that is EJECTING at PG holds its purge reason. -/
theorem Phase.of_ejected_purge {x : Phase} (h : x.work = .ejected .purge) : ∃ reason, x = .ejecting (.purge reason) :=
  Phase.eq_ejecting_purge ((x.work_ejected_iff .purge).mp h)

theorem State.work_missPurge {p : Fin 24} {r : LiveRecord} (hr : s.pocket p = .live r)
    (hp : r.phase.work = .ejected .purge) :
    (s.missPurge p false).work = { s.work with pocket := update s.work.pocket p .idle } := by
  obtain ⟨reason, hph⟩ := Phase.of_ejected_purge hp
  simp only [State.missPurge, hr, hph, Bool.false_eq_true, if_false]
  rw [State.work_countPurgeMiss, State.work_setLive]
  rfl

theorem State.work_miss {c : Chute} {p : Fin 24} {r : LiveRecord} (hr : s.pocket p = .live r)
    (hp : r.phase.work = .ejected c) :
    (s.miss c p false).work = { s.work with pocket := update s.work.pocket p .idle } := by
  cases c with
  | gate g => exact s.work_missGate hr
  | checkReturn => exact s.work_missReturn hr
  | purge => exact s.work_missPurge hr hp

end

namespace Work.Agrees

variable {s : State}

/-- The record that an ejector has fired. -/
theorem exists_fired (hw : s.work.Agrees) {c : Chute} {p : Fin 24} (hf : (s.ejector c).state = .fired p false) :
    ∃ r, s.pocket p = .live r ∧ r.phase.work = .ejected c := by
  obtain ⟨r, hr, hph⟩ := (s.ejectingAt_iff p c).mpr ((hw.ejecting c p).mp hf)
  exact ⟨r, hr, (r.phase.work_ejected_iff c).mpr hph⟩

theorem chutePulse (hw : s.work.Agrees) (c : Chute) : (s.chutePulse c).work.Agrees := by
  have hends : ((s.onEjector c fun e => { e with state := .settling }).leaveBusy (.eject c)).work =
      { s.work with
        busy := update s.work.busy (.eject c) false
        ejector := update s.work.ejector c .settling } := by
    rw [State.work_leaveBusy, State.work_onEjector]
  unfold State.chutePulse
  split
  next => rw [State.work_onEjector_same _ rfl]; exact hw
  next p sweep hf =>
    rw [State.work_drainTest]
    cases sweep with
    | false =>
      obtain ⟨r, hr, -⟩ := hw.exists_fired hf
      rw [State.work_confirm _ (r := r) (by simpa using hr), hends]
      exact hw.ejectionEnds hf rfl
    | true =>
      obtain rfl := hw.sweeps c p hf
      rw [State.work_confirm_sweep, hends]
      exact hw.sweepEnds hf rfl
  next => exact hw

theorem windowExpiry (hw : s.work.Agrees) (c : Chute) : (s.windowExpiry c).work.Agrees := by
  have hidle : (s.onEjector c fun e => { e with state := .idle, windowTimer := .stopped }).work =
      { s.work with ejector := update s.work.ejector c .idle } := s.work_onEjector c _
  have hends : ((s.onEjector c fun e => { e with state := .idle, windowTimer := .stopped }).leaveBusy
      (.eject c)).work =
      { s.work with
        busy := update s.work.busy (.eject c) false
        ejector := update s.work.ejector c .idle } := by
    rw [State.work_leaveBusy, State.work_onEjector]
  dsimp only [State.windowExpiry]
  split
  next => exact hw
  next p sweep hf =>
    cases sweep with
    | false =>
      obtain ⟨r, hr, hp⟩ := hw.exists_fired hf
      rw [State.work_miss _ (r := r) (by simpa using hr) hp, hends]
      exact hw.ejectionEnds hf rfl
    | true =>
      obtain rfl := hw.sweeps c p hf
      show ((s.onEjector .purge _).leaveBusy _).work.Agrees
      rw [hends]
      exact hw.sweepEnds hf rfl
  next hset =>
    rw [hidle]
    refine hw.ejectorTurns ?_ rfl
    show (s.ejector c).state.isFired = false
    rw [hset]
    rfl

end Work.Agrees

end Sys2Proof.Machine
end

section
/-! SUPPORT. Every operation keeps each live record of a kind that its state admits (R19): a record at CR or on its way there
is a CHECK, and one graded is a PART. -/

namespace Sys2Proof.Machine

/-! ### One record -/

theorem LiveRecord.kindFits_congr {r t : LiveRecord} (h : r.kindFits) (hp : t.phase = r.phase) (hk : t.kind = r.kind)
    (hc : t.cls.isSome = r.cls.isSome) (hg : t.grading.isSome = r.grading.isSome) : t.kindFits := by
  unfold LiveRecord.kindFits at h ⊢
  rw [hp, hk, hc, hg]
  exact h

theorem LiveRecord.kindFits_purge (r : LiveRecord) (reason : PurgeReason) : (r.purge reason).kindFits := trivial

theorem State.checkDoneTest_kindFits {r : LiveRecord} (h : r.kindFits) (s : State) : (s.checkDoneTest r).kindFits := by
  unfold State.checkDoneTest
  split
  next hd =>
    rw [State.checkIsDone, Bool.and_eq_true, Bool.and_eq_true, Bool.and_eq_true, Bool.and_eq_true] at hd
    obtain ⟨⟨⟨⟨hk, -⟩, -⟩, -⟩, -⟩ := hd
    exact eq_of_beq hk
  next => exact h

theorem LiveRecord.recallTo_kindFits (r : LiveRecord) (other : Head) (inService : Bool) :
    (r.recallTo other inService).kindFits := by
  unfold LiveRecord.recallTo
  split <;> trivial

theorem State.recallRecord_kindFits {r : LiveRecord} (h : r.kindFits) (s : State) (failed : Head)
    (epoch : BitVec 16) : (s.recallRecord failed epoch r).kindFits := by
  unfold State.recallRecord
  split
  · split
    next => exact LiveRecord.recallTo_kindFits _ _ _
    next => exact LiveRecord.recallTo_kindFits _ _ _
    next hp =>
      unfold LiveRecord.kindFits
      dsimp only
      rw [hp]
      trivial
    all_goals exact h
  · exact h

theorem State.gradeRecord_kindFits (s : State) {r : LiveRecord} (hk : r.kind = .part) (g : Grading) :
    (s.gradeRecord r g).kindFits := by
  unfold State.gradeRecord
  split
  next => exact ⟨hk, rfl, rfl⟩
  next => trivial

theorem State.afterAttempt_kindFits (s : State) {r : LiveRecord} (hk : r.kind = .part) (h : Head)
    (verdict : Option Grading) : (s.afterAttempt r h verdict).1.kindFits := by
  dsimp only [State.afterAttempt]
  split
  next => exact s.gradeRecord_kindFits (r := { r with attempts := r.attempts + 1 }) hk _
  next => split <;> trivial

theorem Recipe.countLap_kindFits {r : LiveRecord} (h : r.kindFits) (rec : Recipe) : (rec.countLap r).kindFits := by
  dsimp only [Recipe.countLap]
  split
  · trivial
  · exact LiveRecord.kindFits_congr h rfl rfl rfl rfl

theorem LiveRecord.lowerLap_kindFits {r : LiveRecord} (h : r.kindFits) (limit : Nat) : (r.lowerLap limit).kindFits := by
  unfold LiveRecord.lowerLap
  split
  · exact LiveRecord.kindFits_congr h rfl rfl rfl rfl
  · exact h

theorem LiveRecord.abort_kindFits {r : LiveRecord} (h : r.kindFits) : r.abort.kindFits := by
  unfold LiveRecord.abort
  split
  case h_2 => exact h
  all_goals trivial

theorem LiveRecord.softReset_kindFits {r : LiveRecord} (h : r.kindFits) : r.softReset.kindFits := by
  unfold LiveRecord.softReset
  split
  · exact h
  · trivial

/-! ### Every record -/

namespace State.KindsFit

variable {s : State}

theorem of_same {t : State} (h : s.KindsFit) (hp : t.pockets = s.pockets) : t.KindsFit := by
  intro p r hr
  refine h p r ?_
  unfold State.pocket at hr ⊢
  rwa [hp] at hr

theorem setPocket (h : s.KindsFit) (p : Fin 24) {x : PocketRecord} (hx : ∀ r, x = .live r → r.kindFits) :
    (s.setPocket p x).KindsFit := by
  intro q r hr
  rw [State.pocket_setPocket] at hr
  split at hr
  next => exact hx r hr
  next => exact h q r hr

theorem setLive (h : s.KindsFit) (p : Fin 24) {r : LiveRecord} (hr : r.kindFits) : (s.setLive p r).KindsFit :=
  h.setPocket p fun _ he => PocketRecord.live.inj he ▸ hr

theorem setEmpty (h : s.KindsFit) (p : Fin 24) : (s.setPocket p .empty).KindsFit := 
  h.setPocket p fun _ he => nomatch he

theorem setUnknown (h : s.KindsFit) (p : Fin 24) : (s.setPocket p .unknown).KindsFit := 
  h.setPocket p fun _ he => nomatch he

theorem mapLive (h : s.KindsFit) {f : LiveRecord → LiveRecord} (hf : ∀ r, r.kindFits → (f r).kindFits) :
    (s.mapLive fun r => .live (f r)).KindsFit := by
  intro p r hr
  rw [State.pocket_mapLive] at hr
  split at hr
  next r0 h0 => exact PocketRecord.live.inj hr ▸ hf r0 (h p r0 h0)
  next hne => exact absurd hr (hne r)

/-! #### Measurements -/

theorem headLeft (h : s.KindsFit) : s.headLeft.KindsFit := h.mapLive fun _ hr => State.checkDoneTest_kindFits hr s

theorem recalled (h : s.KindsFit) (failed : Head) (epoch : BitVec 16) : (s.recall failed epoch).KindsFit :=
  (h.mapLive fun _ hr => State.recallRecord_kindFits hr s failed epoch).of_same (by simp [State.recall])

theorem applyRecall (h : s.KindsFit) (p : Fin 24) (r : LiveRecord) (k : Head) : (s.applyRecall p r k).KindsFit :=
  
  (h.setLive p (r.clearRecallPending.recallTo_kindFits k (s.inService k))).of_same (by simp [State.applyRecall])

theorem onHead (h : s.KindsFit) (k : Head) (f : HeadUnit → HeadUnit) : (s.onHead k f).KindsFit := h

theorem raiseHead (h : s.KindsFit) (c : HeadCapture) : (s.raiseHead c).KindsFit := h

theorem nextEpoch (h : s.KindsFit) (k : Head) : (s.nextEpoch k).KindsFit := h

theorem onCheck (h : s.KindsFit) (f : CheckUnit → CheckUnit) : (s.onCheck f).KindsFit := h

theorem checkFail (h : s.KindsFit) (k : Head) (drift : Int) : (s.checkFail k drift).KindsFit :=
  ((((h.onHead k _).headLeft).raiseHead _).recalled k (s.head k).epoch).nextEpoch k

theorem checkDecision (h : s.KindsFit) (x : Reading) : (s.checkDecision x).KindsFit := by
  unfold State.checkDecision
  split
  next =>
    dsimp only
    split
    · exact (h.onCheck _).nextEpoch _
    · exact (h.onCheck _).checkFail _ _
  next => exact h.onCheck _

theorem judgePart (h : s.KindsFit) (p : Fin 24) {r : LiveRecord} (hk : r.kind = .part) (openPair : Bool)
    (x : Reading) : (s.judgePart p r openPair x).KindsFit := by
  have hattempt (attempt : Attempt) (verdict : Option Grading) :
      (s.completeAttempt p r x attempt verdict).KindsFit := by
    have hfits : ((s.afterAttempt (r.append x) x.head verdict).1.degrade
        (s.banks.active.substitutedFor r x.head attempt)).kindFits :=
      LiveRecord.kindFits_congr (s.afterAttempt_kindFits (r := r.append x) hk x.head verdict) rfl rfl rfl rfl
    exact (h.setLive p hfits).of_same (by simp)
  unfold State.judgePart
  split
  next => exact h.setLive p trivial
  next => exact hattempt _ _
  next => exact hattempt _ _

theorem judgeCheck (h : s.KindsFit) (p : Fin 24) {r : LiveRecord} (hk : r.kind = .check) (x : Reading) :
    (s.judgeCheck p r x).KindsFit := by
  dsimp only [State.judgeCheck]
  split
  · exact (h.checkDecision x).setLive p (State.checkDoneTest_kindFits (by trivial) _)
  · exact (h.checkDecision x).setLive p hk

theorem handReading (h : s.KindsFit) (k : Head) (p : Fin 24) (range : Fin 7) (raw : Option (BitVec 24 × Byte)) :
    (s.handReading k p range raw).KindsFit := by
  unfold State.handReading
  split
  next r hr =>
    split
    next m openPair mark hm =>
      split
      · split
        next v => exact h.setLive p (LiveRecord.kindFits_purge _ _)
        next =>
          split
          · exact h.applyRecall p r k
          · dsimp only [State.keepReading]
            split
            next hk => exact (h.onHead k _).judgePart p hk openPair _
            next hk => exact (h.onHead k _).judgeCheck p hk _
      · exact h
    next => exact h
  next => exact h

theorem abandonRecord (h : s.KindsFit) (k : Head) (p : Fin 24) (disabled : Bool) :
    (s.abandonRecord k p disabled).KindsFit := by
  unfold State.abandonRecord
  split
  next r hr =>
    split
    next m openPair mark hm =>
      split
      · split
        next v => exact h.setLive p (LiveRecord.kindFits_purge _ _)
        next =>
          split
          · exact h.applyRecall p r k
          · split <;> exact h.setLive p (State.checkDoneTest_kindFits (by trivial) s)
      · exact h
    next => exact h
  next => exact h

theorem completeNoReply (h : s.KindsFit) (k : Head) (p : Fin 24) (range : Fin 7) :
    (s.completeNoReply k p range).KindsFit := by
  dsimp only [State.completeNoReply]
  split
  · exact handReading (s := (s.onHead k HeadUnit.noReply).leaveBusy (.head k)) h k p range none
  · exact handReading (s := (((s.onHead k HeadUnit.noReply).headLeft).raiseLost k).leaveBusy (.head k))
      (h.onHead k HeadUnit.noReply).headLeft k p range none

theorem takeHeadFrame (h : s.KindsFit) (k : Head) (f : HeadFrame) : (s.takeHeadFrame k f).KindsFit := by
  unfold State.takeHeadFrame
  split
  next =>
    split
    · exact handReading (s := (s.onHead k HeadUnit.resultTaken).leaveBusy (.head k)) h k _ _ _
    · exact h.onHead k _
  next => split <;> exact h.onHead k _
  next => exact h.onHead k _

theorem receiveByte (h : s.KindsFit) (k : Head) (b : Byte) : (s.receiveByte k b).KindsFit := by
  unfold State.receiveByte
  split
  next => split <;> exact h.onHead k _
  next =>
    split
    · exact takeHeadFrame (h.onHead k _) k _
    · exact h.onHead k _
  next => exact h

theorem receiveFrame (h : s.KindsFit) (k : Head) (f : HeadFrame) : (s.receiveFrame k f).KindsFit := by
  unfold State.receiveFrame
  split
  next => exact h.takeHeadFrame k f
  next =>
    split
    · exact takeHeadFrame (h.onHead k _) k f
    · exact h
  next => exact h

theorem responseTimeout (h : s.KindsFit) (k : Head) : (s.responseTimeout k).KindsFit := by
  unfold State.responseTimeout
  split
  · split
    next => exact h.completeNoReply k _ _
    next => exact h
    next => exact h
  · exact h

theorem abandonMeasurement (h : s.KindsFit) (k : Head) (after : HeadState) (disabled : Bool) :
    (s.abandonMeasurement k after disabled).KindsFit := by
  have hleft : (if after.inService then (s.onHead k fun u => u.abandon after).leaveBusy (.head k)
      else ((s.onHead k fun u => u.abandon after).leaveBusy (.head k)).headLeft).KindsFit := by
    split
    · exact h
    · exact headLeft (s := (s.onHead k fun u => u.abandon after).leaveBusy (.head k)) h
  dsimp only [State.abandonMeasurement]
  split
  next p _ => exact hleft.abandonRecord k p disabled
  next => exact hleft

theorem abandonAll (h : s.KindsFit) : s.abandonAll.KindsFit := by
  have hat {u : State} (hu : u.KindsFit) (k : Head) : (u.abandonAt k).KindsFit := by
    unfold State.abandonAt
    split
    · exact hu.abandonMeasurement k _ _
    · exact hu
  exact hat (hat h .a) .b

theorem endDwellTest (h : s.KindsFit) : s.endDwellTest.KindsFit := h.of_same (by simp)

theorem reportSevere (h : s.KindsFit) (before : State) : (s.reportSevere before).KindsFit := h.of_same (by simp)

theorem drainTest (h : s.KindsFit) : s.drainTest.KindsFit := h.of_same (by simp)

theorem disableHead (h : s.KindsFit) (k : Head) : (s.disableHead k).KindsFit := by
  unfold State.disableHead
  split
  next => exact h
  next => exact h.onHead k _
  next => exact headLeft (h.onHead k _)
  next => exact (h.abandonMeasurement k _ _).endDwellTest

theorem giveUpRecords (s : State) : s.giveUpRecords.KindsFit := by
  intro p r hr
  simp only [State.giveUpRecords, State.drainTest_pocket, State.onCounters_pocket, State.pocket_mapLive] at hr
  split at hr
  next => cases hr
  next hne => exact absurd hr (hne r)

/-! #### Arrivals -/

theorem arriveLoad (h : s.KindsFit) : s.arriveLoad.KindsFit := by
  dsimp only [State.arriveLoad]
  split
  next => split <;> exact h
  next => exact h
  next r hr =>
    have hlap := h.setLive (s.pocketAt Config.offsetLoad) (Recipe.countLap_kindFits (h _ r hr) s.banks.active)
    split
    next => exact hlap
    next => exact hlap
    next => exact hlap
    all_goals exact h

theorem arriveHead (h : s.KindsFit) (k : Head) : (s.arriveHead k).KindsFit := by
  dsimp only [State.arriveHead]
  split
  next r hr =>
    split
    next =>
      split
      · split
        next => exact setLive (s := (s.onHead k _).joinBusy _) h _ trivial
        next => exact h
        next =>
          split
          · exact h.setLive _ (State.checkDoneTest_kindFits (by trivial) s)
          · exact h
      · exact h
    next => exact h
  next => exact h

theorem fire (h : s.KindsFit) (c : Chute) (p q : Fin 24) (sweep : Bool) {r : LiveRecord} (hr : r.kindFits) :
    ((s.fireEjector c p sweep).setLive q r).KindsFit :=
  setLive (s := s.fireEjector c p sweep) h q hr

theorem arriveGate (h : s.KindsFit) (g : Fin 12) : (s.arriveGate g).KindsFit := by
  dsimp only [State.arriveGate]
  split
  next r hr =>
    have hfits := h _ r hr
    split
    next hp _ =>
      split
      · split
        · refine h.fire _ _ _ _ ?_
          unfold LiveRecord.kindFits at hfits
          rw [hp] at hfits
          exact hfits
        · exact h
      · exact h
    next => exact h
  next => exact h

theorem arriveCheckReturn (h : s.KindsFit) : s.arriveCheckReturn.KindsFit := by
  dsimp only [State.arriveCheckReturn]
  split
  next r hr =>
    have hfits := h _ r hr
    split
    next hp =>
      refine h.fire _ _ _ _ ?_
      unfold LiveRecord.kindFits at hfits
      rw [hp] at hfits
      exact hfits
    next => exact h.of_same (by simp [State.passUnsorted])
    next => exact h
  next => exact h

theorem arrivePurge (h : s.KindsFit) : s.arrivePurge.KindsFit := by
  dsimp only [State.arrivePurge]
  split
  next => exact h
  next => exact h
  next r hr =>
    split
    next => exact h.fire _ _ _ _ trivial
    next => exact h

theorem arriveEmptyCheck (h : s.KindsFit) (sensed : Bool) : (s.arriveEmptyCheck sensed).KindsFit := by
  have hlost (p : Fin 24) (r : LiveRecord) : (s.lostPart p r).drainTest.KindsFit :=
    (h.setEmpty p).of_same (by simp [State.lostPart])
  dsimp only [State.arriveEmptyCheck]
  split
  next => exact drainTest (setUnknown (s := s.raisePocket _) h _)
  next => exact h
  next => exact h
  next => exact (h.setEmpty _).drainTest
  next => exact h
  next r _ =>
    split
    next => exact h
    next => exact h
    all_goals exact hlost _ r

theorem ownArrival (h : s.KindsFit) (st : Station) : (s.ownArrival st).KindsFit := by
  unfold State.ownArrival
  split
  · exact h
  · split
    · exact h.arriveLoad
    · exact h.arriveHead _
    · exact h.arriveGate _
    · exact h.arriveCheckReturn
    · exact h.arrivePurge

theorem arriveGates (h : s.KindsFit) : s.arriveGates.KindsFit := by
  unfold State.arriveGates
  induction List.finRange 12 generalizing s with
  | nil => exact h
  | cons g gs ih => exact ih (h.ownArrival (.eject (.gate g)))

theorem arrivals (h : s.KindsFit) (sensed : Bool) : (s.arrivals sensed).KindsFit :=
  ((((((h.ownArrival .load).ownArrival (.head .a)).ownArrival (.head .b)).arriveGates).ownArrival
    (.eject .checkReturn)).ownArrival (.eject .purge)).arriveEmptyCheck sensed

/-! #### Feeds and ejections -/

theorem load (h : s.KindsFit) (f : Feed) : (s.load f).KindsFit := by
  have hfits : (s.loadRecord f).kindFits := by
    have hphase : (∃ reason, s.loadPhase f = .purgePending reason) ∨ ∃ k, s.loadPhase f = .pending k false := by
      unfold State.loadPhase
      split
      · exact .inl ⟨_, rfl⟩
      · split
        · exact .inl ⟨_, rfl⟩
        · exact .inr ⟨_, rfl⟩
    unfold LiveRecord.kindFits State.loadRecord
    rcases hphase with ⟨reason, hp⟩ | ⟨k, hp⟩ <;> rw [hp] <;> trivial
  exact (h.setLive f.target hfits).of_same (by simp [State.load])

theorem loadSense (h : s.KindsFit) : s.loadSense.KindsFit := by
  unfold State.loadSense
  split
  next f _ =>
    split
    · have hends : (s.endFeed.onFeed fun u => u.clearMisses f.kind).KindsFit := h
      dsimp only
      split
      · exact (hends.load f).drainTest
      · exact hends.drainTest
    · exact h
  next => exact h

theorem feedMiss (h : s.KindsFit) : s.feedMiss.KindsFit := by
  have hpart (u : State) : u.countFeedMiss.pockets = u.pockets := by
    unfold State.countFeedMiss
    split <;> rfl
  have hcheck (u : State) : u.countCheckFeedMiss.pockets = u.pockets := by
    unfold State.countCheckFeedMiss
    split <;> rfl
  have hends : s.endFeed.KindsFit := h
  unfold State.feedMiss
  split
  next =>
    split
    · split
      · exact hends.of_same (by simp [hpart])
      · exact hends.of_same (by simp [hcheck])
    · exact h
  next => exact h

theorem confirm (h : s.KindsFit) (c : Chute) (p : Fin 24) (sweep : Bool) : (s.confirm c p sweep).KindsFit := by
  have hempty := h.setEmpty p
  unfold State.confirm
  split
  next g =>
    dsimp only [State.confirmGate]
    split
    · split
      · exact hempty.of_same (by simp [State.binPart, State.fillBin])
      · exact hempty.of_same (by simp [State.spillPart])
    · exact h
  next =>
    unfold State.confirmReturn State.countReturn
    split
    · split <;> exact hempty
    · exact h
  next =>
    dsimp only [State.confirmPurge]
    split
    · split
      · exact hempty
      · exact h
    · split
      next r _ =>
        unfold State.countPurge
        split
        · exact hempty.of_same (by simp)
        · exact hempty
      next => exact h

theorem chutePulse (h : s.KindsFit) (c : Chute) : (s.chutePulse c).KindsFit := by
  unfold State.chutePulse
  split
  next => exact h
  next p sweep _ =>
    exact (confirm (s := (s.onEjector c fun e => { e with state := .settling }).leaveBusy (.eject c)) h c p
      sweep).drainTest
  next => exact h

theorem miss (h : s.KindsFit) {c : Chute} {p : Fin 24} {sweep : Bool}
    (hc : c = .checkReturn → ∀ r, s.pocket p = .live r → r.kind = .check) : (s.miss c p sweep).KindsFit := by
  have hgate (u : State) (g : Fin 12) : (u.countGateMiss g).pockets = u.pockets := by
    dsimp only [State.countGateMiss]
    split <;> rfl
  have hpurge (u : State) : u.countPurgeMiss.pockets = u.pockets := by
    dsimp only [State.countPurgeMiss]
    split <;> rfl
  unfold State.miss
  split
  next g =>
    unfold State.missGate
    split
    next r _ => exact (h.setLive p (r.kindFits_purge .ejectMiss)).of_same (by simp [hgate])
    next => exact h.of_same (hgate s g)
  next =>
    unfold State.missReturn
    split
    next r hr => exact h.setLive p (hc rfl r hr)
    next => exact h
  next =>
    unfold State.missPurge
    split
    · exact h
    · split
      next r _ =>
        split
        next reason _ => exact (h.setLive p (r.kindFits_purge reason)).of_same (by simp [hpurge])
        next => exact h.of_same (hpurge s)
      next => exact h.of_same (hpurge s)

/-- A record ejected at CR is a CHECK. -/
theorem check_of_ejected (h : s.KindsFit) {p : Fin 24} {r : LiveRecord} (hr : s.pocket p = .live r)
    (hp : r.phase.work = .ejected .checkReturn) : r.kind = .check := by
  have hfits := h p r hr
  unfold LiveRecord.kindFits at hfits
  revert hp hfits
  rcases r.phase with _ | _ | _ | (_ | _ | _) | _ | _ <;> simp [Phase.work, Ejecting.chute]

theorem windowExpiry (h : s.KindsFit) (hw : s.work.Agrees) (c : Chute) : (s.windowExpiry c).KindsFit := by
  dsimp only [State.windowExpiry]
  split
  next => exact h
  next p sweep hf =>
    refine miss (s := (s.onEjector c fun e => { e with state := .idle, windowTimer := .stopped }).leaveBusy
      (.eject c)) h ?_
    rintro rfl r hr
    cases sweep with
    | true => exact absurd (hw.sweeps _ p hf) (by decide)
    | false =>
      obtain ⟨r', hr', hp⟩ := hw.exists_fired hf
      obtain rfl := PocketRecord.live.inj ((show s.pocket p = .live r from hr).symm.trans hr')
      exact h.check_of_ejected hr' hp
  next => exact h

end State.KindsFit

end Sys2Proof.Machine
end

section
/-! SUPPORT. What a row does, in the cases of its kind, so that a condition is shown of every row by showing it of each
event, of each reply of a block, and of the changes of the link (R174 to R180). -/

namespace Sys2Proof.Machine

/-- The lines of RESET_N_ASSERTED (R120, R180). -/
def State.inResetNow (s : State) : State :=
  { (s.releaseOutputs.onLink fun l =>
      { l with transaction := l.transaction.acrossReset, shiftedOut := [] }) with
    lines := { s.lines with inReset := true } }

/-- The effect of an event row where RESET_N is not asserted, and of the two rows of RESET_N; the state as it is for a row
that is no event. -/
def State.happens (s : State) : Instr → State
  | .powerOnReset estop cans => s.powerOn estop cans
  | .resetNAsserted => s.inResetNow
  | .indexDone sensed =>
    match s.dial.state with
    | .moving => s.honourIndex sensed
    | .jammed => s.honourIndex sensed
    | _ => s.spuriousIndex
  | .minDwellExpiry =>
    match s.dial.dwellTimer with
    | .running _ => (s.onDial fun d => { d with dwellTimer := .elapsed }).endDwellTest
    | _ => s
  | .moveTimerExpiry => if s.dial.state = .moving then s.jam else s
  | .estopAsserted =>
    if s.dial.state = .estopped then { s with lines := { s.lines with estop := true } }
    else State.emergencyStop { s with lines := { s.lines with estop := true } }
  | .estopReleased =>
    (if s.dial.state = .estopped then
      State.onDial { s with lines := { s.lines with estop := false } } fun d => { d with state := .idle }
    else { s with lines := { s.lines with estop := false } }).reportSevere s
  | .startLineEdge sensed => if s.dial.state = .idle ∧ s.dial.startEnable then s.beginDwell sensed else s
  | .feedPulseEnd => s.onFeed fun f => { f with feedOut := false, checkFeedOut := false }
  | .loadSense => s.loadSense.endDwellTest.reportSevere s
  | .feedWindowExpiry => s.feedMiss.endDwellTest
  | .requestSent h => s.onHead h HeadUnit.requestSent
  | .quietTimerExpiry h => s.onHead h fun u => { u with quietTimer := .stopped }
  | .result h tag code status => (s.receiveFrame h (.result tag code status)).endDwellTest
  | .identAnswer h tag maxRange => (s.receiveFrame h (.ident tag maxRange)).reportSevere s
  | .responseTimeout h => (s.responseTimeout h).endDwellTest
  | .linkPause h =>
    match (s.head h).receiver with
    | .inFrame _ => s.onHead h fun u => { u.countLinkError with receiver := .idle }
    | _ => s
  | .framingError h =>
    match (s.head h).receiver with
    | .discarding => s
    | _ => s.onHead h fun u => { u.countLinkError with receiver := .discarding }
  | .unknownType h byte => ((s.receiveByte h byte).endDwellTest).reportSevere s
  | .discardQuiet h =>
    match (s.head h).receiver with
    | .discarding => s.onHead h fun u => { u with receiver := .idle }
    | _ => s
  | .pulseTimerExpiry c => s.onEjector c fun e => { e with driven := false, pulseTimer := .stopped }
  | .chutePulse c => (s.chutePulse c).endDwellTest
  | .windowTimerExpiry c => (s.windowExpiry c).endDwellTest
  | .canRemoved g => s.onBin g fun b => { b with present := false, removedLatch := true }
  | .canInserted g =>
    s.onBin g fun b => { b with present := true, fill := 0, swaps := b.swaps + 1#16, insertedLatch := true }
  | .byteReceived h byte => ((s.receiveByte h byte).endDwellTest).reportSevere s
  | _ => s

/-- The row is a command, or one of the five of the link's transactions. -/
def isLinkRow (i : Instr) : Bool := (frameOf i).isSome || (riseOf i).isSome || i == .transactionBegin

/-- A row that is not of the link happens, but for what RESET_N holds back. -/
theorem exec_happens {i : Instr} (hi : isLinkRow i = false) (s : State) :
    exec i s = .next (s.happens i) ∨ exec i s = .next s := by
  have hevent (he : exec i s = s.event fun u => u.happens i) :
      exec i s = .next (s.happens i) ∨ exec i s = .next s := by
    rw [he, State.event]
    split
    · exact .inr rfl
    · exact .inl rfl
  cases i with
  | powerOnReset | resetNAsserted => exact .inl rfl
  | indexDone | minDwellExpiry | moveTimerExpiry | estopAsserted | estopReleased | startLineEdge | feedPulseEnd
  | loadSense | feedWindowExpiry | requestSent | quietTimerExpiry | result | identAnswer | responseTimeout
  | linkPause | framingError | unknownType | discardQuiet | pulseTimerExpiry | chutePulse | windowTimerExpiry
  | canRemoved | canInserted | byteReceived => exact hevent rfl
  | _ => cases hi

section
variable {s : State} {P : State → Prop}

/-- A condition that no change of the link disturbs holds after a command row when it holds after the reply of its block. -/
theorem State.command_induction {t : State} {i : Instr} (h : s.command i (replyOf i) = .next t) (hself : P s)
    (hlink : ∀ u f, P u → P (u.onLink f)) (hreply : ∀ f, P (replyOf i (s.onLink f)).state) : P t := by
  unfold State.command State.event at h
  cases h
  split
  · exact hself
  · dsimp only
    split
    · exact hself
    · split
      · exact hlink _ _ hself
      · exact hself
    · split
      · exact hself
      next hu =>
        obtain rfl := (State.takeFrame_some.mp hu).2.2
        rw [Reply.answered, State.answer, State.writeWhole]
        exact hlink _ _ (hreply _)

/-- So does one after a transaction. -/
theorem State.endTransaction_induction (hself : P s) (hlink : ∀ u f, P u → P (u.onLink f))
    (hreply : ∀ f i, P (replyOf i (s.onLink f)).state) (sdi : List Byte) : P (s.endTransaction sdi) := by
  have hkept (f : Link → Link) : P (s.onLink f) := hlink _ _ hself
  have htaken (l : Link → Link) (f : Frame) : P ((s.onLink l).takeWritten f) := by
    unfold State.takeWritten
    split
    next i _ => exact hlink _ _ (hreply (fun x => { l x with writes := (l x).writes + 1 }) i)
    next => exact hlink _ _ (hkept l)
  have hfinish (phase : LinkPhase) : P (s.finishTransaction phase sdi) := by
    dsimp only [State.finishTransaction]
    split
    next =>
      split
      · unfold State.endWrite
        split
        · exact hkept _
        · split
          · exact htaken _ _
          · exact hlink _ _ (hkept _)
      · exact hkept _
    next => exact hkept _
    next =>
      unfold State.endRead
      split
      · split
        · exact hlink _ _ (hkept _)
        · exact hkept _
      · exact hkept _
  unfold State.endTransaction State.endUntaken
  split
  · exact hkept _
  · split
    · exact hfinish _
    · exact hkept _
    · exact hfinish _

/-- A condition holds after every row when it holds after each event and after each reply, and no change of the link
disturbs it. -/
theorem exec_induction {t : State} {i : Instr} (h : exec i s = .next t) (hself : P s)
    (hlink : ∀ u f, P u → P (u.onLink f)) (hevent : ∀ i, isLinkRow i = false → P (s.happens i))
    (hreply : ∀ f i, P (replyOf i (s.onLink f)).state) : P t := by
  cases hi : isLinkRow i with
  | false =>
    rcases exec_happens hi s with he | he <;> cases he.symm.trans h
    · exact hevent i hi
    · exact hself
  | true =>
    cases hf : frameOf i with
    | some f => exact State.command_induction (exec_command hf s ▸ h) hself hlink fun f => hreply f i
    | none =>
      cases i with
      | writeTransaction sdi | poll sdi | discard sdi | readTransaction sdi =>
        cases h
        exact State.endTransaction_induction hself hlink hreply sdi
      | transactionBegin =>
        cases h
        unfold State.beginTransaction
        split
        · split <;> exact hlink _ _ hself
        · exact hself
      | powerOnReset | resetNAsserted | indexDone | minDwellExpiry | moveTimerExpiry | estopAsserted | estopReleased
      | startLineEdge | feedPulseEnd | loadSense | feedWindowExpiry | requestSent | quietTimerExpiry | result
      | identAnswer | responseTimeout | linkPause | framingError | unknownType | discardQuiet | pulseTimerExpiry
      | chutePulse | windowTimerExpiry | canRemoved | canInserted | byteReceived => cases hi
      | _ => cases hf

/-- So of every step, where the queue does not count. -/
theorem step_induction {t : State} (h : step s = .next t) (hself : ∀ q, P { s with pending := q })
    (hlink : ∀ u f, P u → P (u.onLink f))
    (hevent : ∀ q i, isLinkRow i = false → P (State.happens { s with pending := q } i))
    (hreply : ∀ q f i, P (replyOf i (State.onLink { s with pending := q } f)).state) : P t := by
  unfold step at h
  split at h
  · cases h
    exact hself _
  next rest _ => exact exec_induction h (hself rest) hlink (hevent rest) (hreply rest)

end

end Sys2Proof.Machine
end

section
/-! SUPPORT. How a step moves the dial: it leaves no dwell that is over, and it issues STEP only where nothing holds it
(R3 to R6). -/

namespace Sys2Proof.Machine

/-! ### The dial apart from its busy set -/

def Dial.aside (d : Dial) : Dial := { d with busy := Vector.replicate 17 false }

theorem Dial.aside_state (d : Dial) : d.aside.state = d.state := rfl

theorem Dial.aside_dwellTimer (d : Dial) : d.aside.dwellTimer = d.dwellTimer := rfl

theorem Dial.state_of_aside {c d : Dial} (h : c.aside = d.aside) : c.state = d.state :=
  (Dial.mk.inj h).1

theorem Dial.position_of_aside {c d : Dial} (h : c.aside = d.aside) : c.position = d.position :=
  (Dial.mk.inj h).2.1

theorem Dial.aside_eq_iff {c d : Dial} : c.aside = d.aside ↔ c = { d with busy := c.busy } := by
  obtain ⟨⟩ := c
  obtain ⟨⟩ := d
  simp [Dial.aside]

section
variable (s : State)

theorem State.arriveLoad_aside : s.arriveLoad.dial.aside = s.dial.aside := by
  dsimp only [State.arriveLoad]
  split
  next => split <;> rfl
  next => rfl
  next => split <;> rfl

theorem State.arriveHead_aside (h : Head) : (s.arriveHead h).dial.aside = s.dial.aside := by
  dsimp only [State.arriveHead]
  split
  next =>
    split
    next =>
      split
      · split
        next => rfl
        next => rfl
        next => split <;> rfl
      · rfl
    next => rfl
  next => rfl

theorem State.arriveGate_aside (g : Fin 12) : (s.arriveGate g).dial.aside = s.dial.aside := by
  dsimp only [State.arriveGate]
  split
  next =>
    split
    next =>
      split
      next => split <;> rfl
      next => rfl
    next => rfl
  next => rfl

theorem State.arriveCheckReturn_aside : s.arriveCheckReturn.dial.aside = s.dial.aside := by
  dsimp only [State.arriveCheckReturn]
  split
  next =>
    split
    next => rfl
    next => simp [State.passUnsorted]
    next => rfl
  next => rfl

theorem State.arrivePurge_aside : s.arrivePurge.dial.aside = s.dial.aside := by
  dsimp only [State.arrivePurge]
  split
  next => rfl
  next => rfl
  next => split <;> rfl

theorem State.arriveEmptyCheck_dial (sensed : Bool) : (s.arriveEmptyCheck sensed).dial = s.dial := by
  have hlost (p : Fin 24) (r : LiveRecord) : (s.lostPart p r).drainTest.dial = s.dial := by
    simp [State.lostPart]
  dsimp only [State.arriveEmptyCheck]
  split
  next => simp [State.strayPart]
  next => rfl
  next => rfl
  next => simp
  next => rfl
  next =>
    split
    next => rfl
    next => rfl
    all_goals exact hlost _ _

theorem State.ownArrival_aside (st : Station) : (s.ownArrival st).dial.aside = s.dial.aside := by
  unfold State.ownArrival
  split
  · rfl
  · split
    · exact s.arriveLoad_aside
    · exact s.arriveHead_aside _
    · exact s.arriveGate_aside _
    · exact s.arriveCheckReturn_aside
    · exact s.arrivePurge_aside

theorem State.arriveGates_aside : s.arriveGates.dial.aside = s.dial.aside := by
  unfold State.arriveGates
  induction List.finRange 12 generalizing s with
  | nil => rfl
  | cons g gs ih => exact (ih _).trans (s.ownArrival_aside (.eject (.gate g)))

/-- The arrivals of a dwell leave the dial but for its busy set (R2). -/
theorem State.arrivals_aside (sensed : Bool) : (s.arrivals sensed).dial.aside = s.dial.aside := by
  unfold State.arrivals
  simp only [State.deliver_load, State.deliver_head, State.deliver_checkReturn, State.deliver_purge]
  rw [State.arriveEmptyCheck_dial, State.ownArrival_aside, State.ownArrival_aside, State.arriveGates_aside,
    State.ownArrival_aside, State.ownArrival_aside, State.ownArrival_aside]

end

/-! ### The pace of the dial -/

/-- From `s` to `t` no dwell that is over is left, and STEP is issued only from DWELL or HELD, with nothing busy, no host
hold and no severe flag (R3 to R6). -/
structure State.Paced (s t : State) : Prop where
  ended : t.dwellOver = true → s.dwellOver = true
  issues : s.dial.state ≠ .moving → t.dial.state = .moving →
    (s.dial.state = .dwell ∨ s.dial.state = .held) ∧ t.busyEmpty = true ∧ t.dial.hostHold = false ∧
    t.anySevere = false ∧ t.dial.moveTimer = .running t.dial.moveTimeout ∧
    t.dial.dwellTimer = .stopped ∧ t.dial.position = s.dial.position

namespace State.Paced

variable {s t u : State}

/-- The dial keeps its state, its dwell timer and its busy set. -/
theorem of_kept (hs : t.dial.state = s.dial.state) (ht : t.dial.dwellTimer = s.dial.dwellTimer)
    (hb : t.dial.busy = s.dial.busy) : s.Paced t where
  ended h := by
    rw [State.dwellOver_iff] at h ⊢
    rw [State.busyEmpty, ← hs, ← ht, ← hb]
    exact h
  issues hn hm := absurd (hs ▸ hm) hn

theorem refl (s : State) : s.Paced s := of_kept rfl rfl rfl

/-- The dial has come to rest. -/
theorem of_rest (hd : t.dial.state ≠ .dwell) (hm : t.dial.state ≠ .moving) : s.Paced t where
  ended h := absurd (State.dwellOver_iff t |>.mp h).1 hd
  issues _ h := absurd h hm

/-- A dwell begins. -/
theorem of_running {ms : Nat} (hd : t.dial.state = .dwell) (ht : t.dial.dwellTimer = .running ms) : s.Paced t where
  ended h := by
    obtain ⟨-, he, -⟩ := t.dwellOver_iff.mp h
    cases ht.symm.trans he
  issues _ h := by cases hd.symm.trans h

/-- The end-of-dwell test closes the event (R4). -/
theorem of_endDwellTest (hs : u.dial.state = s.dial.state) (hp : u.dial.position = s.dial.position) :
    s.Paced u.endDwellTest := by
  rcases u.endDwellTest_cases with ⟨hn, he⟩ | ⟨-, -, he⟩ | ⟨-, -, -, he⟩ | ⟨hover, -, hh, ha, he⟩ <;> rw [he]
  · exact ⟨fun h => absurd h (Bool.eq_false_iff.mp hn), fun hm h => absurd (hs ▸ h) hm⟩
  · exact of_rest nofun nofun
  · exact of_rest nofun nofun
  · obtain ⟨hd, -, hempty⟩ := u.dwellOver_iff.mp hover
    exact ⟨fun h => (by cases (State.dwellOver_iff _ |>.mp h).1),
      fun _ _ => ⟨.inl (hs ▸ hd), hempty, hh, ha, rfl, rfl, hp⟩⟩

/-- The test in HELD closes the event (R5). -/
theorem reportSevere (h : s.Paced u) (hu : u.work.Agrees) (before : State)
    (hs : u.dial.state = .held → s.dial.state = .dwell ∨ s.dial.state = .held)
    (hp : u.dial.position = s.dial.position) : s.Paced (u.reportSevere before) := by
  rw [State.reportSevere_eq]
  split
  next hc =>
    obtain ⟨-, ha, hheld, hh⟩ := hc
    exact ⟨fun h => (by cases (State.dwellOver_iff _ |>.mp h).1),
      fun _ _ => ⟨hs hheld, u.busyEmpty_iff.mpr (hu.settled (.inl hheld)), hh, ha, rfl, rfl, hp⟩⟩
  next => exact h

theorem heldTest (h : s.Paced u) (hu : u.work.Agrees) (hs : u.dial.state = s.dial.state)
    (hp : u.dial.position = s.dial.position) : s.Paced u.heldTest := by
  rw [State.heldTest_eq]
  split
  next hc =>
    obtain ⟨hheld, hh, ha⟩ := hc
    exact ⟨fun h => (by cases (State.dwellOver_iff _ |>.mp h).1),
      fun _ _ => ⟨.inr (hs ▸ hheld), u.busyEmpty_iff.mpr (hu.settled (.inl hheld)), hh, ha, rfl, rfl, hp⟩⟩
  next => exact h

/-- The dial after the end-of-dwell test is HELD only from DWELL or HELD. -/
theorem held_of_endDwellTest (h : u.endDwellTest.dial.state = .held) : u.dial.state = .dwell ∨ u.dial.state = .held := by
  rcases u.endDwellTest_cases with ⟨-, he⟩ | ⟨-, -, he⟩ | ⟨hover, -, -, -⟩ | ⟨-, -, -, -, he⟩
  · exact .inr (he ▸ h)
  · rw [he] at h
    cases h
  · exact .inl (u.dwellOver_iff.mp hover).1
  · rw [he] at h
    cases h

/-- Both tests close the event. -/
theorem of_tests (hu : u.work.Agrees) (hs : u.dial.state = s.dial.state) (hp : u.dial.position = s.dial.position)
    (before : State) : s.Paced (u.endDwellTest.reportSevere before) :=
  (of_endDwellTest hs hp).reportSevere hu.endDwellTest before
    (fun h => hs ▸ held_of_endDwellTest h) (by simpa using hp)

end State.Paced

/-! ### A dwell that begins -/

theorem State.beginDwell_paced (s t : State) (sensed : Bool) : s.Paced (t.beginDwell sensed) := by
  have h := t.enterDwell.arrivals_aside sensed
  have hs : (t.beginDwell sensed).dial.state = .dwell := by
    rw [← Dial.aside_state, State.beginDwell, h]
    rfl
  have ht : (t.beginDwell sensed).dial.dwellTimer = .running t.dial.minDwell := by
    rw [← Dial.aside_dwellTimer, State.beginDwell, h]
    rfl
  exact .of_running hs ht

end Sys2Proof.Machine
end

section
/-! SUPPORT. Every event keeps the blocks coherent and moves the dial as R3 to R6 allow. -/

namespace Sys2Proof.Machine

/-! ### What the events leave of the dial -/

section
variable (s : State)

theorem State.dial_of_surroundings {s t : State} (h : t.surroundings = s.surroundings) : t.dial = s.dial :=
  congrArg Surroundings.dial h

theorem State.completeResult_aside (h : Head) (p : Fin 24) (range : Fin 7) (raw : BitVec 24 × Byte) :
    (s.completeResult h p range raw).dial.aside = s.dial.aside := by
  rw [State.dial_of_surroundings (s.surroundings_completeResult h p range raw)]
  rfl

theorem State.completeNoReply_aside (h : Head) (p : Fin 24) (range : Fin 7) :
    (s.completeNoReply h p range).dial.aside = s.dial.aside := by
  rw [State.dial_of_surroundings (s.surroundings_completeNoReply h p range)]
  rfl

theorem State.abandonMeasurement_aside (h : Head) (next : HeadState) (disabled : Bool) :
    (s.abandonMeasurement h next disabled).dial.aside = s.dial.aside := by
  rw [State.dial_of_surroundings (s.surroundings_abandonMeasurement h next disabled)]
  rfl

theorem State.abandonAll_aside : s.abandonAll.dial.aside = s.dial.aside := by
  have hat (u : State) (h : Head) : (u.abandonAt h).dial.aside = u.dial.aside := by
    unfold State.abandonAt
    split
    · exact u.abandonMeasurement_aside h _ _
    · rfl
  exact (hat _ .b).trans (hat s .a)

theorem State.takeHeadFrame_aside (h : Head) (f : HeadFrame) : (s.takeHeadFrame h f).dial.aside = s.dial.aside := by
  unfold State.takeHeadFrame
  split
  next =>
    split
    · exact s.completeResult_aside h _ _ _
    · rfl
  next => split <;> rfl
  next => rfl

theorem State.receiveFrame_aside (h : Head) (f : HeadFrame) : (s.receiveFrame h f).dial.aside = s.dial.aside := by
  unfold State.receiveFrame
  split
  next => exact s.takeHeadFrame_aside h f
  next =>
    split
    · exact State.takeHeadFrame_aside _ h f
    · rfl
  next => rfl

theorem State.receiveByte_aside (h : Head) (b : Byte) : (s.receiveByte h b).dial.aside = s.dial.aside := by
  unfold State.receiveByte
  split
  next => split <;> rfl
  next =>
    split
    · exact State.takeHeadFrame_aside _ h _
    · rfl
  next => rfl

/-- A frame that answers no measurement leaves the dial. -/
theorem State.receiveFrame_ident_dial (h : Head) (tag maxRange : Byte) :
    (s.receiveFrame h (.ident tag maxRange)).dial = s.dial := by
  have htake (u : State) : (u.takeHeadFrame h (.ident tag maxRange)).dial = u.dial := by
    unfold State.takeHeadFrame
    split
    next hf => cases hf
    next => split <;> rfl
    next => rfl
  unfold State.receiveFrame
  split
  next => exact htake s
  next =>
    split
    · exact htake _
    · rfl
  next => rfl

theorem State.responseTimeout_aside (h : Head) : (s.responseTimeout h).dial.aside = s.dial.aside := by
  unfold State.responseTimeout
  split
  · split
    next => exact s.completeNoReply_aside h _ _
    next => rfl
    next => rfl
  · rfl

theorem State.load_dial (f : Feed) : (s.load f).dial = s.dial := by
  have hreport (u : State) : (u.reportLoad f).dial = u.dial := by
    unfold State.reportLoad
    split <;> split <;> rfl
  have hcount (u : State) : (u.countLoad f).dial = u.dial := by
    unfold State.countLoad
    split <;> rfl
  rw [State.load, hcount, hreport, State.setLive_dial]

theorem State.endFeed_aside : s.endFeed.dial.aside = s.dial.aside := rfl

theorem State.loadSense_aside : s.loadSense.dial.aside = s.dial.aside := by
  unfold State.loadSense
  split
  next =>
    split
    · dsimp only
      split
      · rw [State.drainTest_dial, State.load_dial]
        exact s.endFeed_aside
      · rw [State.drainTest_dial]
        exact s.endFeed_aside
    · rfl
  next => rfl

theorem State.countFeedMiss_dial : s.countFeedMiss.dial = s.dial := by
  unfold State.countFeedMiss
  split <;> rfl

theorem State.countCheckFeedMiss_dial : s.countCheckFeedMiss.dial = s.dial := by
  unfold State.countCheckFeedMiss
  split <;> rfl

theorem State.feedMiss_aside : s.feedMiss.dial.aside = s.dial.aside := by
  unfold State.feedMiss
  split
  next =>
    split
    · split
      · rw [State.drainTest_dial, State.countFeedMiss_dial]
        exact s.endFeed_aside
      · rw [State.drainTest_dial, State.countCheckFeedMiss_dial]
        exact s.endFeed_aside
    · rfl
  next => rfl

theorem State.confirm_dial (c : Chute) (p : Fin 24) (sweep : Bool) : (s.confirm c p sweep).dial = s.dial := by
  unfold State.confirm
  split
  next g =>
    dsimp only [State.confirmGate]
    split
    · split
      · simp [State.binPart, State.fillBin]
      · simp [State.spillPart]
    · rfl
  next =>
    unfold State.confirmReturn State.countReturn
    split
    · split <;> rfl
    · rfl
  next =>
    dsimp only [State.confirmPurge]
    split
    · split <;> rfl
    · split
      · unfold State.countPurge
        split
        · simp
        · rfl
      · rfl

theorem State.chutePulse_aside (c : Chute) : (s.chutePulse c).dial.aside = s.dial.aside := by
  unfold State.chutePulse
  split
  next => rfl
  next => rw [State.drainTest_dial, State.confirm_dial]; rfl
  next => rfl

theorem State.countGateMiss_dial (g : Fin 12) : (s.countGateMiss g).dial = s.dial := by
  dsimp only [State.countGateMiss]
  split <;> rfl

theorem State.countPurgeMiss_dial : s.countPurgeMiss.dial = s.dial := by
  dsimp only [State.countPurgeMiss]
  split <;> rfl

theorem State.miss_dial (c : Chute) (p : Fin 24) (sweep : Bool) : (s.miss c p sweep).dial = s.dial := by
  unfold State.miss
  split
  next g =>
    unfold State.missGate
    split
    · rw [State.countGateMiss_dial]; rfl
    · exact s.countGateMiss_dial g
  next =>
    unfold State.missReturn
    split <;> rfl
  next =>
    unfold State.missPurge
    split
    · rfl
    · split
      · split
        · rw [State.countPurgeMiss_dial]; rfl
        · exact s.countPurgeMiss_dial
      · exact s.countPurgeMiss_dial

theorem State.windowExpiry_aside (c : Chute) : (s.windowExpiry c).dial.aside = s.dial.aside := by
  dsimp only [State.windowExpiry]
  split
  next => rfl
  next => rw [State.miss_dial]; rfl
  next => rfl

end

/-! ### Coherent states that follow one another -/

/-- From the coherent state `s` the state `t` follows: its blocks agree, and the dial has kept its pace. -/
structure State.Follows (s t : State) : Prop where
  agrees : t.work.Agrees
  kinds : t.KindsFit
  paced : s.Paced t

namespace State.Follows

variable {s t u : State}

theorem coherent (h : s.Follows t) : t.Coherent := t.coherent_iff.mpr ⟨h.agrees, h.kinds⟩

theorem of_coherent (h : s.Coherent) : s.Follows s :=
  ⟨(s.coherent_iff.mp h).1, (s.coherent_iff.mp h).2, .refl s⟩

/-- The end-of-dwell test closes an event that has left the dial but for its busy set. -/
theorem endDwellTest (ha : u.work.Agrees) (hk : u.KindsFit) (hd : u.dial.aside = s.dial.aside) :
    s.Follows u.endDwellTest :=
  ⟨ha.endDwellTest, hk.endDwellTest, .of_endDwellTest (Dial.state_of_aside hd) (Dial.position_of_aside hd)⟩

/-- So do both tests. -/
theorem tests (ha : u.work.Agrees) (hk : u.KindsFit) (hd : u.dial.aside = s.dial.aside) :
    s.Follows (u.endDwellTest.reportSevere s) :=
  ⟨ha.endDwellTest.reportSevere s, hk.endDwellTest.reportSevere s,
    .of_tests ha (Dial.state_of_aside hd) (Dial.position_of_aside hd) s⟩

/-- The work, the records and the dwell timer are as they were. -/
theorem same (h : s.Follows s) (hw : t.work = s.work) (hk : t.KindsFit)
    (ht : t.dial.dwellTimer = s.dial.dwellTimer) : s.Follows t := by
  have hs : t.dial.state = s.dial.state := congrArg Work.dial hw
  have hempty : t.busyEmpty = s.busyEmpty := by
    rw [Bool.eq_iff_iff, State.busyEmpty_iff, State.busyEmpty_iff]
    exact forall_congr' fun st => by rw [show t.isBusy st = s.isBusy st from congrFun (congrArg Work.busy hw) st]
  refine ⟨hw ▸ h.agrees, hk, fun ho => ?_, fun hn hm => absurd (hs ▸ hm) hn⟩
  rw [State.dwellOver_iff] at ho ⊢
  rwa [← hs, ← ht, ← hempty]

/-- The link does not count. -/
theorem onLink (h : s.Follows t) (f : Link → Link) : s.Follows (t.onLink f) :=
  ⟨h.agrees, h.kinds, h.paced.1, h.paced.2⟩

end State.Follows

/-! ### Dwells that begin -/

theorem State.Coherent.beginDwell {s t : State} (ht : t.work.Agrees ∧ t.KindsFit) (sensed : Bool) :
    s.Follows (t.beginDwell sensed) := by
  have henter : t.enterDwell.Dwells := by
    refine ⟨?_, rfl⟩
    rw [State.enterDwell, t.work_onDial rfl]
    exact ht.1.dialTurns (by simp) (by simp)
  have hkinds : t.enterDwell.KindsFit := ht.2
  exact ⟨(henter.arrivals sensed).1, hkinds.arrivals sensed, State.beginDwell_paced s t sensed⟩

/-! ### The emergency stop and a spurious index -/

theorem State.work_releaseOutputs (s : State) : s.releaseOutputs.work = s.work := by
  rw [State.work, State.work, Work.mk.injEq]
  refine ⟨rfl, rfl, rfl, rfl, rfl, funext fun c => ?_, rfl⟩
  simp [State.releaseOutputs, State.ejector, State.onGates, State.onFeed]

theorem State.giveUpRecords_isBusy (s : State) (st : Station) : s.giveUpRecords.isBusy st = s.isBusy st := by
  rw [State.isBusy, State.giveUpRecords_dial, State.isBusy]

/-- With nothing busy no record is in work, and giving all up leaves none (R8). -/
theorem Work.Agrees.giveUpRecords {s : State} (hw : s.work.Agrees) (hb : ∀ st, s.work.busy st = false) :
    s.giveUpRecords.work.Agrees := by
  have hgiven : s.giveUpRecords.work = { s.work with pocket := s.giveUpRecords.work.pocket } := by
    rw [State.giveUpRecords, State.work_drainTest, State.work_onCounters]
    simp [State.work, State.head_def, funext_iff]
  rw [hgiven]
  refine hw.givesUp hb fun p => ?_
  show (s.giveUpRecords.pocket p).work = .idle
  rw [State.giveUpRecords_pocket]
  split <;> rfl

theorem State.Follows.emergencyStop {s t : State} (ht : t.work.Agrees) (hk : t.KindsFit) :
    s.Follows t.emergencyStop := by
  have htimers : (t.onDial fun d =>
      { d with dwellTimer := .stopped, moveTimer := .stopped, stopPending := false }).releaseOutputs.work.Agrees := by
    rw [State.work_releaseOutputs]
    exact ht.onDial rfl rfl
  have hkinds : (t.onDial fun d =>
      { d with dwellTimer := .stopped, moveTimer := .stopped, stopPending := false }).releaseOutputs.KindsFit := hk
  obtain ⟨hall, hdial, hheads, hleft⟩ := htimers.abandonAll
  have hrests {u : State} (hu : u.work.Agrees) (hb : ∀ h, u.work.busy (.head h) = false) (hku : u.KindsFit) :
      s.Follows (u.onDial fun d => { d with state := .estopped }) := by
    refine ⟨?_, hku, .of_rest nofun nofun⟩
    rw [u.work_onDial rfl]
    exact hu.dialTurns (by simp) fun _ => hb
  dsimp only [State.emergencyStop]
  split
  next hbetween =>
    have hempty (st : Station) : t.work.busy st = false := by
      refine ht.settled ?_ st
      rcases t.dial.state.betweenPositions_iff.mp hbetween with h | h
      · exact .inr (.inl h)
      · exact .inr (.inr h)
    have hnone (st : Station) := hleft st (by rw [State.work_releaseOutputs]; exact hempty st)
    refine hrests (hall.giveUpRecords hnone) (fun h => ?_) (.giveUpRecords _)
    exact (State.giveUpRecords_isBusy _ _).trans (hheads h)
  next => exact hrests hall hheads hkinds.abandonAll

/-! An abandonment raises no flag. -/

theorem State.applyRecall_faults (s : State) (p : Fin 24) (r : LiveRecord) (h : Head) :
    (s.applyRecall p r h).faults = s.faults := by
  simp [State.applyRecall]

theorem State.abandonRecord_faults (s : State) (h : Head) (p : Fin 24) (disabled : Bool) :
    (s.abandonRecord h p disabled).faults = s.faults := by
  unfold State.abandonRecord
  split
  next =>
    split
    next =>
      split
      · split
        next => rfl
        next =>
          split
          · exact s.applyRecall_faults _ _ _
          · split <;> rfl
      · rfl
    next => rfl
  next => rfl

theorem State.abandonMeasurement_faults (s : State) (h : Head) (next : HeadState) (disabled : Bool) :
    (s.abandonMeasurement h next disabled).faults = s.faults := by
  have hleft : (if next.inService then (s.onHead h fun u => u.abandon next).leaveBusy (.head h)
      else ((s.onHead h fun u => u.abandon next).leaveBusy (.head h)).headLeft).faults = s.faults := by
    split
    · rfl
    · simp [State.headLeft]
  dsimp only [State.abandonMeasurement]
  split
  · rw [State.abandonRecord_faults, hleft]
  · exact hleft

theorem State.abandonAll_faults (s : State) : s.abandonAll.faults = s.faults := by
  have hat (u : State) (h : Head) : (u.abandonAt h).faults = u.faults := by
    unfold State.abandonAt
    split
    · exact u.abandonMeasurement_faults h _ _
    · rfl
  exact (hat _ .b).trans (hat s .a)

/-- A spurious index issues no STEP: the severe flag that it raises is not cleared by what it abandons (R4, R11). -/
theorem State.Follows.spuriousIndex {s : State} (h : s.Follows s) : s.Follows s.spuriousIndex := by
  have ha : (s.advance.raise .spuriousIndex).work.Agrees :=
    h.agrees.onDial (f := fun d => { d with position := d.position + 1 }) rfl rfl
  have hk : (s.advance.raise .spuriousIndex).KindsFit := h.kinds
  obtain ⟨hall, -⟩ := ha.abandonAll
  have hstate : (s.advance.raise .spuriousIndex).abandonAll.dial.state = s.dial.state :=
    (Dial.state_of_aside (s.advance.raise .spuriousIndex).abandonAll_aside).trans rfl
  have hsevere : (s.advance.raise .spuriousIndex).abandonAll.anySevere = true := by
    apply State.anySevere_of_spuriousIndex
    rw [State.abandonAll_faults]
    simp [State.raise, State.onFaults, Flag.bit, Flag.number]
  refine ⟨hall.endDwellTest, hk.abandonAll.endDwellTest, ?_⟩
  show s.Paced (State.abandonAll _).endDwellTest
  generalize (s.advance.raise .spuriousIndex).abandonAll = u at hstate hsevere
  rcases u.endDwellTest_cases with ⟨hn, he⟩ | ⟨-, -, he⟩ | ⟨-, -, -, he⟩ | ⟨-, -, -, hs, -⟩
  · rw [he]
    exact ⟨fun ho => absurd ho (Bool.eq_false_iff.mp hn), fun hm ho => absurd (hstate ▸ ho) hm⟩
  · rw [he]
    exact .of_rest nofun nofun
  · rw [he]
    exact .of_rest nofun nofun
  · cases hsevere.symm.trans hs

end Sys2Proof.Machine
end

section
/-! SUPPORT. Every command that a block is handed keeps the blocks coherent and moves the dial as R3 to R6 allow; and so does
every row and every step. -/

namespace Sys2Proof.Machine

open Function

/-! ### The lot that opens and the soft reset -/

/-- A head that is not measuring has no record to drop. -/
theorem HeadUnit.dropIncapable_work {u : HeadUnit} (hf : u.work ≠ .unfit) (hm : ∀ p, u.work ≠ .measuring p)
    (range : Fin 7) : (u.dropIncapable range).work = u.work := by
  unfold HeadUnit.dropIncapable
  split
  next h =>
    rw [Bool.and_eq_true] at h
    have hready : u.state = .ready := by
      have hs := h.1
      unfold HeadState.inService at hs
      split at hs
      next he => exact he
      next he =>
        obtain ⟨p, hp, -⟩ := HeadUnit.measures hf he
        exact absurd hp (hm p)
      next => cases hs
    have hrest := HeadUnit.rests hf (by simp [hready]) (by simp [hready])
    have hq : u.request = none := by
      rw [HeadUnit.work, hready] at hrest
      cases hq : u.request with
      | none => rfl
      | some q => rw [hq] at hrest; cases hrest
    rw [hrest]
    exact HeadUnit.work_of_rest (by simp) (by simp) hq
  next => rfl

/-- With every record drained nothing of the work changes as the lot opens (R156, R158). -/
theorem Work.Agrees.openLot {s : State} (hw : s.work.Agrees) (hd : s.allPockets PocketRecord.isDrained = true) :
    s.openLot.work = s.work := by
  have hnone (h : Head) (p : Fin 24) : s.work.head h ≠ .measuring p := by
    intro hm
    obtain ⟨r, hr, hp⟩ := (s.measuringAt_iff p h).mpr ((hw.measuring h p).mp hm)
    have hdrained := (s.allPockets_iff _).mp hd p
    rw [hr] at hdrained
    obtain ⟨reason, hph⟩ := LiveRecord.exists_purgePending hdrained
    rw [hph] at hp
    cases hp
  have hdrop (h : Head) (range : Fin 7) : ((s.head h).dropIncapable range).work = (s.head h).work :=
    HeadUnit.dropIncapable_work (hw.fit h) (hnone h) range
  rw [State.work, State.work, Work.mk.injEq]
  refine ⟨by simp, by simp, by simp, funext fun st => by simp [State.isBusy], funext fun h => ?_,
    funext fun c => by simp [State.ejector], funext fun p => ?_⟩
  · have hsame := hdrop h s.banks.pending.range
    rw [HeadUnit.dropIncapable_eq] at hsame
    rw [State.openLot_head]
    exact (HeadUnit.work_congr (by rfl) (by rfl)).trans hsame
  · obtain ⟨v, hv⟩ := s.openLot_pocket p
    rw [hv]
    cases s.pocket p with
    | live r => exact (LiveRecord.lowerLap_work _ _).trans (v.checkDoneTest_work r)
    | empty => rfl
    | unknown => rfl

theorem State.KindsFit.openLot {s : State} (hk : s.KindsFit) : s.openLot.KindsFit := by
  intro p r hr
  obtain ⟨v, hv⟩ := s.openLot_pocket p
  rw [hv] at hr
  split at hr
  next r0 h0 =>
    exact PocketRecord.live.inj hr ▸ LiveRecord.lowerLap_kindFits (State.checkDoneTest_kindFits (hk p r0 h0) v) _
  next hne => exact absurd hr (hne r)

/-- The soft reset leaves the work, but that a JAMMED dial is IDLE: it finds no measurement in flight (R173). -/
theorem Work.Agrees.softReset {s : State} (hw : s.work.Agrees) (hd : s.dial.state.acceptsReset = true) :
    s.softReset.work.Agrees := by
  have hstop : s.dial.state ≠ .dwell := fun h => by
    rw [h] at hd
    cases hd
  have hnone (p : Fin 24) (r : LiveRecord) (hr : s.pocket p = .live r) : r.phase.measuringHead = none := by
    rw [Option.eq_none_iff_forall_ne_some]
    intro h hm
    have hmeasures := (hw.measuring h p).mpr ((s.measuringAt_iff p h).mp ⟨r, hr, hm⟩)
    have hbusy := (hw.heads h).symm.trans (hw.still hstop h)
    rw [hmeasures] at hbusy
    cases hbusy
  have hsame : s.softReset.work = { s.work with dial := s.dial.softReset.state } := by
    rw [State.work, Work.mk.injEq]
    refine ⟨by simp, by simp [FeedUnit.softReset, State.work], by simp [FeedUnit.softReset, State.work],
      funext fun st => by simp [State.isBusy, Dial.softReset, State.work], funext fun h => ?_,
      funext fun c => by simp [State.ejector, GateUnit.softReset, State.work], ?_⟩
    · rw [State.softReset_head]
      exact HeadUnit.work_congr rfl rfl
    · funext p
      rw [State.softReset_pocket, State.pocket_mapLive]
      show _ = (s.pocket p).work
      cases hp : s.pocket p with
      | live r => exact LiveRecord.softReset_work (hnone p r hp)
      | empty => rfl
      | unknown => rfl
  rw [hsame]
  have hdial : s.dial.softReset.state = s.dial.state ∨ s.dial.softReset.state = .idle := by
    dsimp only [Dial.softReset]
    split
    · exact .inr rfl
    · exact .inl rfl
  refine hw.dialTurns (fun h => ?_) fun _ => hw.still hstop
  rcases hdial with he | he
  · exact hw.settled (by rwa [he] at h)
  · rw [he] at h
    simp at h

theorem State.KindsFit.softReset {s : State} (hk : s.KindsFit) : s.softReset.KindsFit :=
  (hk.mapLive fun _ hr => LiveRecord.softReset_kindFits hr).of_same s.softReset_pockets

/-! ### The commands -/

namespace State.Follows

variable {s : State}

theorem withHead (h : s.Follows s) (i : Byte) {act : Head → Reply} (ha : ∀ k, s.Follows (act k).state) :
    s.Follows (s.withHead i act).state := by
  unfold State.withHead
  split
  next k _ => exact ha k
  next => exact h

theorem withBin (h : s.Follows s) (i : Byte) {act : Fin 12 → Reply} (ha : ∀ g, s.Follows (act g).state) :
    s.Follows (s.withBin i act).state := by
  unfold State.withBin
  split
  next g _ => exact ha g
  next => exact h

theorem withPocket (h : s.Follows s) (i : Byte) {act : Fin 24 → Reply} (ha : ∀ p, s.Follows (act p).state) :
    s.Follows (s.withPocket i act).state := by
  unfold State.withPocket
  split
  next p _ => exact ha p
  next => exact h

/-- A head changed but for what it holds of the work. -/
theorem onHead (h : s.Follows s) {k : Head} {f : HeadUnit → HeadUnit} (hf : (f (s.head k)).work = (s.head k).work) :
    s.Follows (s.onHead k f) :=
  h.same (s.work_onHead_same hf) h.kinds rfl

/-- The dial changed but for its state, its dwell timer and its busy set. -/
theorem onDial (h : s.Follows s) {f : Dial → Dial} (hs : (f s.dial).state = s.dial.state)
    (ht : (f s.dial).dwellTimer = s.dial.dwellTimer) (hb : (f s.dial).busy = s.dial.busy) : s.Follows (s.onDial f) :=
  ⟨h.agrees.onDial hb hs, h.kinds, .of_kept hs ht hb⟩

theorem stopDial (h : s.Follows s) : s.Follows s.stopDial := by
  unfold State.stopDial
  split
  next => exact h.onDial rfl rfl rfl
  next => exact h.onDial rfl rfl rfl
  next hs =>
    exact ⟨h.agrees.onDial_empty rfl (s.busyEmpty_iff.mpr (h.agrees.settled (.inl hs))), h.kinds, .of_rest nofun nofun⟩
  next hs =>
    have hempty := h.agrees.settled (.inr (.inr hs))
    have hgiven := h.agrees.giveUpRecords hempty
    have hleft : s.giveUpRecords.busyEmpty = true :=
      State.busyEmpty_iff _ |>.mpr fun st => (s.giveUpRecords_isBusy st).trans (hempty st)
    have hrest : s.giveUpRecords.restDial.work.Agrees := hgiven.onDial_empty rfl hleft
    exact ⟨hrest.onDial rfl rfl, .giveUpRecords s, .of_rest nofun nofun⟩
  next => exact h
  next => exact h

theorem enableHead (h : s.Follows s) (k : Head) : s.Follows (s.enableHead k).state := by
  unfold State.enableHead
  split
  next hout =>
    have hnone (p : Fin 24) : s.work.head k ≠ .measuring p := fun hm => by
      rw [(((s.head k).work_measuring_iff p).mp hm).1] at hout
      cases hout
    exact ⟨h.agrees.headRests hnone (.inr rfl), h.kinds, .of_kept rfl rfl rfl⟩
  next => exact h

theorem disableHead (h : s.Follows s) (k : Head) : s.Follows (s.disableHead k) := by
  refine ⟨h.agrees.disableHead k, h.kinds.disableHead k, ?_⟩
  unfold State.disableHead
  split
  next => exact .refl s
  next => exact .of_kept rfl rfl rfl
  next => exact .of_kept (by simp [State.headLeft]) (by simp [State.headLeft]) (by simp [State.headLeft])
  next =>
    have hd := s.abandonMeasurement_aside k (.out .host) true
    exact .of_endDwellTest (Dial.state_of_aside hd) (Dial.position_of_aside hd)

/-- A record that holds of the work what it held before, in its place. -/
theorem setLive (h : s.Follows s) {p : Fin 24} {r t : LiveRecord} (hr : s.pocket p = .live r)
    (hw : t.phase.work = r.phase.work) (hk : t.kindFits) : s.Follows (s.setLive p t) := by
  refine h.same ?_ (h.kinds.setLive p hk) rfl
  rw [State.work_setLive]
  exact congrArg (fun g => { s.work with pocket := g })
    (update_same s.work.pocket (hw.trans (State.work_pocket_live hr).symm))

theorem voidPocket (h : s.Follows s) (p : Fin 24) : s.Follows (s.voidPocket p).state := by
  unfold State.voidPocket
  split
  next => exact h
  next => exact h
  next r hr =>
    split
    next hp => exact h.setLive hr (by rw [hp]; rfl) trivial
    next => exact h
    all_goals
      next hp => exact h.setLive hr (by rw [hp]; rfl) (r.kindFits_purge .voided)

theorem reroutePocket (h : s.Follows s) (cls : Byte) (p : Fin 24) : s.Follows (s.reroutePocket cls p).state := by
  unfold State.reroutePocket
  split
  next r hr =>
    split
    next hp =>
      split
      next c _ =>
        have hfits := h.kinds p r hr
        refine h.setLive hr rfl ?_
        unfold LiveRecord.kindFits at hfits ⊢
        rw [hp] at hfits ⊢
        exact ⟨hfits.1, rfl, hfits.2.2⟩
      next => exact h
    next => exact h
  next => exact h

/-- Nothing of the work, the records or the dial has changed. -/
theorem unchanged {t : State} (h : s.Follows s) (hw : t.work = s.work) (hp : t.pockets = s.pockets)
    (hd : t.dial = s.dial) : s.Follows t :=
  h.same hw (h.kinds.of_same hp) (by rw [hd])

/-- The severe flags are reported after a change that the work does not show. -/
theorem reported {t : State} (h : s.Follows t) (hd : t.dial = s.dial) (before : State) :
    s.Follows (t.reportSevere before) :=
  ⟨h.agrees.reportSevere before, h.kinds.reportSevere before,
    h.paced.reportSevere h.agrees before (fun hs => .inr (hd ▸ hs)) (by rw [hd])⟩

theorem drain (h : s.Follows s) : s.Follows s.drain :=
  reported (h.unchanged (by simp) (by simp) (by simp)) (by simp) s

theorem lotAbort (h : s.Follows s) : s.Follows (replyLotAbort s).state := by
  unfold replyLotAbort
  split
  · exact h
  · refine reported (h.same ?_ ?_ ?_) ?_ s
    · have hmapped : (s.mapLive fun r => .live r.abort).work = s.work := s.work_mapLive fun _ r _ => r.abort_work
      rw [State.work_drainTest, State.work_onLot, State.work_onFeed, hmapped]
      simp [FeedUnit.abort, State.work]
    · exact (h.kinds.mapLive fun _ hr => LiveRecord.abort_kindFits hr).of_same (by simp)
    · simp
    · simp

end State.Follows

end Sys2Proof.Machine
end

section
/-! SUPPORT. The coherence of the blocks and the issue of STEP, by command, by event and by step. -/

namespace Sys2Proof.Machine

namespace State.Follows

variable {s : State}

theorem ackFaults (h : s.Follows s) (named : FlagSet) : s.Follows (s.ackFaults named) := by
  have hacked : s.Follows (s.onFaults fun u => u.acknowledge named) := h.unchanged rfl rfl rfl
  unfold State.ackFaults
  refine reported ?_ ?_ s
  · split
    · exact h.unchanged (State.work_onGates _ rfl) rfl rfl
    · exact hacked
  · split <;> rfl

theorem softReset (h : s.Follows s) (hd : s.dial.state.acceptsReset = true) : s.Follows s.softReset := by
  have hstate : s.softReset.dial.state ≠ .dwell ∧ s.softReset.dial.state ≠ .moving := by
    rw [State.softReset_dial, Dial.softReset]
    revert hd
    cases s.dial.state <;> simp [DialState.acceptsReset]
  exact ⟨h.agrees.softReset hd, h.kinds.softReset, .of_rest hstate.1 hstate.2⟩

/-- Whatever command its block is handed, a coherent state follows. -/
theorem replyOf (h : s.Follows s) (i : Instr) : s.Follows (replyOf i s).state := by
  have hsame {t : State} (hw : t.work = s.work) (hp : t.pockets = s.pockets) (hd : t.dial = s.dial) :
      s.Follows t := h.unchanged hw hp hd
  cases i with
  | setDial minDwell moveTimeout startEnable =>
    show s.Follows (replySetDial minDwell moveTimeout startEnable s).state
    unfold replySetDial
    split
    · show s.Follows (s.onDial fun d => _)
      exact h.onDial rfl rfl rfl
    · exact h
  | setFeed window =>
    show s.Follows (replySetFeed window s).state
    unfold replySetFeed
    split
    · exact hsame rfl rfl rfl
    · exact h
  | start sensed =>
    show s.Follows (replyStart sensed s).state
    unfold replyStart
    split
    · rw [State.done_state]
      exact State.Coherent.beginDwell ⟨h.agrees, h.kinds⟩ sensed
    · exact h
  | stop => exact h.stopDial
  | hold => exact h.onDial (f := fun d => { d with hostHold := true }) rfl rfl rfl
  | release =>
    have hreleased : s.Follows (s.onDial fun d => { d with hostHold := false }) := h.onDial rfl rfl rfl
    show s.Follows (State.heldTest _)
    exact ⟨hreleased.agrees.heldTest, hreleased.kinds.of_same (by simp),
      hreleased.paced.heldTest hreleased.agrees rfl rfl⟩
  | lotOpen =>
    show s.Follows (replyLotOpen s).state
    unfold replyLotOpen
    split
    · exact h
    · split
      · exact h
      next hd =>
        split
        · exact h
        · split
          · exact h
          · exact h.same (h.agrees.openLot (by simpa using hd)) h.kinds.openLot (by simp)
  | lotClose =>
    show s.Follows (replyLotClose s).state
    unfold replyLotClose
    split
    · exact h.drain
    · exact h
  | lotAbort => exact h.lotAbort
  | setNominal => exact hsame rfl rfl rfl
  | setMeasure mode aperture agreeLimit =>
    show s.Follows (replySetMeasure mode aperture agreeLimit s).state
    unfold replySetMeasure
    split
    · exact h
    · exact hsame rfl rfl rfl
  | setRetest doubtMask retestLimit slot1 slot2 lapLimit =>
    show s.Follows (replySetRetest doubtMask retestLimit slot1 slot2 lapLimit s).state
    unfold replySetRetest
    split
    · exact hsame rfl rfl rfl
    · exact h
  | setClass index lo hi guardBand primary overflow catchAll =>
    show s.Follows (replySetClass index lo hi guardBand primary overflow catchAll s).state
    unfold replySetClass
    split
    · exact hsame rfl rfl rfl
    · exact h
  | clearClasses => exact hsame rfl rfl rfl
  | setCheck => exact hsame rfl rfl rfl
  | copyActive => exact hsame rfl rfl rfl
  | readRecipe bank =>
    show s.Follows (replyReadRecipe bank s).state
    unfold replyReadRecipe
    split <;> exact h
  | setHead head timeoutSelect =>
    refine h.withHead head fun k => ?_
    split
    · show s.Follows (s.onHead k fun u => _)
      exact h.onHead rfl
    · exact h
  | setHeadCal head range offset gain =>
    refine h.withHead head fun k => ?_
    split
    · split
      · exact h
      · show s.Follows (s.onHead k fun u => _)
        exact h.onHead rfl
    · exact h
  | headEnable head => exact h.withHead head h.enableHead
  | headDisable head => exact h.withHead head h.disableHead
  | readHead head => exact h.withHead head fun _ => h
  | readHeadStats head =>
    exact h.withHead head fun k => h.onHead (f := fun u => { u with counters := ⟨0, 0, 0, 0, 0⟩ }) rfl
  | forceDoubt head => exact h.withHead head fun k => h.onHead (f := fun u => { u with forceDoubt := true }) rfl
  | setGate => exact hsame (s.work_onGates rfl) rfl rfl
  | setBin bin =>
    refine h.withBin bin fun g => ?_
    show s.Follows (State.testFill (s.onBin g _) g (s.bin g))
    exact hsame (by simp) (by simp) (by simp)
  | stall bin => exact h.withBin bin fun g => hsame rfl rfl rfl
  | unstall bin => exact h.withBin bin fun g => hsame rfl rfl rfl
  | readBin index =>
    show s.Follows (replyReadBin index s).state
    unfold replyReadBin
    split
    next c _ =>
      have hnoise : (s.onEjector c fun e => { e with noise := 0 }).work = s.work := s.work_onEjector_same rfl
      cases c with
      | gate g => exact hsame ((State.work_onBin _ g _).trans hnoise) rfl rfl
      | checkReturn => exact hsame hnoise rfl rfl
      | purge => exact hsame hnoise rfl rfl
    next => exact h
  | readPocket pocket => exact h.withPocket pocket fun _ => h
  | voidPocket pocket => exact h.withPocket pocket h.voidPocket
  | reroutePocket pocket cls => exact h.withPocket pocket (h.reroutePocket cls)
  | forceClass cls =>
    show s.Follows (replyForceClass cls s).state
    unfold replyForceClass
    split
    · exact hsame rfl rfl rfl
    · exact h
  | requestCheck =>
    show s.Follows (replyRequestCheck s).state
    unfold replyRequestCheck
    split
    · exact hsame rfl rfl rfl
    · exact h
  | ackFaults flags => exact h.ackFaults (flagSetOf flags)
  | readCapture which =>
    show s.Follows (replyReadCapture which s).state
    unfold replyReadCapture
    split <;> exact h
  | ackCapture which =>
    show s.Follows (replyAckCapture which s).state
    unfold replyAckCapture
    split
    · exact hsame rfl rfl rfl
    · exact hsame rfl rfl rfl
    · exact h
  | setAttnMask => exact hsame rfl rfl rfl
  | resetSort =>
    show s.Follows (replyResetSort s).state
    unfold replyResetSort
    split
    next hd =>
      rw [State.done_state]
      exact h.softReset hd
    next => exact h
  | _ => exact h

/-- The state after the release of RESET_N is at rest. -/
theorem powerOn (estop : Bool) (cans : BitVec 12) : s.Follows (s.powerOn estop cans) := by
  have hwork : (s.powerOn estop cans).work =
      { dial := if estop then .estopped else .idle, window := false, feeding := false, busy := fun _ => false
        head := fun _ => .resting, ejector := fun _ => .idle, pocket := fun _ => .idle } := by
    rw [State.work, Work.mk.injEq]
    refine ⟨rfl, rfl, rfl, funext fun st => ?_, funext fun h => ?_, funext fun c => ?_, funext fun p => ?_⟩
    · simp [State.isBusy, State.powerOn, State.reset]
    · cases h <;> rfl
    · simp [State.ejector, State.powerOn, State.reset, Ejector.reset]
    · rw [State.powerOn_pocket]
      rfl
  refine ⟨?_, fun p r hr => ?_, .of_rest ?_ ?_⟩
  · rw [hwork]
    constructor <;> simp [HeadWork.isMeasuring, EjectorState.isFired]
  · rw [State.powerOn_pocket] at hr
    cases hr
  all_goals
    show (if estop = true then DialState.estopped else .idle) ≠ _
    split <;> nofun

/-- Every event, where RESET_N is not asserted. -/
theorem happens (h : s.Follows s) (i : Instr) : s.Follows (s.happens i) := by
  have hhead {k : Head} {f : HeadUnit → HeadUnit} (hf : (f (s.head k)).work = (s.head k).work) :
      s.Follows (s.onHead k f) := h.onHead hf
  cases i with
  | powerOnReset estop cans => exact powerOn estop cans
  | resetNAsserted => exact h.same s.work_releaseOutputs h.kinds rfl
  | indexDone sensed =>
    have hhonoured : s.Follows (s.honourIndex sensed) := by
      have hmoved : ((s.onDial fun d => { d with moveTimer := .stopped }).advance).work.Agrees := by
        have hstopped : (s.onDial fun d => { d with moveTimer := .stopped }).work.Agrees := h.agrees.onDial rfl rfl
        exact hstopped.onDial (f := fun d => { d with position := d.position + 1 }) rfl rfl
      exact State.Coherent.beginDwell ⟨hmoved, h.kinds⟩ sensed
    dsimp only [State.happens]
    split
    · exact hhonoured
    · exact hhonoured
    · exact h.spuriousIndex
  | minDwellExpiry =>
    dsimp only [State.happens]
    split
    · exact ⟨Work.Agrees.endDwellTest (h.agrees.onDial rfl rfl),
        State.KindsFit.endDwellTest (s := s.onDial _) h.kinds, .of_endDwellTest rfl rfl⟩
    · exact h
  | moveTimerExpiry =>
    dsimp only [State.happens]
    split
    next hm =>
      refine ⟨?_, h.kinds, .of_rest nofun nofun⟩
      have hempty := s.busyEmpty_iff.mpr (h.agrees.settled (.inr (.inl hm)))
      exact h.agrees.onDial_empty (f := fun d => { d with state := .jammed, moveTimer := .stopped }) rfl hempty
    next => exact h
  | estopAsserted =>
    dsimp only [State.happens]
    split
    · exact h.unchanged rfl rfl rfl
    · exact .emergencyStop (t := { s with lines := { s.lines with estop := true } }) h.agrees h.kinds
  | estopReleased =>
    dsimp only [State.happens]
    split
    next he =>
      have hidle : s.Follows
          (State.onDial { s with lines := { s.lines with estop := false } } fun d => { d with state := .idle }) := by
        refine ⟨?_, h.kinds, .of_rest nofun nofun⟩
        rw [State.work_onDial _ rfl]
        exact h.agrees.dialTurns (by simp) fun _ => h.agrees.still (by simp [State.work, he])
      exact ⟨hidle.agrees.reportSevere s, hidle.kinds.reportSevere s,
        hidle.paced.reportSevere hidle.agrees s (fun hs => nomatch hs) rfl⟩
    next => exact reported (t := { s with lines := { s.lines with estop := false } }) (h.unchanged rfl rfl rfl) rfl s
  | startLineEdge sensed =>
    dsimp only [State.happens]
    split
    · exact State.Coherent.beginDwell ⟨h.agrees, h.kinds⟩ sensed
    · exact h
  | feedPulseEnd => exact h.unchanged (s.work_onFeed _) rfl rfl
  | loadSense => exact .tests h.agrees.loadSense h.kinds.loadSense s.loadSense_aside
  | feedWindowExpiry => exact .endDwellTest h.agrees.feedMiss h.kinds.feedMiss s.feedMiss_aside
  | requestSent k =>
    refine hhead ?_
    unfold HeadUnit.requestSent
    split
    next q hq =>
      split
      · rfl
      · exact HeadUnit.work_congr rfl (by rw [hq]; rfl)
    next => rfl
  | quietTimerExpiry k => exact h.onHead (f := fun u => { u with quietTimer := .stopped }) rfl
  | result k tag code status =>
    exact .endDwellTest (h.agrees.receiveFrame k _) (h.kinds.receiveFrame k _) (s.receiveFrame_aside k _)
  | identAnswer k tag maxRange =>
    have hd := s.receiveFrame_ident_dial k tag maxRange
    have hreceived : s.Follows (s.receiveFrame k (.ident tag maxRange)) :=
      ⟨h.agrees.receiveFrame k _, h.kinds.receiveFrame k _, .of_kept (by rw [hd]) (by rw [hd]) (by rw [hd])⟩
    exact hreceived.reported hd s
  | responseTimeout k =>
    exact .endDwellTest (h.agrees.responseTimeout k) (h.kinds.responseTimeout k) (s.responseTimeout_aside k)
  | linkPause k =>
    dsimp only [State.happens]
    split
    · exact hhead rfl
    · exact h
  | framingError k =>
    dsimp only [State.happens]
    split
    · exact h
    · exact hhead rfl
  | unknownType k b => exact .tests (h.agrees.receiveByte k b) (h.kinds.receiveByte k b) (s.receiveByte_aside k b)
  | discardQuiet k =>
    dsimp only [State.happens]
    split
    · exact hhead rfl
    · exact h
  | pulseTimerExpiry c =>
    exact h.unchanged
      (s.work_onEjector_same (c := c) (f := fun e => { e with driven := false, pulseTimer := .stopped }) rfl) rfl rfl
  | chutePulse c => exact .endDwellTest (h.agrees.chutePulse c) (h.kinds.chutePulse c) (s.chutePulse_aside c)
  | windowTimerExpiry c =>
    exact .endDwellTest (h.agrees.windowExpiry c) (h.kinds.windowExpiry h.agrees c) (s.windowExpiry_aside c)
  | canRemoved g => exact h.unchanged rfl rfl rfl
  | canInserted g => exact h.unchanged rfl rfl rfl
  | byteReceived k b => exact .tests (h.agrees.receiveByte k b) (h.kinds.receiveByte k b) (s.receiveByte_aside k b)
  | _ => exact h

/-- From a coherent state every step leads to one that follows. -/
theorem step {t : State} (hc : s.Coherent) (ht : step s = .next t) : s.Follows t := by
  have hqueue (q : List Instr) : s.Follows { s with pending := q } :=
    (of_coherent hc).unchanged rfl rfl rfl
  have hfrom {u t : State} (hd : u.dial = s.dial) (hu : u.Follows t) : s.Follows t := by
    refine ⟨hu.agrees, hu.kinds, fun ho => ?_, fun hn hm => ?_⟩
    · have hover := hu.paced.ended ho
      rw [State.dwellOver, State.busyEmpty, hd] at hover
      exact hover
    · have hissues := hu.paced.issues
      rw [hd] at hissues
      exact hissues hn hm
  refine step_induction ht hqueue (fun _ f hu => hu.onLink f) (fun q i _ => ?_) fun q f i => ?_
  · exact hfrom (u := { s with pending := q }) rfl (happens (of_coherent (hc.withPending q)) i)
  · have hlinked : State.Coherent (State.onLink { s with pending := q } f) := ((hqueue q).onLink f).coherent
    exact hfrom (u := State.onLink { s with pending := q } f) rfl (replyOf (of_coherent hlinked) i)

end State.Follows

/-- Settles O56: what each row does to the work in flight keeps the blocks agreed on it, the records it writes are of a kind
that their state admits, and the tests of R4 and R5 close every event that can end a dwell. -/
theorem blocksStayCoherent : Obligations.BlocksStayCoherent := by
  intro s t hc hd ht
  have h := State.Follows.step hc ht
  exact ⟨h.coherent, Bool.eq_false_iff.mpr fun ho => by rw [h.paced.ended ho] at hd; cases hd⟩

/-- Settles O60: only the tests of R4 and R5 issue STEP, and what they test still stands after the step. -/
theorem stepIssuedOnlyWhenClear : Obligations.StepIssuedOnlyWhenClear :=
  fun _ _ hc ht => (State.Follows.step hc ht).paced.issues

end Sys2Proof.Machine
end

section
/-! SUPPORT. The conditions that every step keeps, right after the reset. -/

namespace Sys2Proof.Machine

theorem State.reset_pocket (p : Fin 24) : State.reset.pocket p = .unknown := by
  simp [State.reset, State.pocket]

theorem State.reset_bin (g : Fin 12) : State.reset.bin g = Bin.reset true := by
  simp [State.reset, State.bin]

theorem State.reset_ejector (c : Chute) : State.reset.ejector c = Ejector.reset := by
  simp [State.reset, State.ejector]

theorem State.reset_head (h : Head) : State.reset.head h = HeadUnit.reset := by
  cases h <;> rfl

theorem State.reset_isBusy (st : Station) : State.reset.isBusy st = false := by
  simp [State.reset, State.isBusy]

/-- Right after the reset nothing is in work. -/
theorem State.reset_work :
    State.reset.work =
      { dial := .idle, window := false, feeding := false, busy := fun _ => false
        head := fun _ => .resting, ejector := fun _ => .idle, pocket := fun _ => .idle } := by
  rw [State.work, Work.mk.injEq]
  refine ⟨rfl, rfl, rfl, funext State.reset_isBusy, funext fun h => ?_, funext fun c => ?_, funext fun p => ?_⟩
  · rw [State.reset_head]; rfl
  · rw [State.reset_ejector]; rfl
  · rw [State.reset_pocket]; rfl

theorem State.reset_coherent : State.reset.Coherent := by
  rw [State.coherent_iff]
  refine ⟨?_, fun p r hr => ?_⟩
  · rw [State.reset_work]
    constructor <;> simp [HeadWork.isMeasuring, EjectorState.isFired]
  · rw [State.reset_pocket] at hr
    cases hr

theorem Recipe.reset_inRange : Recipe.reset.InRange where
  mantissa := by decide
  exponent := by decide
  agreeLimit := by decide
  doubtMask := by decide
  retestLimit := by decide
  lapLimit := by decide
  classes i c h := by simp [Recipe.cls, Recipe.reset] at h
  checkInterval := .inl rfl
  certified := by decide
  driftLimit := by decide

theorem State.reset_settingsInRange : State.reset.SettingsInRange where
  minDwell := by decide
  moveTimeout := by decide
  feedWindow := by decide
  calibration h i := by
    rw [State.reset_head]
    constructor <;> simp [HeadUnit.reset]
  capacity g := by rw [State.reset_bin]; decide
  threshold g := by rw [State.reset_bin]; decide
  pulseWidth := by decide
  confirmWindow := by decide
  windowHoldsPulse := by decide
  pendingBank := Recipe.reset_inRange
  activeBank := Recipe.reset_inRange
  attnMask := by decide

theorem State.reset_countsInRange : State.reset.CountsInRange where
  feedMisses := by decide
  checkMisses := by decide
  noReplies h := by rw [State.reset_head]; decide
  headCounters h := by rw [State.reset_head]; constructor <;> decide
  fill g := by rw [State.reset_bin]; decide
  binMisses g := by rw [State.reset_bin]; decide
  spills g := by rw [State.reset_bin]; decide
  noise c := by rw [State.reset_ejector]; decide
  purgeMisses := by decide
  checkCounter := by decide
  checkComing := by decide
  exposure h := by cases h <;> decide
  lastDrift h := by cases h <;> decide
  lotNumber := by decide
  lotNumbered := by decide
  lotCounters := by constructor <;> simp [State.reset, LotCounters.zero]

/-- Settles O59: the settings and the counts of the reset are read one by one; it holds no record and no work. -/
theorem invariantsHoldAtReset : Obligations.InvariantsHoldAtReset := by
  have hnone {p : Fin 24} {r : LiveRecord} (hr : State.reset.pocket p = .live r) : False := by
    rw [State.reset_pocket] at hr
    cases hr
  have hlot : State.reset.lot.state = .noLot := rfl
  refine ⟨State.reset_settingsInRange, State.reset_countsInRange, State.reset_coherent, by decide,
    fun p r hr => (hnone hr).elim, fun p r hr => (hnone hr).elim, ?_⟩
  exact ⟨fun h => absurd hlot h, fun h => absurd hlot h, fun h => (by rw [hlot] at h; cases h), fun h => absurd hlot h⟩

end Sys2Proof.Machine
end

section
/-! SUPPORT. The ranges of the settings and of the counts, block by block, and what keeps each block within them (R15, R32, R60,
R61, R66, R97, R114, R116, R136, R137, R149, R163, R171). -/

namespace Sys2Proof.Machine

/-! ### The ranges of each block -/

structure Dial.Ranged (d : Dial) : Prop where
  minDwell : 20 ≤ d.minDwell ∧ d.minDwell ≤ 500
  moveTimeout : 50 ≤ d.moveTimeout ∧ d.moveTimeout ≤ 2000

structure FeedUnit.Ranged (u : FeedUnit) : Prop where
  window : 5 ≤ u.window ∧ u.window ≤ 100
  misses : u.misses ≤ 7
  checkMisses : u.checkMisses ≤ 2

structure HeadUnit.Ranged (u : HeadUnit) : Prop where
  calibration : ∀ i : Fin 7, (u.calibration[i.val]).InRange
  noReplies : u.noReplies ≤ 2
  counters : u.counters.InRange

structure Bin.Ranged (b : Bin) : Prop where
  capacity : 1 ≤ b.capacity ∧ b.capacity ≤ 65535
  threshold : b.threshold ≤ b.capacity
  fill : b.fill ≤ 65535
  misses : b.misses ≤ 3
  spills : b.spills ≤ 65535

structure GateSettings.Ranged (g : GateSettings) : Prop where
  pulseWidth : 2 ≤ g.pulseWidth ∧ g.pulseWidth ≤ 20
  confirmWindow : 5 ≤ g.confirmWindow ∧ g.confirmWindow ≤ 50
  windowHoldsPulse : g.pulseWidth ≤ g.confirmWindow

structure GateUnit.Ranged (u : GateUnit) : Prop where
  bins : ∀ g : Fin 12, (u.bins[g.val]).Ranged
  noise : ∀ c : Chute, (u.ejectors[(chuteIndex c).val]).noise ≤ 65535
  purgeMisses : u.purgeMisses ≤ 3
  settings : u.settings.Ranged

/-- The check unit under the ACTIVE check interval `k`. -/
structure CheckUnit.Ranged (k : Nat) (u : CheckUnit) : Prop where
  counter : u.counter ≤ 5000
  coming : u.due = false → k ≠ 0 → u.counter < k
  exposure : ∀ h, u.exposure.get h ≤ 65535
  lastDrift : ∀ h, -1999999 ≤ u.lastDrift.get h ∧ u.lastDrift.get h ≤ 10999998

structure Lot.Ranged (l : Lot) : Prop where
  number : l.number ≤ 65535
  numbered : l.state ≠ .noLot → 1 ≤ l.number
  counters : l.counters.InRange

structure Banks.Ranged (b : Banks) : Prop where
  pending : b.pending.InRange
  active : b.active.InRange

/-- The attention mask holds attention flags alone. -/
def FaultUnit.Ranged (u : FaultUnit) : Prop := u.attnMask &&& ~~~0x7FFC0#19 = 0#19

structure BlocksRanged (dial : Dial) (feed : FeedUnit) (heads : PerHead HeadUnit) (check : CheckUnit)
    (gates : GateUnit) (banks : Banks) (lot : Lot) (faults : FaultUnit) : Prop where
  dial : dial.Ranged
  feed : feed.Ranged
  heads : ∀ h, (heads.get h).Ranged
  check : check.Ranged banks.active.checkInterval
  gates : gates.Ranged
  banks : banks.Ranged
  lot : lot.Ranged
  faults : faults.Ranged

/-- Every block of the part is within its ranges. -/
def State.Ranged (s : State) : Prop :=
  BlocksRanged s.dial s.feed s.heads s.check s.gates s.banks s.lot s.faults

theorem State.ranged_iff (s : State) : s.Ranged ↔ s.SettingsInRange ∧ s.CountsInRange := by
  constructor
  · rintro ⟨hdial, hfeed, hheads, hcheck, hgates, hbanks, hlot, hfaults⟩
    exact ⟨⟨hdial.minDwell, hdial.moveTimeout, hfeed.window, fun h => (hheads h).calibration,
        fun g => (hgates.bins g).capacity, fun g => (hgates.bins g).threshold, hgates.settings.pulseWidth,
        hgates.settings.confirmWindow, hgates.settings.windowHoldsPulse, hbanks.pending, hbanks.active, hfaults⟩,
      ⟨hfeed.misses, hfeed.checkMisses, fun h => (hheads h).noReplies, fun h => (hheads h).counters,
        fun g => (hgates.bins g).fill, fun g => (hgates.bins g).misses, fun g => (hgates.bins g).spills,
        hgates.noise, hgates.purgeMisses, hcheck.counter, hcheck.coming, hcheck.exposure, hcheck.lastDrift,
        hlot.number, hlot.numbered, hlot.counters⟩⟩
  · rintro ⟨hs, hc⟩
    exact ⟨⟨hs.minDwell, hs.moveTimeout⟩, ⟨hs.feedWindow, hc.feedMisses, hc.checkMisses⟩,
      fun h => ⟨hs.calibration h, hc.noReplies h, hc.headCounters h⟩,
      ⟨hc.checkCounter, hc.checkComing, hc.exposure, hc.lastDrift⟩,
      ⟨fun g => ⟨hs.capacity g, hs.threshold g, hc.fill g, hc.binMisses g, hc.spills g⟩, hc.noise, hc.purgeMisses,
        ⟨hs.pulseWidth, hs.confirmWindow, hs.windowHoldsPulse⟩⟩,
      ⟨hs.pendingBank, hs.activeBank⟩, ⟨hc.lotNumber, hc.lotNumbered, hc.lotCounters⟩, hs.attnMask⟩

/-! ### Counting and clamping -/

theorem satAdd_le (max n k : Nat) : satAdd max n k ≤ max := Nat.min_le_left _ _

theorem bump_le (max n : Nat) : bump max n ≤ max := satAdd_le _ _ _

theorem count16_le (n : Nat) : count16 n ≤ 65535 := bump_le _ _

theorem count32_le (n : Nat) : count32 n ≤ 4294967295 := bump_le _ _

theorem clampNat_mem {lo hi : Nat} (h : lo ≤ hi) (x : Nat) : lo ≤ clampNat lo hi x ∧ clampNat lo hi x ≤ hi := by
  unfold clampNat
  omega

theorem clampSigned_mem {lo hi : Int} (h : lo ≤ hi) (x : Int) :
    lo ≤ clampSigned lo hi x ∧ clampSigned lo hi x ≤ hi := by
  unfold clampSigned
  omega

/-! ### The heads -/

namespace HeadUnit.Ranged

variable {u : HeadUnit}

/-- A head changed but for its calibration, its no-reply count and its counters. -/
theorem of_same (h : u.Ranged) {v : HeadUnit} (hc : v.calibration = u.calibration) (hn : v.noReplies = u.noReplies)
    (hk : v.counters = u.counters) : v.Ranged :=
  ⟨by rw [hc]; exact h.calibration, hn ▸ h.noReplies, hk ▸ h.counters⟩

theorem countLate (h : u.Ranged) : u.countLate.Ranged :=
  ⟨h.calibration, h.noReplies, { h.counters with late := count16_le _ }⟩

theorem countLinkError (h : u.Ranged) : u.countLinkError.Ranged :=
  ⟨h.calibration, h.noReplies, { h.counters with linkErrors := count16_le _ }⟩

theorem resultTaken (h : u.Ranged) : u.resultTaken.Ranged :=
  ⟨h.calibration, Nat.zero_le _, { h.counters with measurements := count16_le _ }⟩

theorem noReply (h : u.Ranged) : u.noReply.Ranged := by
  refine ⟨h.calibration, ?_, { h.counters with measurements := count16_le _, noReplies := count16_le _ }⟩
  simp only [HeadUnit.noReply, Config.noReplyLimit]
  by_cases hlost : 3 ≤ u.noReplies + 1
  · simp [hlost]
  · simp [hlost]
    omega

theorem keptReading (h : u.Ranged) (forceDoubt doubtful : Bool) :
    HeadUnit.Ranged
      { u with
        forceDoubt := forceDoubt
        counters := { u.counters with
          doubtful := if doubtful then count16 u.counters.doubtful else u.counters.doubtful } } := by
  refine ⟨h.calibration, h.noReplies, { h.counters with doubtful := ?_ }⟩
  dsimp only
  split
  · exact count16_le _
  · exact h.counters.doubtful

theorem requestSent (h : u.Ranged) : u.requestSent.Ranged := by
  unfold HeadUnit.requestSent
  split
  · split
    · exact h
    · exact h.of_same rfl rfl rfl
  · exact h

theorem calibrated (h : u.Ranged) (i : Fin 7) {c : Calibration} (hc : c.InRange) :
    HeadUnit.Ranged { u with calibration := u.calibration.set i.val c } := by
  refine ⟨fun j => ?_, h.noReplies, h.counters⟩
  simp only [Vector.getElem_set]
  split
  · exact hc
  · exact h.calibration j

theorem cleared (h : u.Ranged) : HeadUnit.Ranged { u with counters := ⟨0, 0, 0, 0, 0⟩ } :=
  ⟨h.calibration, h.noReplies, by constructor <;> exact Nat.zero_le _⟩

theorem dropIncapable (h : u.Ranged) (range : Fin 7) : (u.dropIncapable range).Ranged := by
  rw [HeadUnit.dropIncapable_eq]
  exact h.of_same rfl rfl rfl

end HeadUnit.Ranged

/-! ### The check unit -/

namespace CheckUnit.Ranged

variable {k : Nat} {u : CheckUnit}

theorem restart (h : u.Ranged k) (k' : Nat) : u.restart.Ranged k' :=
  ⟨Nat.zero_le _, fun _ hk => Nat.pos_of_ne_zero hk, h.exposure, h.lastDrift⟩

/-- The counter reaches the interval only with check-due (R137). -/
theorem partLoaded (h : u.Ranged k) (hk : k ≤ 5000) : (u.partLoaded k).Ranged k := by
  unfold CheckUnit.partLoaded
  split
  · exact h
  next hn =>
    obtain ⟨hk0, hdue⟩ := not_or.mp hn
    have hlt := h.coming (Bool.eq_false_iff.mpr hdue) hk0
    refine ⟨by dsimp only; omega, fun hd _ => ?_, h.exposure, h.lastDrift⟩
    have := of_decide_eq_false hd
    dsimp only
    omega

theorem due (h : u.Ranged k) : CheckUnit.Ranged k { u with due := true } :=
  ⟨h.counter, nofun, h.exposure, h.lastDrift⟩

theorem exposed (h : u.Ranged k) (hd : Head) {n : Nat} (hn : n ≤ 65535) :
    CheckUnit.Ranged k { u with exposure := u.exposure.set hd n } := by
  refine ⟨h.counter, h.coming, fun x => ?_, h.lastDrift⟩
  rw [PerHead.get_set]
  split
  · exact hn
  · exact h.exposure x

theorem drifted (h : u.Ranged k) (hd : Head) {d : Int} (h1 : -1999999 ≤ d) (h2 : d ≤ 10999998) :
    CheckUnit.Ranged k { u with lastDrift := u.lastDrift.set hd d } := by
  refine ⟨h.counter, h.coming, h.exposure, fun x => ?_⟩
  rw [PerHead.get_set]
  split
  · exact ⟨h1, h2⟩
  · exact h.lastDrift x

theorem exposeDeciders (h : u.Ranged k) (g : Option Grading) : (u.exposeDeciders g).Ranged k := by
  have hone {v : CheckUnit} (hv : v.Ranged k) (hd : Head) : (v.expose hd).Ranged k := hv.exposed hd (count16_le _)
  unfold CheckUnit.exposeDeciders
  split
  · exact hone h _
  · exact hone (hone h .a) .b
  · exact h

end CheckUnit.Ranged

/-! ### Bins, gates and lot counters -/

/-- A bin changed but for its settings and its counts. -/
theorem Bin.Ranged.of_same {b c : Bin} (h : b.Ranged) (hc : c.capacity = b.capacity) (ht : c.threshold = b.threshold)
    (hf : c.fill = b.fill) (hm : c.misses = b.misses) (hs : c.spills = b.spills) : c.Ranged :=
  ⟨hc ▸ h.capacity, by rw [hc, ht]; exact h.threshold, hf ▸ h.fill, hm ▸ h.misses, hs ▸ h.spills⟩

namespace GateUnit.Ranged

variable {u : GateUnit}

theorem onBin (h : u.Ranged) (g : Fin 12) {b : Bin} (hb : b.Ranged) :
    GateUnit.Ranged { u with bins := u.bins.set g.val b } := by
  refine ⟨fun k => ?_, h.noise, h.purgeMisses, h.settings⟩
  simp only [Vector.getElem_set]
  split
  · exact hb
  · exact h.bins k

theorem onEjector (h : u.Ranged) (c : Chute) {e : Ejector} (he : e.noise ≤ 65535) :
    GateUnit.Ranged { u with ejectors := u.ejectors.set (chuteIndex c).val e } := by
  refine ⟨h.bins, fun d => ?_, h.purgeMisses, h.settings⟩
  simp only [Vector.getElem_set]
  split
  · exact he
  · exact h.noise d

theorem misses (h : u.Ranged) {n : Nat} (hn : n ≤ 3) : GateUnit.Ranged { u with purgeMisses := n } :=
  ⟨h.bins, h.noise, hn, h.settings⟩

theorem released (h : u.Ranged) :
    GateUnit.Ranged
      { u with
        ejectors := Vector.ofFn fun i : Fin 14 =>
          { u.ejectors[i.val] with driven := false, pulseTimer := .stopped } } := by
  refine ⟨h.bins, fun c => ?_, h.purgeMisses, h.settings⟩
  simpa using h.noise c

theorem softReset (h : u.Ranged) : u.softReset.Ranged := by
  refine ⟨fun g => ?_, h.noise, Nat.zero_le _, h.settings⟩
  have hb := h.bins g
  simp only [GateUnit.softReset, Vector.getElem_ofFn]
  exact ⟨hb.capacity, hb.threshold, hb.fill, Nat.zero_le _, hb.spills⟩

end GateUnit.Ranged

namespace LotCounters.InRange

variable {c : LotCounters}

theorem zero : LotCounters.zero.InRange := by
  constructor <;> simp [LotCounters.zero]

theorem countBinned (h : c.InRange) (g : Fin 12) : (LotCounters.countBinned g c).InRange := by
  refine { h with binned := fun k => ?_ }
  simp only [LotCounters.countBinned, Vector.getElem_set]
  split
  · exact count32_le _
  · exact h.binned k

theorem countPurged (h : c.InRange) (reason : PurgeReason) : (LotCounters.countPurged reason c).InRange := by
  refine { h with purged := fun k => ?_ }
  simp only [LotCounters.countPurged, Vector.getElem_set]
  split
  · exact count32_le _
  · exact h.purged k

theorem countLoad (h : c.InRange) (k : Kind) : (k.countLoad c).InRange := by
  unfold Kind.countLoad
  split
  · exact { h with loaded := count32_le _ }
  · exact { h with checkLoads := bump_le _ _ }

end LotCounters.InRange

theorem Lot.Ranged.withState {l : Lot} (h : l.Ranged) {x : LotState} (hx : x ≠ .noLot → l.state ≠ .noLot) :
    Lot.Ranged { l with state := x } :=
  ⟨h.number, fun hn => h.numbered (hx hn), h.counters⟩

/-- A load takes a lot to DRAINING only from OPEN (R161). -/
theorem Lot.Ranged.serialLimit {l : Lot} (h : l.Ranged) (k : Kind) : (Lot.serialLimit l k).Ranged := by
  have hdrain (atLimit : Bool) :
      Lot.Ranged (if l.state == .open_ && atLimit then { l with state := .draining } else l) := by
    split
    next hopen =>
      refine h.withState fun _ hn => ?_
      rw [Bool.and_eq_true] at hopen
      have := eq_of_beq hopen.1
      rw [hn] at this
      cases this
    next => exact h
  cases k with
  | part => exact hdrain _
  | check => exact hdrain _

end Sys2Proof.Machine
end

section
/-! SUPPORT. Every operation keeps the blocks within their ranges: measurements, arrivals, feeds, ejections, stops. -/

namespace Sys2Proof.Machine

namespace State.Ranged

variable {s : State}

/-! ### The named updates -/

/-- A change that leaves every block with ranges as it is. -/
theorem of_same {t : State} (h : s.Ranged) (hd : t.dial = s.dial) (hf : t.feed = s.feed) (hh : ∀ k, t.head k = s.head k)
    (hc : t.check = s.check) (hg : t.gates = s.gates) (hb : t.banks = s.banks) (hl : t.lot = s.lot)
    (hu : t.faults.attnMask = s.faults.attnMask) : t.Ranged := by
  refine ⟨hd ▸ h.dial, hf ▸ h.feed, fun k => ?_, by rw [hc, hb]; exact h.check, hg ▸ h.gates, hb ▸ h.banks,
    hl ▸ h.lot, (congrArg (· &&& ~~~0x7FFC0#19) hu).trans h.faults⟩
  have := hh k
  rw [State.head_def, State.head_def] at this
  rw [this]
  exact h.heads k

theorem head (h : s.Ranged) (k : Head) : (s.head k).Ranged := h.heads k

theorem bin (h : s.Ranged) (g : Fin 12) : (s.bin g).Ranged := h.gates.bins g

theorem onHead (h : s.Ranged) (k : Head) {f : HeadUnit → HeadUnit} (hf : (f (s.head k)).Ranged) :
    (s.onHead k f).Ranged := by
  refine { h with heads := fun x => ?_ }
  show ((s.heads.set k (f (s.heads.get k))).get x).Ranged
  rw [PerHead.get_set]
  split
  · exact hf
  · exact h.heads x

theorem onDial (h : s.Ranged) {f : Dial → Dial} (hf : (f s.dial).Ranged) : (s.onDial f).Ranged :=
  { h with dial := hf }

theorem onFeed (h : s.Ranged) {f : FeedUnit → FeedUnit} (hf : (f s.feed).Ranged) : (s.onFeed f).Ranged :=
  { h with feed := hf }

theorem onCheck (h : s.Ranged) {f : CheckUnit → CheckUnit}
    (hf : (f s.check).Ranged s.banks.active.checkInterval) : (s.onCheck f).Ranged :=
  { h with check := hf }

theorem onGates (h : s.Ranged) {f : GateUnit → GateUnit} (hf : (f s.gates).Ranged) : (s.onGates f).Ranged :=
  { h with gates := hf }

theorem onBin (h : s.Ranged) (g : Fin 12) {f : Bin → Bin} (hf : (f (s.bin g)).Ranged) : (s.onBin g f).Ranged :=
  h.onGates (h.gates.onBin g hf)

theorem onEjector (h : s.Ranged) (c : Chute) {f : Ejector → Ejector} (hf : (f (s.ejector c)).noise ≤ 65535) :
    (s.onEjector c f).Ranged :=
  h.onGates (h.gates.onEjector c hf)

theorem onLot (h : s.Ranged) {f : Lot → Lot} (hf : (f s.lot).Ranged) : (s.onLot f).Ranged := { h with lot := hf }

theorem onFaults (h : s.Ranged) {f : FaultUnit → FaultUnit} (hf : (f s.faults).attnMask = s.faults.attnMask) :
    (s.onFaults f).Ranged :=
  { h with faults := (congrArg (· &&& ~~~0x7FFC0#19) hf).trans h.faults }

theorem onLink (h : s.Ranged) (f : Link → Link) : (s.onLink f).Ranged := h

theorem onCounters (h : s.Ranged) {f : LotCounters → LotCounters} (hf : (f s.lot.counters).InRange) :
    (s.onCounters f).Ranged :=
  h.onLot ⟨h.lot.number, h.lot.numbered, hf⟩

theorem reportPart (h : s.Ranged) (r : LiveRecord) {f : LotCounters → LotCounters} (hf : (f s.lot.counters).InRange) :
    (s.reportPart r f).Ranged := by
  unfold State.reportPart
  split
  · exact h.onCounters hf
  · exact h

theorem onPendingBank (h : s.Ranged) {f : Recipe → Recipe} (hf : (f s.banks.pending).InRange) :
    (s.onPendingBank f).Ranged :=
  { h with banks := ⟨hf, h.banks.active⟩ }

theorem setPocket (h : s.Ranged) (p : Fin 24) (x : PocketRecord) : (s.setPocket p x).Ranged := h

theorem setLive (h : s.Ranged) (p : Fin 24) (r : LiveRecord) : (s.setLive p r).Ranged := h

theorem mapLive (h : s.Ranged) (f : LiveRecord → PocketRecord) : (s.mapLive f).Ranged :=
  h.of_same (by simp) (by simp) (by simp) (by simp) (by simp) (by simp) (by simp) (by simp)

theorem joinBusy (h : s.Ranged) (st : Station) : (s.joinBusy st).Ranged :=
  h.onDial ⟨h.dial.minDwell, h.dial.moveTimeout⟩

theorem leaveBusy (h : s.Ranged) (st : Station) : (s.leaveBusy st).Ranged :=
  h.onDial ⟨h.dial.minDwell, h.dial.moveTimeout⟩

/-- The dial changed but for its settings. -/
theorem moved (h : s.Ranged) {f : Dial → Dial} (h1 : (f s.dial).minDwell = s.dial.minDwell)
    (h2 : (f s.dial).moveTimeout = s.dial.moveTimeout) : (s.onDial f).Ranged :=
  h.onDial ⟨h1 ▸ h.dial.minDwell, h2 ▸ h.dial.moveTimeout⟩

theorem raise (h : s.Ranged) (f : Flag) : (s.raise f).Ranged := h.onFaults rfl

theorem raiseHead (h : s.Ranged) (c : HeadCapture) : (s.raiseHead c).Ranged := (h.raise _).onFaults rfl

theorem raisePocket (h : s.Ranged) (c : PocketCapture) : (s.raisePocket c).Ranged := (h.raise _).onFaults rfl

theorem raiseSubstituted (h : s.Ranged) (x : Option Head) : (s.raiseSubstituted x).Ranged := by
  cases x with
  | none => exact h
  | some k => exact h.raiseHead _

theorem testFill (h : s.Ranged) (g : Fin 12) (b : Bin) : (s.testFill g b).Ranged := by
  dsimp only [State.testFill]
  have hfull {u : State} (hu : u.Ranged) : (u.raiseFull g).Ranged := (hu.raise _).onFaults rfl
  have hnear : (s.raiseNearFull g).Ranged := (h.raise _).onFaults rfl
  split <;> split
  · exact hfull hnear
  · exact hfull h
  · exact hnear
  · exact h

theorem drainTest (h : s.Ranged) : s.drainTest.Ranged := by
  unfold State.drainTest
  split
  · exact h.onLot (h.lot.withState fun hn => absurd rfl hn)
  · exact h

theorem endDwellTest (h : s.Ranged) : s.endDwellTest.Ranged := by
  rcases s.endDwellTest_cases with ⟨-, he⟩ | ⟨-, -, he⟩ | ⟨-, -, -, he⟩ | ⟨-, -, -, -, he⟩ <;> rw [he]
  · exact h
  all_goals exact h.moved (f := fun _ => _) rfl rfl

theorem heldTest (h : s.Ranged) : s.heldTest.Ranged := by
  unfold State.heldTest
  split
  · exact h.moved rfl rfl
  · exact h

theorem reportSevere (h : s.Ranged) (before : State) : (s.reportSevere before).Ranged := by
  unfold State.reportSevere
  split
  · exact h.heldTest
  · exact h

/-! ### Measurements -/

theorem headLeft (h : s.Ranged) : s.headLeft.Ranged := h.mapLive _

/-- A head changed but for its calibration and its counts. -/
theorem onHead_same (h : s.Ranged) (k : Head) {f : HeadUnit → HeadUnit}
    (hc : (f (s.head k)).calibration = (s.head k).calibration) (hn : (f (s.head k)).noReplies = (s.head k).noReplies)
    (hk : (f (s.head k)).counters = (s.head k).counters) : (s.onHead k f).Ranged :=
  h.onHead k ((h.head k).of_same hc hn hk)

theorem recalled (h : s.Ranged) (failed : Head) (epoch : BitVec 16) : (s.recall failed epoch).Ranged := by
  have hmapped := h.mapLive fun r => .live (s.recallRecord failed epoch r)
  exact hmapped.onCounters { hmapped.lot.counters with recalled := satAdd_le _ _ _ }

theorem applyRecall (h : s.Ranged) (p : Fin 24) (r : LiveRecord) (k : Head) : (s.applyRecall p r k).Ranged :=
  (h.setLive p _).reportPart r { h.lot.counters with recalled := count32_le _ }

theorem nextEpoch (h : s.Ranged) (k : Head) : (s.nextEpoch k).Ranged := by
  have hhead := h.onHead_same k (f := fun u => { u with epoch := u.epoch + 1#16 }) rfl rfl rfl
  exact hhead.onCheck (hhead.check.exposed k (Nat.zero_le _))

theorem checkFail (h : s.Ranged) (k : Head) (drift : Int) : (s.checkFail k drift).Ranged :=
  ((((h.onHead_same k rfl rfl rfl).headLeft).raiseHead _).recalled k (s.head k).epoch).nextEpoch k

/-- A drift is the deviation of a reading less the certified deviation (R75, R140). -/
theorem checkDecision (h : s.Ranged) {x : Reading} (hx : x.InBounds) : (s.checkDecision x).Ranged := by
  unfold State.checkDecision
  split
  next v _ hv =>
    obtain ⟨hlo, hhi⟩ := hx v hv
    obtain ⟨hclo, hchi⟩ := h.banks.active.certified
    have hdrift := h.onCheck (f := fun u =>
        { u with lastDrift := u.lastDrift.set x.head (v.deviation - s.banks.active.certified) })
      (h.check.drifted x.head (by omega) (by omega))
    dsimp only
    split
    · exact hdrift.nextEpoch _
    · exact hdrift.checkFail _ _
  next => exact h.onCheck h.check.due

theorem clearForce (h : s.Ranged) (b : Bool) :
    State.Ranged (if b then { s with forceClass := none } else s) := by
  split
  · exact h
  · exact h

theorem completeAttempt (h : s.Ranged) (p : Fin 24) (r : LiveRecord) (x : Reading) (attempt : Attempt)
    (verdict : Option Grading) : (s.completeAttempt p r x attempt verdict).Ranged := by
  dsimp only [State.completeAttempt]
  refine raiseSubstituted ?_ _
  have hcleared := clearForce (h.setLive p ((s.afterAttempt (r.append x) x.head verdict).1.degrade
    (s.banks.active.substitutedFor r x.head attempt))) verdict.isSome
  split
  · exact hcleared.reportPart r { hcleared.lot.counters with retests := count32_le _ }
  · exact hcleared

theorem judgePart (h : s.Ranged) (p : Fin 24) (r : LiveRecord) (openPair : Bool) (x : Reading) :
    (s.judgePart p r openPair x).Ranged := by
  unfold State.judgePart
  split
  · exact h.setLive p _
  · exact h.completeAttempt p r x _ _
  · exact h.completeAttempt p r x _ _

theorem judgeCheck (h : s.Ranged) (p : Fin 24) (r : LiveRecord) {x : Reading} (hx : x.InBounds) :
    (s.judgeCheck p r x).Ranged := by
  dsimp only [State.judgeCheck]
  split
  · exact (h.checkDecision hx).setLive p _
  · exact (h.checkDecision hx).setLive p _

theorem keepReading (h : s.Ranged) (p : Fin 24) (r : LiveRecord) (openPair : Bool) (k : Head) (range : Fin 7)
    (raw : Option (BitVec 24 × Byte)) : (s.keepReading p r openPair k range raw).Ranged := by
  have hx := ((s.ranged_iff.mp h).1.convertsInRange k).judge r.kind range raw
  have hkept := h.onHead k (f := fun u =>
    { u with
      forceDoubt := u.forceDoubt && !(s.judge r.kind k range raw).forced
      counters := { u.counters with
        doubtful :=
          if (s.judge r.kind k range raw).doubtful then count16 u.counters.doubtful else u.counters.doubtful } })
    ((h.head k).keptReading _ _)
  dsimp only [State.keepReading]
  split
  · exact hkept.judgePart p r openPair _
  · exact hkept.judgeCheck p r hx

theorem handReading (h : s.Ranged) (k : Head) (p : Fin 24) (range : Fin 7) (raw : Option (BitVec 24 × Byte)) :
    (s.handReading k p range raw).Ranged := by
  unfold State.handReading
  split
  next r _ =>
    split
    next m openPair mark _ =>
      split
      · split
        next => exact h.setLive p _
        next =>
          split
          · exact h.applyRecall p r k
          · exact h.keepReading p r openPair k range raw
      · exact h
    next => exact h
  next => exact h

theorem abandonRecord (h : s.Ranged) (k : Head) (p : Fin 24) (disabled : Bool) :
    (s.abandonRecord k p disabled).Ranged := by
  unfold State.abandonRecord
  split
  next r _ =>
    split
    next =>
      split
      · split
        next => exact h.setLive p _
        next =>
          split
          · exact h.applyRecall p r k
          · split <;> exact h.setLive p _
      · exact h
    next => exact h
  next => exact h

theorem takeHeadFrame (h : s.Ranged) (k : Head) (f : HeadFrame) : (s.takeHeadFrame k f).Ranged := by
  have hlate : (s.onHead k HeadUnit.countLate).Ranged := h.onHead k (h.head k).countLate
  unfold State.takeHeadFrame
  split
  next p range aperture tag code status _ =>
    split
    · exact ((h.onHead k (h.head k).resultTaken).leaveBusy _).handReading k p range _
    · exact hlate
  next tag maxRange _ =>
    split
    · refine h.onHead k ?_
      dsimp only
      split
      · exact (h.head k).of_same rfl rfl rfl
      · exact ⟨(h.head k).calibration, Nat.zero_le _, (h.head k).counters⟩
    · exact hlate
  next => exact hlate

theorem receiveByte (h : s.Ranged) (k : Head) (b : Byte) : (s.receiveByte k b).Ranged := by
  unfold State.receiveByte
  split
  next =>
    split
    · exact h.onHead_same k rfl rfl rfl
    · exact h.onHead k ((h.head k).countLinkError.of_same rfl rfl rfl)
  next =>
    split
    · exact (h.onHead_same k rfl rfl rfl).takeHeadFrame k _
    · exact h.onHead_same k rfl rfl rfl
  next => exact h

theorem receiveFrame (h : s.Ranged) (k : Head) (f : HeadFrame) : (s.receiveFrame k f).Ranged := by
  unfold State.receiveFrame
  split
  next => exact h.takeHeadFrame k f
  next =>
    split
    · exact (h.onHead_same k rfl rfl rfl).takeHeadFrame k f
    · exact h
  next => exact h

theorem responseTimeout (h : s.Ranged) (k : Head) : (s.responseTimeout k).Ranged := by
  unfold State.responseTimeout
  split
  · split
    next p range aperture sent _ =>
      have hnone := h.onHead k (h.head k).noReply
      dsimp only [State.completeNoReply]
      split
      · exact (hnone.leaveBusy _).handReading k p range none
      · exact ((hnone.headLeft.raiseHead _).leaveBusy _).handReading k p range none
    next => exact (h.onHead_same k rfl rfl rfl).raiseHead _
    next => exact h
  · exact h

theorem abandonMeasurement (h : s.Ranged) (k : Head) (after : HeadState) (disabled : Bool) :
    (s.abandonMeasurement k after disabled).Ranged := by
  have hended : ((s.onHead k fun u => u.abandon after).leaveBusy (.head k)).Ranged :=
    (h.onHead_same k (f := fun u => u.abandon after) rfl rfl rfl).leaveBusy _
  have hleft : (if after.inService then (s.onHead k fun u => u.abandon after).leaveBusy (.head k)
      else ((s.onHead k fun u => u.abandon after).leaveBusy (.head k)).headLeft).Ranged := by
    split
    · exact hended
    · exact hended.headLeft
  dsimp only [State.abandonMeasurement]
  split
  next p _ => exact hleft.abandonRecord k p disabled
  next => exact hleft

theorem abandonAll (h : s.Ranged) : s.abandonAll.Ranged := by
  have hat {u : State} (hu : u.Ranged) (k : Head) : (u.abandonAt k).Ranged := by
    unfold State.abandonAt
    split
    · exact hu.abandonMeasurement k _ _
    · exact hu
  exact hat (hat h .a) .b

theorem disableHead (h : s.Ranged) (k : Head) : (s.disableHead k).Ranged := by
  unfold State.disableHead
  split
  next => exact h
  next => exact h.onHead_same k rfl rfl rfl
  next => exact (h.onHead_same k rfl rfl rfl).headLeft
  next => exact (h.abandonMeasurement k _ _).endDwellTest

/-! ### Arrivals -/

theorem beginFeed (h : s.Ranged) (p : Fin 24) : (s.beginFeed p).Ranged :=
  (h.onFeed ⟨h.feed.window, h.feed.misses, h.feed.checkMisses⟩).joinBusy _

theorem arriveLoad (h : s.Ranged) : s.arriveLoad.Ranged := by
  dsimp only [State.arriveLoad]
  split
  next =>
    split
    · exact h.beginFeed _
    · exact h
  next => exact h
  next =>
    split
    next => exact h.setLive _ _
    next => exact h.setLive _ _
    next => exact h.setLive _ _
    all_goals exact h

theorem arriveHead (h : s.Ranged) (k : Head) : (s.arriveHead k).Ranged := by
  dsimp only [State.arriveHead]
  split
  next =>
    split
    next =>
      split
      · split
        next => exact ((h.onHead_same k rfl rfl rfl).joinBusy _).setLive _ _
        next => exact h
        next =>
          split
          · exact h.setLive _ _
          · exact h
      · exact h
    next => exact h
  next => exact h

theorem fireEjector (h : s.Ranged) (c : Chute) (p : Fin 24) (sweep : Bool) : (s.fireEjector c p sweep).Ranged :=
  (h.onEjector c (h.gates.noise c)).joinBusy (.eject c)

theorem arriveGate (h : s.Ranged) (g : Fin 12) : (s.arriveGate g).Ranged := by
  dsimp only [State.arriveGate]
  split
  next =>
    split
    next =>
      split
      · split
        · exact (h.fireEjector _ _ _).setLive _ _
        · exact h
      · exact h
    next => exact h
  next => exact h

theorem passUnsorted (h : s.Ranged) (r : LiveRecord) : (s.passUnsorted r).Ranged := by
  have hcounted : (s.reportPart r fun c => { c with passedUnsorted := count32 c.passedUnsorted }).Ranged :=
    h.reportPart r { h.lot.counters with passedUnsorted := count32_le _ }
  refine (hcounted.raise _).onFaults ?_
  split <;> rfl

theorem arriveCheckReturn (h : s.Ranged) : s.arriveCheckReturn.Ranged := by
  dsimp only [State.arriveCheckReturn]
  split
  next r _ =>
    split
    next => exact (h.fireEjector _ _ _).setLive _ _
    next => exact h.passUnsorted r
    next => exact h
  next => exact h

theorem arrivePurge (h : s.Ranged) : s.arrivePurge.Ranged := by
  dsimp only [State.arrivePurge]
  split
  next => exact h.fireEjector _ _ _
  next => exact h
  next =>
    split
    next => exact (h.fireEjector _ _ _).setLive _ _
    next => exact h

theorem arriveEmptyCheck (h : s.Ranged) (sensed : Bool) : (s.arriveEmptyCheck sensed).Ranged := by
  have hlost (p : Fin 24) (r : LiveRecord) : (s.lostPart p r).drainTest.Ranged :=
    (((h.raisePocket _).setPocket p .empty).reportPart r { h.lot.counters with lost := count32_le _ }).drainTest
  dsimp only [State.arriveEmptyCheck]
  split
  next => exact ((h.raisePocket _).setPocket _ _).drainTest
  next => exact h
  next => exact h
  next => exact (h.setPocket _ _).drainTest
  next => exact h
  next r _ =>
    split
    next => exact h
    next => exact h
    all_goals exact hlost _ r

theorem ownArrival (h : s.Ranged) (st : Station) : (s.ownArrival st).Ranged := by
  unfold State.ownArrival
  split
  · exact h
  · split
    · exact h.arriveLoad
    · exact h.arriveHead _
    · exact h.arriveGate _
    · exact h.arriveCheckReturn
    · exact h.arrivePurge

theorem arriveGates (h : s.Ranged) : s.arriveGates.Ranged := by
  unfold State.arriveGates
  induction List.finRange 12 generalizing s with
  | nil => exact h
  | cons g gs ih => exact ih (h.ownArrival (.eject (.gate g)))

theorem beginDwell (h : s.Ranged) (sensed : Bool) : (s.beginDwell sensed).Ranged := by
  have henter : s.enterDwell.Ranged := h.moved rfl rfl
  have hheads := ((henter.ownArrival .load).ownArrival (.head .a)).ownArrival (.head .b)
  exact ((hheads.arriveGates.ownArrival (.eject .checkReturn)).ownArrival (.eject .purge)).arriveEmptyCheck sensed

/-! ### Feeds -/

theorem load (h : s.Ranged) (f : Feed) : (s.load f).Ranged := by
  have hreport {u : State} (hu : u.Ranged) : (u.reportLoad f).Ranged := by
    unfold State.reportLoad
    split
    · split
      · refine hu.onCheck (hu.check.partLoaded ?_)
        rcases hu.banks.active.checkInterval with hk | hk
        · omega
        · exact hk.2
      · exact hu
    · split
      · exact hu.onCheck (hu.check.restart _)
      · exact hu
  have hcount {u : State} (hu : u.Ranged) : (u.countLoad f).Ranged := by
    have hlot : Lot.Ranged { u.lot with counters := f.kind.countLoad u.lot.counters } :=
      ⟨hu.lot.number, hu.lot.numbered, hu.lot.counters.countLoad f.kind⟩
    unfold State.countLoad
    split
    · exact hu.onLot (hlot.serialLimit f.kind)
    · exact hu
  exact hcount (hreport (h.setLive f.target _))

theorem endFeed (h : s.Ranged) : s.endFeed.Ranged :=
  (h.onFeed ⟨h.feed.window, h.feed.misses, h.feed.checkMisses⟩).leaveBusy _

theorem loadSense (h : s.Ranged) : s.loadSense.Ranged := by
  unfold State.loadSense
  split
  next f _ =>
    split
    · have hcleared : (s.endFeed.onFeed fun u => u.clearMisses f.kind).Ranged := by
        refine h.endFeed.onFeed ?_
        unfold FeedUnit.clearMisses
        split
        · exact ⟨h.feed.window, Nat.zero_le _, h.feed.checkMisses⟩
        · exact ⟨h.feed.window, h.feed.misses, Nat.zero_le _⟩
      dsimp only
      split
      · exact (hcleared.load f).drainTest
      · exact hcleared.drainTest
    · exact h
  next => exact h

theorem countFeedMiss (h : s.Ranged) : s.countFeedMiss.Ranged := by
  unfold State.countFeedMiss
  split
  · exact (h.onFeed (f := fun u => { u with misses := 0 })
      ⟨h.feed.window, Nat.zero_le _, h.feed.checkMisses⟩).raise _
  next hn =>
    refine h.onFeed ⟨h.feed.window, ?_, h.feed.checkMisses⟩
    rw [Config.feedMissLimit] at hn
    dsimp only
    omega

theorem countCheckFeedMiss (h : s.Ranged) : s.countCheckFeedMiss.Ranged := by
  unfold State.countCheckFeedMiss
  split
  · have hstarved := (h.onFeed (f := fun u => { u with checkMisses := 0 })
      ⟨h.feed.window, h.feed.misses, Nat.zero_le _⟩).raise .checkStarved
    exact hstarved.onCheck (hstarved.check.restart _)
  next hn =>
    refine h.onFeed ⟨h.feed.window, h.feed.misses, ?_⟩
    rw [Config.checkFeedMissLimit] at hn
    dsimp only
    omega

theorem feedMiss (h : s.Ranged) : s.feedMiss.Ranged := by
  unfold State.feedMiss
  split
  next =>
    split
    · split
      · exact h.endFeed.countFeedMiss.drainTest
      · exact h.endFeed.countCheckFeedMiss.drainTest
    · exact h
  next => exact h

/-! ### Ejections -/

theorem binPart (h : s.Ranged) (g : Fin 12) (p : Fin 24) (r : LiveRecord) : (s.binPart g p r).Ranged := by
  have hcounted := (h.setPocket p .empty).reportPart r (h.lot.counters.countBinned g)
  have hb := hcounted.bin g
  have hfilled := (hcounted.onBin g (f := fun b => { b with fill := count16 b.fill })
    ⟨hb.capacity, hb.threshold, count16_le _, hb.misses, hb.spills⟩).testFill g
    (((s.setPocket p .empty).reportPart r (LotCounters.countBinned g)).bin g)
  exact hfilled.onCheck (hfilled.check.exposeDeciders r.grading)

theorem spillPart (h : s.Ranged) (g : Fin 12) (p : Fin 24) (r : LiveRecord) : (s.spillPart g p r).Ranged := by
  have hcounted := ((h.raisePocket
    { kind := .spill, pocket := p, lot := r.lot, serial := r.serial,
      station := Config.offsetChute (.gate g), cls := r.cls }).setPocket p .empty).reportPart r
    (f := fun c => { c with spilled := count32 c.spilled }) { h.lot.counters with spilled := count32_le _ }
  have hb := hcounted.bin g
  exact hcounted.onBin g ⟨hb.capacity, hb.threshold, hb.fill, hb.misses, count16_le _⟩

theorem confirm (h : s.Ranged) (c : Chute) (p : Fin 24) (sweep : Bool) : (s.confirm c p sweep).Ranged := by
  unfold State.confirm
  split
  next g =>
    have hb := h.bin g
    have hseen : (s.onBin g Bin.seen).Ranged :=
      h.onBin g ⟨hb.capacity, hb.threshold, hb.fill, Nat.zero_le _, hb.spills⟩
    dsimp only [State.confirmGate]
    split
    · split
      · exact hseen.binPart g p _
      · exact hseen.spillPart g p _
    · exact hseen
  next =>
    unfold State.confirmReturn State.countReturn
    split
    · split
      · exact (h.setPocket p .empty).onCounters { h.lot.counters with checkReturns := bump_le _ _ }
      · exact h.setPocket p .empty
    · exact h
  next =>
    have hcleared : (s.onGates fun u => { u with purgeMisses := 0 }).Ranged :=
      h.onGates (h.gates.misses (Nat.zero_le _))
    dsimp only [State.confirmPurge]
    split
    · split
      · exact (hcleared.setPocket p .empty).onCounters { h.lot.counters with swept := count32_le _ }
      · exact hcleared.onCounters { h.lot.counters with swept := count32_le _ }
    · split
      next r _ =>
        unfold State.countPurge
        split
        · exact (hcleared.setPocket p .empty).reportPart r (h.lot.counters.countPurged _)
        · exact hcleared.setPocket p .empty
      next => exact hcleared

theorem chutePulse (h : s.Ranged) (c : Chute) : (s.chutePulse c).Ranged := by
  unfold State.chutePulse
  split
  next => exact h.onEjector c (count16_le _)
  next p sweep _ =>
    have hsettles : (s.onEjector c fun e => { e with state := .settling }).Ranged :=
      h.onEjector c (h.gates.noise c)
    exact ((hsettles.leaveBusy (.eject c)).confirm c p sweep).drainTest
  next => exact h

theorem countGateMiss (h : s.Ranged) (g : Fin 12) : (s.countGateMiss g).Ranged := by
  have hb := h.bin g
  dsimp only [State.countGateMiss]
  split
  · exact ((h.onBin g (f := fun b => { b with misses := _, blocked := true })
      ⟨hb.capacity, hb.threshold, hb.fill, bump_le _ _, hb.spills⟩).raise _).onFaults rfl
  · exact h.onBin g ⟨hb.capacity, hb.threshold, hb.fill, bump_le _ _, hb.spills⟩

theorem countPurgeMiss (h : s.Ranged) : s.countPurgeMiss.Ranged := by
  have hcounted := h.onGates (f := fun u => { u with purgeMisses := bump Config.missLimit s.gates.purgeMisses })
    (h.gates.misses (bump_le _ _))
  dsimp only [State.countPurgeMiss]
  split
  · exact hcounted.raise _
  · exact hcounted

theorem miss (h : s.Ranged) (c : Chute) (p : Fin 24) (sweep : Bool) : (s.miss c p sweep).Ranged := by
  unfold State.miss
  split
  next g =>
    unfold State.missGate
    split
    · exact ((h.setLive p _).raisePocket _).countGateMiss g
    · exact h.countGateMiss g
  next =>
    unfold State.missReturn
    split
    · exact h.setLive p _
    · exact h
  next =>
    unfold State.missPurge
    split
    · exact h
    · split
      · split
        · exact (h.setLive p _).countPurgeMiss
        · exact h.countPurgeMiss
      · exact h.countPurgeMiss

theorem windowExpiry (h : s.Ranged) (c : Chute) : (s.windowExpiry c).Ranged := by
  have hidle : (s.onEjector c fun e => { e with state := .idle, windowTimer := .stopped }).Ranged :=
    h.onEjector c (h.gates.noise c)
  dsimp only [State.windowExpiry]
  split
  next => exact h
  next p sweep _ => exact (hidle.leaveBusy (.eject c)).miss c p sweep
  next => exact hidle

/-! ### Stops -/

theorem releaseOutputs (h : s.Ranged) : s.releaseOutputs.Ranged :=
  (h.onFeed (f := fun f => { f with feedOut := false, checkFeedOut := false })
    ⟨h.feed.window, h.feed.misses, h.feed.checkMisses⟩).onGates h.gates.released

theorem giveUpRecords (h : s.Ranged) : s.giveUpRecords.Ranged := by
  have hmapped := h.mapLive fun _ => .unknown
  exact (hmapped.onCounters { hmapped.lot.counters with abandoned := satAdd_le _ _ _ }).drainTest

theorem emergencyStop (h : s.Ranged) : s.emergencyStop.Ranged := by
  have hstopped := (h.moved (f := fun d =>
    { d with dwellTimer := .stopped, moveTimer := .stopped, stopPending := false }) rfl rfl).releaseOutputs.abandonAll
  dsimp only [State.emergencyStop]
  split
  · exact hstopped.giveUpRecords.moved rfl rfl
  · exact hstopped.moved rfl rfl

theorem stopDial (h : s.Ranged) : s.stopDial.Ranged := by
  unfold State.stopDial
  split
  next => exact h.moved rfl rfl
  next => exact h.moved rfl rfl
  next => exact h.moved rfl rfl
  next =>
    exact (h.giveUpRecords.moved (f := fun d => { d with state := .idle, dwellTimer := .stopped }) rfl rfl).moved
      rfl rfl
  next => exact h
  next => exact h

end State.Ranged

end Sys2Proof.Machine
end

section
/-! SUPPORT. The ranges of the settings and of the counts, by command, by event and by step. -/

namespace Sys2Proof.Machine

/-! ### The settings that commands write -/

theorem gateSettingsOf_ranged (pulseWidth confirmWindow : Nat) :
    (gateSettingsOf pulseWidth confirmWindow).Ranged := by
  have hp := clampNat_mem (lo := 2) (hi := 20) (by decide) pulseWidth
  have hc := clampNat_mem (lo := 5) (hi := 50) (by decide) confirmWindow
  unfold gateSettingsOf
  refine ⟨hp, ?_, Nat.le_max_left _ _⟩
  dsimp only
  omega

theorem binSettings_ranged {b : Bin} (h : b.Ranged) (capacity threshold : BitVec 16) :
    Bin.Ranged { b with capacity := binCapacityOf capacity, threshold := binThresholdOf capacity threshold } := by
  have := capacity.isLt
  refine ⟨?_, Nat.min_le_left _ _, h.fill, h.misses, h.spills⟩
  unfold binCapacityOf
  dsimp only
  omega

theorem calibrationOf_inRange (offset gain : BitVec 16) : (calibrationOf offset gain).InRange :=
  ⟨clampSigned_mem (by decide) _, clampSigned_mem (by decide) _⟩

theorem nextLotNumber_mem {n : Nat} (h : n ≤ 65535) : 1 ≤ nextLotNumber n ∧ nextLotNumber n ≤ 65535 := by
  unfold nextLotNumber Config.maxCount16
  split <;> omega

theorem checkIntervalOf_mem (k : Nat) :
    checkIntervalOf k = 0 ∨ (20 ≤ checkIntervalOf k ∧ checkIntervalOf k ≤ 5000) := by
  unfold checkIntervalOf
  split
  · exact .inl rfl
  · exact .inr (clampNat_mem (by decide) k)

/-- The maskable flags are the five of R82. -/
theorem maskable_mem (x : Byte) : (x &&& maskableFlags) &&& ~~~0x3E#8 = 0#8 := by
  rw [maskableFlags, BitVec.and_assoc]
  have hnone : 0x3E#8 &&& ~~~0x3E#8 = 0#8 := by decide
  rw [hnone, BitVec.and_zero]

theorem attention_mem (x : FlagSet) : (x &&& attentionFlags) &&& ~~~0x7FFC0#19 = 0#19 := by
  rw [attentionFlags, BitVec.and_assoc]
  have hnone : 0x7FFC0#19 &&& ~~~0x7FFC0#19 = 0#19 := by decide
  rw [hnone, BitVec.and_zero]

namespace Recipe.InRange

variable {r : Recipe}

theorem withNominal (h : r.InRange) (mantissa : BitVec 16) (exponent : Byte) :
    Recipe.InRange { r with
      mantissa := clampNat 1000 9999 mantissa.toNat, exponent := clampSigned (-3) 3 exponent.toInt } :=
  { h with mantissa := clampNat_mem (by decide) _, exponent := clampSigned_mem (by decide) _ }

theorem withMeasure (h : r.InRange) (mode : MeasureMode) (aperture : Fin 4) (agreeLimit : BitVec 16) :
    Recipe.InRange { r with
      mode := mode, aperture := aperture, agreeLimit := clampNat 1 10000 agreeLimit.toNat } :=
  { h with agreeLimit := clampNat_mem (by decide) _ }

theorem withRetest (h : r.InRange) (doubtMask retestLimit lapLimit : Byte) (slot1 slot2 : Policy) :
    Recipe.InRange { r with
      doubtMask := doubtMask &&& maskableFlags, retestLimit := min 2 retestLimit.toNat, slot1 := slot1
      slot2 := slot2, lapLimit := clampNat 1 3 lapLimit.toNat } :=
  { h with
    doubtMask := maskable_mem _, retestLimit := Nat.min_le_left _ _, lapLimit := clampNat_mem (by decide) _ }

theorem withClass (h : r.InRange) (i : Fin 12) {c : ClassDef} (hc : c.InRange) :
    Recipe.InRange { r with classes := r.classes.set i.val (some c) } := by
  refine { h with classes := fun k d hd => ?_ }
  simp only [Recipe.cls, Vector.getElem_set] at hd
  split at hd
  · exact Option.some.inj hd ▸ hc
  · exact h.classes k d hd

theorem withoutClasses (h : r.InRange) : Recipe.InRange { r with classes := Vector.replicate 12 none } :=
  { h with classes := fun k d hd => by simp [Recipe.cls] at hd }

theorem withCheck (h : r.InRange) (interval : BitVec 16) (certified : BitVec 32) (driftLimit : BitVec 16) :
    Recipe.InRange { r with
      checkInterval := checkIntervalOf interval.toNat, certified := clampSigned (-999999) 999999 certified.toInt
      driftLimit := clampNat 1 10000 driftLimit.toNat } :=
  { h with
    checkInterval := checkIntervalOf_mem _, certified := clampSigned_mem (by decide) _
    driftLimit := clampNat_mem (by decide) _ }

end Recipe.InRange

/-! ### The commands -/

namespace State.Ranged

variable {s : State}

theorem withHead (h : s.Ranged) (i : Byte) {act : Head → Reply} (ha : ∀ k, (act k).state.Ranged) :
    (s.withHead i act).state.Ranged := by
  unfold State.withHead
  split
  next k _ => exact ha k
  next => exact h

theorem withBin (h : s.Ranged) (i : Byte) {act : Fin 12 → Reply} (ha : ∀ g, (act g).state.Ranged) :
    (s.withBin i act).state.Ranged := by
  unfold State.withBin
  split
  next g _ => exact ha g
  next => exact h

theorem withPocket (h : s.Ranged) (i : Byte) {act : Fin 24 → Reply} (ha : ∀ p, (act p).state.Ranged) :
    (s.withPocket i act).state.Ranged := by
  unfold State.withPocket
  split
  next p _ => exact ha p
  next => exact h

/-! ### Settings -/

theorem setDial (h : s.Ranged) (minDwell moveTimeout : BitVec 16) (startEnable : Byte) :
    (replySetDial minDwell moveTimeout startEnable s).state.Ranged := by
  unfold replySetDial
  split
  · exact h.onDial (f := fun d => { d with
      minDwell := clampNat 20 500 minDwell.toNat, moveTimeout := clampNat 50 2000 moveTimeout.toNat,
      startEnable := startEnable != 0#8 })
      ⟨clampNat_mem (by decide) _, clampNat_mem (by decide) _⟩
  · exact h

theorem setFeed (h : s.Ranged) (window : Byte) : (replySetFeed window s).state.Ranged := by
  unfold replySetFeed
  split
  · exact h.onFeed (f := fun f => { f with window := clampNat 5 100 window.toNat })
      ⟨clampNat_mem (by decide) _, h.feed.misses, h.feed.checkMisses⟩
  · exact h

theorem openLot (h : s.Ranged) : s.openLot.Ranged := by
  refine ⟨by simpa using h.dial, by simpa using h.feed, fun k => ?_, ?_, by simpa using h.gates, ?_, ?_,
    by simpa using h.faults⟩
  · show (s.openLot.head k).Ranged
    rw [State.openLot_head]
    exact (h.head k).of_same rfl rfl rfl
  · rw [State.openLot_check]
    exact h.check.restart _
  · rw [State.openLot_banks]
    exact ⟨h.banks.pending, h.banks.pending⟩
  · rw [State.openLot_lot]
    exact ⟨(nextLotNumber_mem h.lot.number).2, fun _ => (nextLotNumber_mem h.lot.number).1, .zero⟩

/-- An OPEN or DRAINING lot becomes DRAINING. -/
theorem drains (h : s.Ranged) (hl : s.lot.state ≠ .noLot) : (s.onLot fun l => { l with state := .draining }).Ranged :=
  h.onLot (h.lot.withState fun _ => hl)

theorem lotClose (h : s.Ranged) : (replyLotClose s).state.Ranged := by
  unfold replyLotClose
  split
  next hopen => exact (h.drains (by rw [hopen]; nofun)).drainTest.reportSevere s
  next => exact h

theorem lotAbort (h : s.Ranged) : (replyLotAbort s).state.Ranged := by
  unfold replyLotAbort
  split
  · exact h
  next hl =>
    have haborted := (h.mapLive fun r => .live r.abort).onFeed (f := FeedUnit.abort)
      ⟨h.feed.window, h.feed.misses, h.feed.checkMisses⟩
    exact (haborted.drains (by simpa using hl)).drainTest.reportSevere s

theorem softReset (h : s.Ranged) : s.softReset.Ranged := by
  refine ⟨?_, ?_, fun k => ?_, ?_, ?_, ?_, ?_, ?_⟩
  · rw [State.softReset_dial]
    exact ⟨h.dial.minDwell, h.dial.moveTimeout⟩
  · rw [State.softReset_feed]
    exact ⟨h.feed.window, Nat.zero_le _, Nat.zero_le _⟩
  · show (s.softReset.head k).Ranged
    rw [State.softReset_head]
    exact (h.head k).of_same rfl rfl rfl
  · rw [State.softReset_check]
    exact h.check.restart _
  · rw [State.softReset_gates]
    exact h.gates.softReset
  · rw [State.softReset_banks]
    exact h.banks
  · rw [State.softReset_lot]
    exact h.lot.withState fun hn => absurd rfl hn
  · rw [State.softReset_faults]
    exact h.faults

theorem ackFaults (h : s.Ranged) (named : FlagSet) : (s.ackFaults named).Ranged := by
  have hacked : (s.onFaults fun u => u.acknowledge named).Ranged := h.onFaults rfl
  unfold State.ackFaults
  refine reportSevere ?_ s
  split
  · exact hacked.onGates (hacked.gates.misses (Nat.zero_le _))
  · exact hacked

theorem clearBin (h : s.Ranged) (c : Chute) : (s.clearBin c).Ranged := by
  have hnoise : (s.onEjector c fun e => { e with noise := 0 }).Ranged := h.onEjector c (Nat.zero_le _)
  have hbin (g : Fin 12) := h.bin g
  unfold State.clearBin
  split
  next g =>
    exact hnoise.onBin g ⟨(hbin g).capacity, (hbin g).threshold, (hbin g).fill, (hbin g).misses, Nat.zero_le _⟩
  next => exact hnoise

/-- A bin changed but for its settings and its counts. -/
theorem onBin_same (h : s.Ranged) (g : Fin 12) {f : Bin → Bin} (hc : (f (s.bin g)).capacity = (s.bin g).capacity)
    (ht : (f (s.bin g)).threshold = (s.bin g).threshold) (hf : (f (s.bin g)).fill = (s.bin g).fill)
    (hm : (f (s.bin g)).misses = (s.bin g).misses) (hs : (f (s.bin g)).spills = (s.bin g).spills) :
    (s.onBin g f).Ranged :=
  h.onBin g ((h.bin g).of_same hc ht hf hm hs)

/-- Whatever command its block is handed, every block stays within its ranges. -/
theorem replyOf (h : s.Ranged) (i : Instr) : (replyOf i s).state.Ranged := by
  cases i with
  | setDial minDwell moveTimeout startEnable => exact h.setDial minDwell moveTimeout startEnable
  | setFeed window => exact h.setFeed window
  | start sensed =>
    show (replyStart sensed s).state.Ranged
    unfold replyStart
    split
    · rw [State.done_state]
      exact h.beginDwell sensed
    · exact h
  | stop => exact h.stopDial
  | hold => exact h.moved (f := fun d => { d with hostHold := true }) rfl rfl
  | release => exact (h.moved (f := fun d => { d with hostHold := false }) rfl rfl).heldTest
  | lotOpen =>
    show (replyLotOpen s).state.Ranged
    unfold replyLotOpen
    split
    · exact h
    · split
      · exact h
      · split
        · exact h
        · split
          · exact h
          · rw [State.done_state]
            exact h.openLot
  | lotClose => exact h.lotClose
  | lotAbort => exact h.lotAbort
  | setNominal mantissa exponent => exact h.onPendingBank (h.banks.pending.withNominal mantissa exponent)
  | setMeasure mode aperture agreeLimit =>
    show (replySetMeasure mode aperture agreeLimit s).state.Ranged
    unfold replySetMeasure
    split
    · exact h
    · exact h.onPendingBank (h.banks.pending.withMeasure _ _ agreeLimit)
  | setRetest doubtMask retestLimit slot1 slot2 lapLimit =>
    show (replySetRetest doubtMask retestLimit slot1 slot2 lapLimit s).state.Ranged
    unfold replySetRetest
    split
    · exact h.onPendingBank (h.banks.pending.withRetest doubtMask retestLimit lapLimit _ _)
    · exact h
  | setClass index lo hi guardBand primary overflow catchAll =>
    show (replySetClass index lo hi guardBand primary overflow catchAll s).state.Ranged
    unfold replySetClass
    split
    · exact h.onPendingBank (h.banks.pending.withClass _
        ⟨clampSigned_mem (by decide) _, clampSigned_mem (by decide) _, Nat.min_le_left _ _⟩)
    · exact h
  | clearClasses => exact h.onPendingBank h.banks.pending.withoutClasses
  | setCheck interval certified driftLimit =>
    exact h.onPendingBank (h.banks.pending.withCheck interval certified driftLimit)
  | copyActive => exact h.onPendingBank h.banks.active
  | readRecipe bank =>
    show (replyReadRecipe bank s).state.Ranged
    unfold replyReadRecipe
    split <;> exact h
  | setHead head timeoutSelect =>
    refine h.withHead head fun k => ?_
    split
    · exact h.onHead_same k (f := fun u => { u with timeoutSelect := clampCode timeoutSelect }) rfl rfl rfl
    · exact h
  | setHeadCal head range offset gain =>
    refine h.withHead head fun k => ?_
    split
    · split
      · exact h
      next r _ =>
        exact h.onHead k (f := fun u => { u with calibration := u.calibration.set r.val (calibrationOf offset gain) })
          ((h.head k).calibrated r (calibrationOf_inRange offset gain))
    · exact h
  | headEnable head =>
    refine h.withHead head fun k => ?_
    unfold State.enableHead
    split
    · exact h.onHead_same k (f := fun u => { u with state := .probing, request := some ⟨.ident, false⟩ }) rfl rfl rfl
    · exact h
  | headDisable head => exact h.withHead head h.disableHead
  | readHead head => exact h.withHead head fun _ => h
  | readHeadStats head =>
    exact h.withHead head fun k =>
      h.onHead k (f := fun u => { u with counters := ⟨0, 0, 0, 0, 0⟩ }) (h.head k).cleared
  | forceDoubt head =>
    exact h.withHead head fun k => h.onHead_same k (f := fun u => { u with forceDoubt := true }) rfl rfl rfl
  | setGate pulseWidth confirmWindow =>
    exact h.onGates (f := fun u => { u with settings := gateSettingsOf pulseWidth.toNat confirmWindow.toNat })
      ⟨h.gates.bins, h.gates.noise, h.gates.purgeMisses, gateSettingsOf_ranged _ _⟩
  | setBin bin capacity threshold =>
    exact h.withBin bin fun g =>
      (h.onBin g (f := fun b => { b with
        capacity := binCapacityOf capacity, threshold := binThresholdOf capacity threshold })
        (binSettings_ranged (h.bin g) capacity threshold)).testFill g (s.bin g)
  | stall bin =>
    exact h.withBin bin fun g => h.onBin_same g (f := fun b => { b with stalled := true }) rfl rfl rfl rfl rfl
  | unstall bin =>
    exact h.withBin bin fun g =>
      h.onBin g (f := fun b => { b with stalled := false, blocked := false, misses := 0 })
        ⟨(h.bin g).capacity, (h.bin g).threshold, (h.bin g).fill, Nat.zero_le _, (h.bin g).spills⟩
  | readBin index =>
    show (replyReadBin index s).state.Ranged
    unfold replyReadBin
    split
    next c _ => exact h.clearBin c
    next => exact h
  | readPocket pocket => exact h.withPocket pocket fun _ => h
  | voidPocket pocket =>
    refine h.withPocket pocket fun p => ?_
    unfold State.voidPocket
    split
    next => exact h
    next => exact h
    next =>
      split
      next => exact h.setLive p _
      next => exact h
      all_goals exact h.setLive p _
  | reroutePocket pocket cls =>
    refine h.withPocket pocket fun p => ?_
    unfold State.reroutePocket
    split
    next =>
      split
      next => split <;> exact h
      next => exact h
    next => exact h
  | forceClass cls =>
    show (replyForceClass cls s).state.Ranged
    unfold replyForceClass
    split <;> exact h
  | requestCheck =>
    show (replyRequestCheck s).state.Ranged
    unfold replyRequestCheck
    split
    · exact h.onCheck h.check.due
    · exact h
  | ackFaults flags => exact h.ackFaults (flagSetOf flags)
  | readCapture which =>
    show (replyReadCapture which s).state.Ranged
    unfold replyReadCapture
    split <;> exact h
  | ackCapture which =>
    show (replyAckCapture which s).state.Ranged
    unfold replyAckCapture
    split
    · exact h.onFaults (f := fun u => { u with pocketCapture := none }) rfl
    · exact h.onFaults (f := fun u => { u with headCapture := none }) rfl
    · exact h
  | setAttnMask mask => exact { h with faults := attention_mem _ }
  | resetSort =>
    show (replyResetSort s).state.Ranged
    unfold replyResetSort
    split
    · rw [State.done_state]
      exact h.softReset
    · exact h
  | _ => exact h

/-! ### The events and the step -/

theorem powerOn (s : State) (estop : Bool) (cans : BitVec 12) : (s.powerOn estop cans).Ranged := by
  have hreset : State.reset.Ranged := State.reset.ranged_iff.mpr ⟨State.reset_settingsInRange, State.reset_countsInRange⟩
  refine ⟨⟨hreset.dial.minDwell, hreset.dial.moveTimeout⟩, hreset.feed, hreset.heads, hreset.check, ?_,
    hreset.banks, hreset.lot, hreset.faults⟩
  refine ⟨fun g => ?_, hreset.gates.noise, hreset.gates.purgeMisses, hreset.gates.settings⟩
  have hb := hreset.bin g
  rw [State.reset_bin] at hb
  simp only [State.powerOn, Vector.getElem_ofFn]
  exact hb.of_same rfl rfl rfl rfl rfl

theorem happens (h : s.Ranged) (i : Instr) : (s.happens i).Ranged := by
  cases i with
  | powerOnReset estop cans => exact powerOn s estop cans
  | resetNAsserted => exact h.releaseOutputs
  | indexDone sensed =>
    have hhonoured : (s.honourIndex sensed).Ranged :=
      ((h.moved (f := fun d => { d with moveTimer := .stopped }) rfl rfl).moved
        (f := fun d => { d with position := d.position + 1 }) rfl rfl).beginDwell sensed
    have hspurious : s.spuriousIndex.Ranged :=
      (((h.moved (f := fun d => { d with position := d.position + 1 }) rfl rfl).raise
        .spuriousIndex).abandonAll).endDwellTest
    dsimp only [State.happens]
    split
    · exact hhonoured
    · exact hhonoured
    · exact hspurious
  | minDwellExpiry =>
    dsimp only [State.happens]
    split
    · exact (h.moved rfl rfl).endDwellTest
    · exact h
  | moveTimerExpiry =>
    dsimp only [State.happens]
    split
    · exact (h.moved (f := fun d => { d with state := .jammed, moveTimer := .stopped }) rfl rfl).raise .dialJam
    · exact h
  | estopAsserted =>
    have hline : State.Ranged { s with lines := { s.lines with estop := true } } := h
    dsimp only [State.happens]
    split
    · exact hline
    · exact hline.emergencyStop
  | estopReleased =>
    have hline : State.Ranged { s with lines := { s.lines with estop := false } } := h
    dsimp only [State.happens]
    refine reportSevere ?_ s
    split
    · exact hline.moved rfl rfl
    · exact hline
  | startLineEdge sensed =>
    dsimp only [State.happens]
    split
    · exact h.beginDwell sensed
    · exact h
  | feedPulseEnd =>
    exact h.onFeed (f := fun f => { f with feedOut := false, checkFeedOut := false })
      ⟨h.feed.window, h.feed.misses, h.feed.checkMisses⟩
  | loadSense => exact h.loadSense.endDwellTest.reportSevere s
  | feedWindowExpiry => exact h.feedMiss.endDwellTest
  | requestSent k => exact h.onHead k (h.head k).requestSent
  | quietTimerExpiry k => exact h.onHead_same k (f := fun u => { u with quietTimer := .stopped }) rfl rfl rfl
  | result k tag code status => exact (h.receiveFrame k _).endDwellTest
  | identAnswer k tag maxRange => exact (h.receiveFrame k _).reportSevere s
  | responseTimeout k => exact (h.responseTimeout k).endDwellTest
  | linkPause k =>
    dsimp only [State.happens]
    split
    · exact h.onHead k ((h.head k).countLinkError.of_same rfl rfl rfl)
    · exact h
  | framingError k =>
    dsimp only [State.happens]
    split
    · exact h
    · exact h.onHead k ((h.head k).countLinkError.of_same rfl rfl rfl)
  | unknownType k b => exact (h.receiveByte k b).endDwellTest.reportSevere s
  | discardQuiet k =>
    dsimp only [State.happens]
    split
    · exact h.onHead_same k rfl rfl rfl
    · exact h
  | pulseTimerExpiry c =>
    exact h.onEjector c (f := fun e => { e with driven := false, pulseTimer := .stopped }) (h.gates.noise c)
  | chutePulse c => exact (h.chutePulse c).endDwellTest
  | windowTimerExpiry c => exact (h.windowExpiry c).endDwellTest
  | canRemoved g =>
    exact h.onBin_same g (f := fun b => { b with present := false, removedLatch := true }) rfl rfl rfl rfl rfl
  | canInserted g =>
    exact h.onBin g (f := fun b => { b with
      present := true, fill := 0, swaps := b.swaps + 1#16, insertedLatch := true })
      ⟨(h.bin g).capacity, (h.bin g).threshold, Nat.zero_le _, (h.bin g).misses, (h.bin g).spills⟩
  | byteReceived k b => exact (h.receiveByte k b).endDwellTest.reportSevere s
  | _ => exact h

end State.Ranged

/-- Settles O55: each block is kept within its ranges by every operation, and so by every command, event and step. -/
theorem settingsAndCountsStayInRange : Obligations.SettingsAndCountsStayInRange := by
  intro s t hs hc ht
  have h : s.Ranged := s.ranged_iff.mpr ⟨hs, hc⟩
  refine t.ranged_iff.mp (step_induction ht (fun _ => h) (fun _ f hu => hu.onLink f) (fun q i _ => ?_) fun q f i => ?_)
  · exact State.Ranged.happens (s := { s with pending := q }) h i
  · exact State.Ranged.replyOf (s := State.onLink { s with pending := q } f) h i

end Sys2Proof.Machine
end

section
/-! SUPPORT. The end of an ejection, with its chute pulse or without (R121 to R127, R129, R144). -/

namespace Sys2Proof.Machine

/-! ### The dial at the end of an event -/

theorem Dial.afterWork_of_aside {c d : Dial} (h : c.aside = d.aside) (busy : Vector Bool 17) (severe : Bool) :
    c.afterWork busy severe = d.afterWork busy severe := by
  have hc : c = { d with busy := c.busy } := Dial.aside_eq_iff.mp h
  rw [hc]
  rfl

/-- Where an event has left the dial but for its busy set, the end-of-dwell test does what R4 says of it. -/
theorem State.endDwellTest_dial_of_aside {s u : State} (h : u.dial.aside = s.dial.aside) :
    u.endDwellTest.dial = s.dial.afterWork u.endDwellTest.dial.busy u.endDwellTest.anySevere := by
  rw [State.endDwellTest_busy, State.endDwellTest_anySevere, ← Dial.afterWork_of_aside h]
  exact u.endDwellTest_dial

/-! ### What the outcome of an ejection leaves alone -/

/-- What no outcome of an ejection touches. -/
structure Bystanders where
  dial : Dial
  feed : FeedUnit
  heads : PerHead HeadUnit
  forceClass : Option (Fin 12)
  banks : Banks
  ejectors : Vector Ejector 14
  settings : GateSettings
  lotState : LotState
  lotNumber : Nat
  link : Link
  lines : Lines

def State.bystanders (s : State) : Bystanders where
  dial := s.dial
  feed := s.feed
  heads := s.heads
  forceClass := s.forceClass
  banks := s.banks
  ejectors := s.gates.ejectors
  settings := s.gates.settings
  lotState := s.lot.state
  lotNumber := s.lot.number
  link := s.link
  lines := s.lines

section
variable (s : State)

theorem State.bystanders_onBin (g : Fin 12) (f : Bin → Bin) : (s.onBin g f).bystanders = s.bystanders := rfl
theorem State.bystanders_onCheck (f : CheckUnit → CheckUnit) : (s.onCheck f).bystanders = s.bystanders := rfl

theorem State.bystanders_reportPart (r : LiveRecord) (f : LotCounters → LotCounters) :
    (s.reportPart r f).bystanders = s.bystanders := by
  unfold State.reportPart
  split <;> rfl

theorem State.bystanders_testFill (g : Fin 12) (b : Bin) : (s.testFill g b).bystanders = s.bystanders := by
  rw [State.testFill_eq]
  rfl

theorem State.bystanders_confirm (c : Chute) (p : Fin 24) (sweep : Bool) :
    (s.confirm c p sweep).bystanders = s.bystanders := by
  unfold State.confirm
  split
  next g =>
    dsimp only [State.confirmGate]
    split
    · split
      · rw [State.binPart, State.bystanders_onCheck, State.fillBin, State.bystanders_testFill,
          State.bystanders_onBin, State.bystanders_reportPart]
        rfl
      · rw [State.spillPart, State.bystanders_onBin, State.bystanders_reportPart]
        rfl
    · rfl
  next =>
    unfold State.confirmReturn State.countReturn
    split
    · split <;> rfl
    · rfl
  next =>
    dsimp only [State.confirmPurge]
    split
    · split <;> rfl
    · split
      · unfold State.countPurge
        split
        · rw [State.bystanders_reportPart]
          rfl
        · rfl
      · rfl

theorem State.bystanders_countGateMiss (g : Fin 12) : (s.countGateMiss g).bystanders = s.bystanders := by
  dsimp only [State.countGateMiss]
  split <;> rfl

theorem State.bystanders_countPurgeMiss : s.countPurgeMiss.bystanders = s.bystanders := by
  dsimp only [State.countPurgeMiss]
  split <;> rfl

theorem State.bystanders_miss (c : Chute) (p : Fin 24) (sweep : Bool) :
    (s.miss c p sweep).bystanders = s.bystanders := by
  unfold State.miss
  split
  next g =>
    unfold State.missGate
    split
    · rw [State.bystanders_countGateMiss]; rfl
    · exact s.bystanders_countGateMiss g
  next =>
    unfold State.missReturn
    split <;> rfl
  next =>
    unfold State.missPurge
    split
    · rfl
    · split
      · split
        · rw [State.bystanders_countPurgeMiss]; rfl
        · exact s.bystanders_countPurgeMiss
      · exact s.bystanders_countPurgeMiss

/-! Only the pocket of the ejection is touched. -/

theorem State.confirm_pocket_ne (c : Chute) {p q : Fin 24} (hq : q ≠ p) (sweep : Bool) :
    (s.confirm c p sweep).pocket q = s.pocket q := by
  unfold State.confirm
  split
  next g =>
    dsimp only [State.confirmGate]
    split
    · split
      · simp [State.binPart, State.fillBin, hq]
      · simp [State.spillPart, hq]
    · rfl
  next =>
    unfold State.confirmReturn State.countReturn
    split
    · split <;> simp [hq]
    · rfl
  next =>
    dsimp only [State.confirmPurge]
    split
    · split <;> simp [hq]
    · split
      · unfold State.countPurge
        split <;> simp [hq]
      · rfl

theorem State.countGateMiss_pocket (g : Fin 12) (q : Fin 24) : (s.countGateMiss g).pocket q = s.pocket q := by
  dsimp only [State.countGateMiss]
  split <;> rfl

theorem State.countPurgeMiss_pocket (q : Fin 24) : s.countPurgeMiss.pocket q = s.pocket q := by
  dsimp only [State.countPurgeMiss]
  split <;> rfl

theorem State.miss_pocket_ne (c : Chute) {p q : Fin 24} (hq : q ≠ p) (sweep : Bool) :
    (s.miss c p sweep).pocket q = s.pocket q := by
  unfold State.miss
  split
  next g =>
    unfold State.missGate
    split
    · simp [State.countGateMiss_pocket, hq]
    · exact s.countGateMiss_pocket g q
  next =>
    unfold State.missReturn
    split <;> simp [hq]
  next =>
    unfold State.missPurge
    split
    · rfl
    · split
      · split <;> simp [State.countPurgeMiss_pocket, hq]
      · exact s.countPurgeMiss_pocket q

/-- A miss moves no count of the lot, and the check unit is told nothing of it. -/
theorem State.miss_lot_check (c : Chute) (p : Fin 24) (sweep : Bool) :
    (s.miss c p sweep).lot = s.lot ∧ (s.miss c p sweep).check = s.check := by
  have hgate (u : State) (g : Fin 12) : (u.countGateMiss g).lot = u.lot ∧ (u.countGateMiss g).check = u.check := by
    dsimp only [State.countGateMiss]
    split <;> exact ⟨rfl, rfl⟩
  have hpurge (u : State) : u.countPurgeMiss.lot = u.lot ∧ u.countPurgeMiss.check = u.check := by
    dsimp only [State.countPurgeMiss]
    split <;> exact ⟨rfl, rfl⟩
  unfold State.miss
  split
  next g =>
    unfold State.missGate
    split
    · exact hgate _ g
    · exact hgate s g
  next =>
    unfold State.missReturn
    split <;> exact ⟨rfl, rfl⟩
  next =>
    unfold State.missPurge
    split
    · exact ⟨rfl, rfl⟩
    · split
      · split
        · exact hpurge _
        · exact hpurge s
      · exact hpurge s

end

/-! ### The miss, by its station -/

/-- A bin after a miss: the third in a row blocks it (R125). -/
def Bin.afterMiss (b : Bin) (third : Bool) : Bin :=
  { b with misses := min 3 (b.misses + 1), blocked := b.blocked || third }

/-- The fault unit when the bin of gate `g` has counted a miss: GATE_BLOCKED is raised at the third (R125). -/
def FaultUnit.afterMiss (u : FaultUnit) (g : Fin 12) (third : Bool) : FaultUnit :=
  { u with
    events := u.events ||| (if third then 0x4000#19 else 0#19)
    gateBlockedBins := u.gateBlockedBins ||| (if third then 1#12 <<< g.val else 0#12) }

theorem State.countGateMiss_eq (s : State) (g : Fin 12) :
    s.countGateMiss g =
      { s with
        gates := { s.gates with bins := s.gates.bins.set g.val ((s.bin g).afterMiss (decide (3 ≤ (s.bin g).misses + 1))) }
        faults := s.faults.afterMiss g (decide (3 ≤ (s.bin g).misses + 1)) } := by
  have hfull : bump Config.missLimit (s.bin g).misses = Config.missLimit ↔ 3 ≤ (s.bin g).misses + 1 := by
    unfold bump satAdd Config.missLimit
    omega
  have hcount : bump Config.missLimit (s.bin g).misses = min 3 ((s.bin g).misses + 1) := rfl
  unfold State.countGateMiss
  dsimp only
  by_cases h : 3 ≤ (s.bin g).misses + 1
  · rw [if_pos (hfull.mpr h), hcount, decide_eq_true h]
    simp [State.raiseGateBlocked, State.raise, State.onFaults, State.onBin, State.onGates, Bin.afterMiss,
      FaultUnit.afterMiss, Flag.bit, Flag.number, State.bin]
  · rw [if_neg (mt hfull.mp h), hcount, decide_eq_false h]
    simp [State.onBin, State.onGates, Bin.afterMiss, FaultUnit.afterMiss, State.bin]

theorem State.countPurgeMiss_eq (s : State) :
    s.countPurgeMiss =
      { s with
        gates := { s.gates with purgeMisses := min 3 (s.gates.purgeMisses + 1) }
        faults :=
          { s.faults with
            events := s.faults.events ||| (if 3 ≤ s.gates.purgeMisses + 1 then 8#19 else 0#19) } } := by
  have hfull : bump Config.missLimit s.gates.purgeMisses = Config.missLimit ↔ 3 ≤ s.gates.purgeMisses + 1 := by
    unfold bump satAdd Config.missLimit
    omega
  have hcount : bump Config.missLimit s.gates.purgeMisses = min 3 (s.gates.purgeMisses + 1) := rfl
  unfold State.countPurgeMiss
  dsimp only
  by_cases h : 3 ≤ s.gates.purgeMisses + 1
  · rw [if_pos (hfull.mpr h), if_pos h, hcount]
    rfl
  · rw [if_neg (mt hfull.mp h), if_neg h, hcount]
    simp [State.onGates]

theorem State.missGate_live {s : State} {g : Fin 12} {p : Fin 24} {r : LiveRecord} (hr : s.pocket p = .live r) :
    s.missGate g p =
      { s with
        pockets := s.pockets.set p.val (.live { r with phase := .purgePending .ejectMiss })
        gates :=
          { s.gates with
            bins := s.gates.bins.set g.val ((s.bin g).afterMiss (decide (3 ≤ (s.bin g).misses + 1))) }
        faults :=
          ({ s.faults with
            events := s.faults.events ||| 0x100#19
            pocketCapture :=
              takePocketOffer s.faults.pocketCapture
                { kind := .ejectMiss, pocket := p, lot := r.lot, serial := r.serial,
                  station := 8 + g.val, cls := r.cls } } : FaultUnit).afterMiss
            g (decide (3 ≤ (s.bin g).misses + 1)) } := by
  simp only [State.missGate, hr]
  rw [State.countGateMiss_eq]
  rfl

theorem State.missReturn_live {s : State} {p : Fin 24} {r : LiveRecord} (hr : s.pocket p = .live r) :
    s.missReturn p = s.setLive p { r with phase := .checkDone } := by
  simp only [State.missReturn, hr]

theorem State.missPurge_live {s : State} {p : Fin 24} {r : LiveRecord} {reason : PurgeReason}
    (hr : s.pocket p = .live r) (hphase : r.phase = .ejecting (.purge reason)) :
    s.missPurge p false = (s.setLive p { r with phase := .purgePending reason }).countPurgeMiss := by
  simp only [State.missPurge, hr, hphase, Bool.false_eq_true, if_false]
  rfl

/-- The state after a window expires in FIRED, before the outcome of the miss. -/
def State.closed (s : State) (c : Chute) : State :=
  (s.onEjector c fun e => { e with state := .idle, windowTimer := .stopped }).leaveBusy (.eject c)

theorem exec_windowTimerExpiry {s : State} (hreset : s.lines.inReset = false) (c : Chute) :
    exec (.windowTimerExpiry c) s = .next (s.windowExpiry c).endDwellTest := by
  show execWindowTimerExpiry c s = _
  unfold execWindowTimerExpiry
  rw [State.event_eq _ hreset]

theorem State.windowExpiry_fired {s : State} {c : Chute} {p : Fin 24} {sweep : Bool}
    (h : (s.ejector c).state = .fired p sweep) : s.windowExpiry c = (s.closed c).miss c p sweep := by
  simp only [State.windowExpiry, h]
  rfl

end Sys2Proof.Machine
end

section
/-! SUPPORT. A window that expires on a fired ejector. -/

namespace Sys2Proof.Machine

/-- Settles O39: what every miss leaves alone is shown once; the outcome is read station by station. -/
theorem windowTimerExpiry : Obligations.WindowTimerExpiry := by
  intro s c hreset
  rw [exec_windowTimerExpiry hreset]
  refine ⟨fun h => ?_, fun h => ?_, fun p sweep h => ?_⟩
  · simp only [State.windowExpiry, h]
  · simp only [State.windowExpiry, h]
    rfl
  · rw [State.windowExpiry_fired h]
    have hby := (s.closed c).bystanders_miss c p sweep
    obtain ⟨hlot, hcheck⟩ := (s.closed c).miss_lot_check c p sweep
    have hdial : ((s.closed c).miss c p sweep).dial = (s.closed c).dial := congrArg Bystanders.dial hby
    have haside : ((s.closed c).miss c p sweep).dial.aside = s.dial.aside := by
      rw [hdial]
      rfl
    have hejector (c' : Chute) : ((s.closed c).miss c p sweep).ejector c' = (s.closed c).ejector c' :=
      congrArg (fun b : Bystanders => b.ejectors[(chuteIndex c').val]) hby
    have hbusy (st : Station) : ((s.closed c).miss c p sweep).isBusy st = (s.closed c).isBusy st := by
      rw [State.isBusy, hdial]; rfl
    refine ⟨_, rfl, ?_, fun c' hc' => ?_, ?_, fun st hst => ?_, fun q hq => ?_, ?_, ?_, ?_, ?_, ?_, ?_, ?_, ?_, ?_,
      State.endDwellTest_dial_of_aside haside, ?_, ?_, ?_, ?_⟩
    · rw [State.endDwellTest_ejector, hejector]
      simp [State.closed]
    · rw [State.endDwellTest_ejector, hejector]
      simp [State.closed, hc']
    · rw [State.endDwellTest_isBusy, hbusy]
      simp [State.closed]
    · rw [State.endDwellTest_isBusy, hbusy]
      simp [State.closed, hst]
    · rw [State.endDwellTest_pocket, State.miss_pocket_ne _ c hq]
      rfl
    · rw [State.endDwellTest_gates]
      exact congrArg Bystanders.settings hby
    · rw [State.endDwellTest_heads]
      exact congrArg Bystanders.heads hby
    · rw [State.endDwellTest_banks]
      exact congrArg Bystanders.banks hby
    · rw [State.endDwellTest_feed]
      exact congrArg Bystanders.feed hby
    · rw [State.endDwellTest_link]
      exact congrArg Bystanders.link hby
    · rw [State.endDwellTest_lines]
      exact congrArg Bystanders.lines hby
    · rw [State.endDwellTest_forceClass]
      exact congrArg Bystanders.forceClass hby
    · rw [State.endDwellTest_lot]
      exact hlot
    · rw [State.endDwellTest_check]
      exact hcheck
    · rintro g r rfl hr
      have hr' : (s.closed (.gate g)).pocket p = .live r := hr
      rw [show (s.closed (.gate g)).miss (.gate g) p sweep = _ from State.missGate_live hr']
      refine ⟨?_, ?_, fun g' hg' => ?_, ?_, ?_⟩
      · simp [State.pocket]
      · rw [State.endDwellTest_bin]
        simp only [State.bin, Vector.getElem_set_self]
        rfl
      · rw [State.endDwellTest_bin]
        simp only [State.bin]
        rw [Vector.getElem_set_ne _ _ (by omega)]
        rfl
      · rw [State.endDwellTest_gates]
        rfl
      · rw [State.endDwellTest_faults]
        show FaultUnit.afterMiss _ g (decide (3 ≤ (s.bin g).misses + 1)) = _
        by_cases third : 3 ≤ (s.bin g).misses + 1
        · rw [decide_eq_true third, if_pos third, if_pos third]
          simp only [FaultUnit.afterMiss, if_true, BitVec.or_assoc]
          rfl
        · rw [decide_eq_false third, if_neg third, if_neg third]
          simp only [FaultUnit.afterMiss, Bool.false_eq_true, if_false, BitVec.or_assoc]
          rfl
    · rintro r rfl hr
      have hr' : (s.closed .checkReturn).pocket p = .live r := hr
      rw [show (s.closed .checkReturn).miss .checkReturn p sweep = _ from State.missReturn_live hr']
      simp [State.closed]
    · rintro r reason rfl rfl hr hphase
      have hr' : (s.closed .purge).pocket p = .live r := hr
      rw [show (s.closed .purge).miss .purge p false = _ from State.missPurge_live hr' hphase,
        State.countPurgeMiss_eq]
      refine ⟨?_, ?_, ?_, ?_⟩
      · simp [State.pocket]
      · simp [State.closed]
      · simp [State.closed]
      · simp [State.closed]
    · rintro rfl rfl
      rw [show (s.closed .purge).miss .purge p true = s.closed .purge from rfl]
      simp [State.closed]

end Sys2Proof.Machine
end

section
/-! SUPPORT. A chute pulse on a fired ejector (R122 to R124, R129, R144). -/

namespace Sys2Proof.Machine

theorem CheckUnit.exposeDeciders_eq (u : CheckUnit) (g : Option Grading) :
    u.exposeDeciders g = { u with exposure := exposedBy u.exposure g } := by
  match g with
  | none => rfl
  | some ⟨_, .one .a _⟩ => rfl
  | some ⟨_, .one .b _⟩ => rfl
  | some ⟨_, .both _ _⟩ => rfl

/-- The lot after its counters have moved for a PART record of the current lot. -/
theorem State.reportPart_counters (s : State) (r : LiveRecord) (f : LotCounters → LotCounters) :
    (s.reportPart r f).lot.counters =
      if r.kind = .part ∧ s.isCurrentLot r.lot = true then f s.lot.counters else s.lot.counters := by
  rw [State.reportPart_lot]
  split <;> rfl

theorem State.bin_onBin_ne (s : State) {g g' : Fin 12} (h : g' ≠ g) (f : Bin → Bin) : (s.onBin g f).bin g' = s.bin g' := by
  rw [State.bin_onBin, if_neg h]

theorem Bins.get_set_ne (bins : Vector Bin 12) {g g' : Fin 12} (h : g' ≠ g) (b : Bin) :
    (bins.set g.val b)[g'.val] = bins[g'.val] :=
  Vector.getElem_set_ne _ _ (fun e => h (Fin.ext e.symm))

theorem State.confirmGate_live {s : State} {g : Fin 12} {p : Fin 24} {r : LiveRecord}
    (hr : s.pocket p = .live r) :
    s.confirmGate g p =
      if (s.bin g).present = true then (s.onBin g Bin.seen).binPart g p r
      else (s.onBin g Bin.seen).spillPart g p r := by
  simp only [State.confirmGate, hr]

/-- A gate with its canister present bins the part (R122, R129, R144). -/
theorem State.binPart_eq (s : State) (g : Fin 12) (p : Fin 24) (r : LiveRecord) :
    s.binPart g p r =
      { s.reportPart r (LotCounters.countBinned g) with
        pockets := s.pockets.set p.val .empty
        gates :=
          { s.gates with
            bins := s.gates.bins.set g.val { s.bin g with fill := count16 (s.bin g).fill } }
        faults := s.faults.afterFill g (s.bin g) { s.bin g with fill := count16 (s.bin g).fill }
        check := { s.check with exposure := exposedBy s.check.exposure r.grading } } := by
  rw [State.binPart, State.fillBin, State.testFill_eq, State.bin_onBin, if_pos rfl,
    State.reportPart_eq, State.reportPart_eq]
  simp only [State.onCheck, CheckUnit.exposeDeciders_eq]
  rfl

/-- A gate with its canister absent spills the part (R122). -/
theorem State.spillPart_eq (s : State) (g : Fin 12) (p : Fin 24) (r : LiveRecord) :
    s.spillPart g p r =
      { s.reportPart r fun c => { c with spilled := count32 c.spilled } with
        pockets := s.pockets.set p.val .empty
        gates :=
          { s.gates with
            bins := s.gates.bins.set g.val { s.bin g with spills := count16 (s.bin g).spills } }
        faults :=
          { s.faults with
            events := s.faults.events ||| 0x40#19
            pocketCapture :=
              takePocketOffer s.faults.pocketCapture
                { kind := .spill, pocket := p, lot := r.lot, serial := r.serial,
                  station := 8 + g.val, cls := r.cls } } } := by
  rw [State.spillPart, State.reportPart_eq, State.reportPart_eq]
  rfl

theorem State.confirmReturn_live {s : State} {p : Fin 24} {r : LiveRecord} (hr : s.pocket p = .live r) :
    s.confirmReturn p = (s.setPocket p .empty).countReturn r := by
  simp only [State.confirmReturn, hr]

theorem State.countReturn_eq (s : State) (r : LiveRecord) :
    s.countReturn r =
      { s with lot :=
        { s.lot with counters :=
          if r.kind = .check ∧ s.isCurrentLot r.lot = true then
            { s.lot.counters with checkReturns := min 65535 (s.lot.counters.checkReturns + 1) }
          else s.lot.counters } } := by
  unfold State.countReturn
  by_cases h : r.kind = .check ∧ s.isCurrentLot r.lot = true
  · rw [if_pos (by simpa using h), if_pos h]
    rfl
  · rw [if_neg (by simpa using h), if_neg h]

theorem State.confirmPurge_live {s : State} {p : Fin 24} {r : LiveRecord} {reason : PurgeReason}
    (hr : s.pocket p = .live r) (hphase : r.phase = .ejecting (.purge reason)) :
    s.confirmPurge p false =
      ((s.onGates fun u => { u with purgeMisses := 0 }).setPocket p .empty).reportPart r
        (LotCounters.countPurged reason) := by
  simp only [State.confirmPurge, hr, State.countPurge, hphase, Bool.false_eq_true, if_false]

/-- A sweep empties an UNKNOWN pocket and is counted (R36, R124). -/
theorem State.confirmPurge_sweep (s : State) (p : Fin 24) :
    s.confirmPurge p true =
      { s with
        pockets := s.pockets.set p.val (if s.pocket p = .unknown then .empty else s.pocket p)
        gates := { s.gates with purgeMisses := 0 }
        lot :=
          { s.lot with counters :=
            { s.lot.counters with swept := min 4294967295 (s.lot.counters.swept + 1) } } } := by
  unfold State.confirmPurge
  dsimp only
  rw [if_pos rfl]
  by_cases h : s.pocket p = .unknown
  · rw [if_pos h, if_pos h]
    rfl
  · rw [if_neg h, if_neg h, show s.pockets.set p.val (s.pocket p) = s.pockets from Vector.set_getElem_self _]
    rfl

/-- The state after a chute pulse in FIRED, before the outcome of the ejection. -/
def State.pulsed (s : State) (c : Chute) : State :=
  (s.onEjector c fun e => { e with state := .settling }).leaveBusy (.eject c)

theorem exec_chutePulse {s : State} (hreset : s.lines.inReset = false) (c : Chute) :
    exec (.chutePulse c) s = .next (s.chutePulse c).endDwellTest := by
  show execChutePulse c s = _
  unfold execChutePulse
  rw [State.event_eq _ hreset]

theorem State.chutePulse_fired {s : State} {c : Chute} {p : Fin 24} {sweep : Bool}
    (h : (s.ejector c).state = .fired p sweep) : s.chutePulse c = ((s.pulsed c).confirm c p sweep).drainTest := by
  simp only [State.chutePulse, h]
  rfl

/-- Where an event has left the lot but for its counters, the test of R162 decides the lot state. -/
theorem State.lot_drained_of {s u : State} (hstate : u.lot.state = s.lot.state) (hnumber : u.lot.number = s.lot.number) :
    u.drainTest.endDwellTest.lot =
      { s.lot with
        state := s.lotStateAfter u.drainTest.endDwellTest
        counters := u.drainTest.endDwellTest.lot.counters } := by
  have hst : u.drainTest.lot.state = s.lotStateAfter u.drainTest.endDwellTest :=
    u.drainTest_state.trans (State.lotStateAfter_congr hstate (by simp) (by simp))
  show _ = (⟨s.lotStateAfter u.drainTest.endDwellTest, s.lot.number, u.drainTest.endDwellTest.lot.counters⟩ : Lot)
  rw [← hst, ← hnumber, ← u.drainTest_number, State.endDwellTest_lot]

/-- Settles O38: what every confirmation leaves alone is shown once; the outcome is read station by station. -/
theorem chutePulse : Obligations.ChutePulse := by
  intro s c hreset
  rw [exec_chutePulse hreset]
  refine ⟨fun h => ?_, fun h => ?_, fun p sweep h => ?_⟩
  · have hnoise : s.chutePulse c = s.onEjector c fun e => { e with noise := count16 e.noise } := by
      simp only [State.chutePulse, h]
    rw [hnoise]
    rfl
  · simp only [State.chutePulse, h]
  · rw [State.chutePulse_fired h]
    have hby := (s.pulsed c).bystanders_confirm c p sweep
    have hdial : ((s.pulsed c).confirm c p sweep).drainTest.dial = (s.pulsed c).dial :=
      (State.drainTest_dial _).trans (congrArg Bystanders.dial hby)
    have haside : ((s.pulsed c).confirm c p sweep).drainTest.dial.aside = s.dial.aside := by
      rw [hdial]
      rfl
    have hejector (c' : Chute) : ((s.pulsed c).confirm c p sweep).ejector c' = (s.pulsed c).ejector c' :=
      congrArg (fun b : Bystanders => b.ejectors[(chuteIndex c').val]) hby
    have hbusy (st : Station) : ((s.pulsed c).confirm c p sweep).drainTest.isBusy st = (s.pulsed c).isBusy st := by
      rw [State.isBusy, hdial]
      rfl
    refine ⟨_, rfl, ?_, fun c' hc' => ?_, ?_, fun st hst => ?_, fun q hq => ?_, ?_, ?_, ?_, ?_, ?_, ?_, ?_,
      State.endDwellTest_dial_of_aside haside,
      State.lot_drained_of (congrArg Bystanders.lotState hby) (congrArg Bystanders.lotNumber hby), ?_, ?_, ?_, ?_, ?_⟩
    · rw [State.endDwellTest_ejector, State.drainTest_ejector, hejector]
      simp [State.pulsed]
    · rw [State.endDwellTest_ejector, State.drainTest_ejector, hejector]
      simp [State.pulsed, hc']
    · rw [State.endDwellTest_isBusy, hbusy]
      simp [State.pulsed]
    · rw [State.endDwellTest_isBusy, hbusy]
      simp [State.pulsed, hst]
    · rw [State.endDwellTest_pocket, State.drainTest_pocket, State.confirm_pocket_ne _ c hq]
      rfl
    · rw [State.endDwellTest_gates, State.drainTest_gates]
      exact congrArg Bystanders.settings hby
    · rw [State.endDwellTest_heads, State.drainTest_heads]
      exact congrArg Bystanders.heads hby
    · rw [State.endDwellTest_banks, State.drainTest_banks]
      exact congrArg Bystanders.banks hby
    · rw [State.endDwellTest_feed, State.drainTest_feed]
      exact congrArg Bystanders.feed hby
    · rw [State.endDwellTest_link, State.drainTest_link]
      exact congrArg Bystanders.link hby
    · rw [State.endDwellTest_lines, State.drainTest_lines]
      exact congrArg Bystanders.lines hby
    · rw [State.endDwellTest_forceClass, State.drainTest_forceClass]
      exact congrArg Bystanders.forceClass hby
    · rintro g r rfl hr hpresent
      have hu : (s.pulsed (.gate g)).confirm (.gate g) p sweep =
          ((s.pulsed (.gate g)).onBin g Bin.seen).binPart g p r :=
        (State.confirmGate_live (s := s.pulsed (.gate g)) hr).trans (if_pos hpresent)
      rw [hu, State.binPart_eq]
      refine ⟨_, rfl, ?_, fun g' hg' => ?_, ?_, ?_, ?_, ?_, ?_⟩
      · rw [State.endDwellTest_bin, State.drainTest_bin, State.bin_onBin, if_pos rfl]
        exact Vector.getElem_set_self _
      · rw [State.endDwellTest_bin, State.drainTest_bin]
        exact (Bins.get_set_ne _ hg' _).trans (State.bin_onBin_ne _ hg' _)
      · rw [State.endDwellTest_gates, State.drainTest_gates]
        rfl
      · simp [State.pocket]
      · rw [State.endDwellTest_faults, State.drainTest_faults, State.bin_onBin, if_pos rfl]
        rfl
      · rw [State.endDwellTest_check, State.drainTest_check]
        rfl
      · rw [State.endDwellTest_lot, State.drainTest_counters]
        exact State.reportPart_counters _ r _
    · rintro g r rfl hr hpresent
      have hu : (s.pulsed (.gate g)).confirm (.gate g) p sweep =
          ((s.pulsed (.gate g)).onBin g Bin.seen).spillPart g p r :=
        (State.confirmGate_live (s := s.pulsed (.gate g)) hr).trans
          (if_neg (ne_true_of_eq_false hpresent))
      rw [hu, State.spillPart_eq]
      refine ⟨?_, fun g' hg' => ?_, ?_, ?_, ?_, ?_, ?_⟩
      · rw [State.endDwellTest_bin, State.drainTest_bin, State.bin_onBin, if_pos rfl]
        exact Vector.getElem_set_self _
      · rw [State.endDwellTest_bin, State.drainTest_bin]
        exact (Bins.get_set_ne _ hg' _).trans (State.bin_onBin_ne _ hg' _)
      · rw [State.endDwellTest_gates, State.drainTest_gates]
        rfl
      · simp [State.pocket]
      · rw [State.endDwellTest_check, State.drainTest_check]
        simp [State.pulsed]
      · rw [State.endDwellTest_faults, State.drainTest_faults]
        rfl
      · rw [State.endDwellTest_lot, State.drainTest_counters]
        exact State.reportPart_counters _ r _
    · rintro r rfl hr
      have hu : (s.pulsed .checkReturn).confirm .checkReturn p sweep =
          ((s.pulsed .checkReturn).setPocket p .empty).countReturn r :=
        State.confirmReturn_live hr
      rw [hu, State.countReturn_eq]
      refine ⟨?_, ?_, ?_, ?_, ?_, ?_⟩
      · simp [State.pocket]
      · rw [State.endDwellTest_gates, State.drainTest_gates]
        rfl
      · rw [State.endDwellTest_gates, State.drainTest_gates]
        rfl
      · rw [State.endDwellTest_faults, State.drainTest_faults]
        rfl
      · rw [State.endDwellTest_check, State.drainTest_check]
        rfl
      · rw [State.endDwellTest_lot, State.drainTest_counters]
        rfl
    · rintro r reason rfl rfl hr hphase
      have hu : (s.pulsed .purge).confirm .purge p false =
          (((s.pulsed .purge).onGates fun u => { u with purgeMisses := 0 }).setPocket p .empty).reportPart r
            (LotCounters.countPurged reason) :=
        State.confirmPurge_live hr hphase
      rw [hu]
      refine ⟨?_, ?_, ?_, ?_, ?_, ?_⟩
      · simp
      · simp [State.pulsed]
      · simp [State.pulsed]
      · simp [State.pulsed]
      · simp [State.pulsed]
      · rw [State.endDwellTest_lot, State.drainTest_counters]
        exact State.reportPart_counters _ r _
    · rintro rfl rfl
      have hu : (s.pulsed .purge).confirm .purge p true = (s.pulsed .purge).confirmPurge p true := rfl
      rw [hu, State.confirmPurge_sweep]
      refine ⟨?_, ?_, ?_, ?_, ?_, ?_⟩
      · rw [State.endDwellTest_pocket, State.drainTest_pocket]
        exact Vector.getElem_set_self _
      · simp [State.pulsed]
      · simp [State.pulsed]
      · simp [State.pulsed]
      · simp [State.pulsed]
      · simp [State.pulsed]

end Sys2Proof.Machine
end

section
/-! SUPPORT. The end of a feed, with its load or without (R29, R30, R139, R161). -/

namespace Sys2Proof.Machine

theorem State.countFeedMiss_eq (s : State) :
    s.countFeedMiss =
      { s with
        feed := { s.feed with misses := if 8 ≤ s.feed.misses + 1 then 0 else s.feed.misses + 1 }
        faults :=
          if 8 ≤ s.feed.misses + 1 then { s.faults with events := s.faults.events ||| 0x1000#19 }
          else s.faults } := by
  unfold State.countFeedMiss
  by_cases h : 8 ≤ s.feed.misses + 1
  · rw [if_pos (show Config.feedMissLimit ≤ _ from h), if_pos h, if_pos h]
    rfl
  · rw [if_neg (show ¬Config.feedMissLimit ≤ _ from h), if_neg h, if_neg h]
    rfl

theorem State.countCheckFeedMiss_eq (s : State) :
    s.countCheckFeedMiss =
      { s with
        feed := { s.feed with checkMisses := if 3 ≤ s.feed.checkMisses + 1 then 0 else s.feed.checkMisses + 1 }
        faults :=
          if 3 ≤ s.feed.checkMisses + 1 then { s.faults with events := s.faults.events ||| 0x2000#19 }
          else s.faults
        check := if 3 ≤ s.feed.checkMisses + 1 then s.check.restart else s.check } := by
  unfold State.countCheckFeedMiss
  by_cases h : 3 ≤ s.feed.checkMisses + 1
  · rw [if_pos (show Config.checkFeedMissLimit ≤ _ from h), if_pos h, if_pos h, if_pos h]
    rfl
  · rw [if_neg (show ¬Config.checkFeedMissLimit ≤ _ from h), if_neg h, if_neg h, if_neg h]
    rfl

/-- The state after a part feed or a check feed has missed, before the test of R162. -/
def State.missed (s : State) (k : Kind) : State :=
  match k with
  | .part => s.endFeed.countFeedMiss
  | .check => s.endFeed.countCheckFeedMiss

theorem State.feedMiss_inFlight {s : State} {f : Feed} {ms : Nat} (hf : s.feed.inFlight = some f)
    (hrun : s.feed.windowTimer = .running ms) : s.feedMiss = (s.missed f.kind).drainTest := by
  simp only [State.feedMiss, hf, hrun, Timer.isRunning, if_true]
  cases f.kind <;> rfl

/-- A miss touches the feed unit, the fault unit and the check unit, and LOAD leaves the busy set. -/
theorem State.missed_eq (s : State) (k : Kind) :
    s.missed k =
      { s.leaveBusy .load with
        feed := (s.missed k).feed, faults := (s.missed k).faults, check := (s.missed k).check } := by
  cases k
  · simp only [State.missed, State.countFeedMiss_eq]
    rfl
  · simp only [State.missed, State.countCheckFeedMiss_eq]
    rfl

/-- Settles O19: the two kinds of miss are one state each, and the tests of R162 and R4 follow. -/
theorem feedMissed : Obligations.FeedMissed := by
  refine ⟨fun s f ms hreset hf hrun => ?_, fun s hreset => ?_⟩
  · have hexec : exec .feedWindowExpiry s = .next s.feedMiss.endDwellTest := by
      show execFeedWindowExpiry s = _
      unfold execFeedWindowExpiry
      rw [State.event_eq _ hreset]
    have haside := s.feedMiss_aside
    rw [hexec, State.feedMiss_inFlight hf hrun]
    rw [State.feedMiss_inFlight hf hrun] at haside
    have hmissed := s.missed_eq f.kind
    have hpockets : (s.missed f.kind).pockets = s.pockets := (congrArg State.pockets hmissed).trans rfl
    have hheads : (s.missed f.kind).heads = s.heads := (congrArg State.heads hmissed).trans rfl
    have hgates : (s.missed f.kind).gates = s.gates := (congrArg State.gates hmissed).trans rfl
    have hbanks : (s.missed f.kind).banks = s.banks := (congrArg State.banks hmissed).trans rfl
    have hlot : (s.missed f.kind).lot = s.lot := (congrArg State.lot hmissed).trans rfl
    have hlink : (s.missed f.kind).link = s.link := (congrArg State.link hmissed).trans rfl
    have hlines : (s.missed f.kind).lines = s.lines := (congrArg State.lines hmissed).trans rfl
    have hforce : (s.missed f.kind).forceClass = s.forceClass := (congrArg State.forceClass hmissed).trans rfl
    have hbusy (st : Station) : (s.missed f.kind).isBusy st = (s.leaveBusy .load).isBusy st :=
      (congrArg (fun u : State => u.isBusy st) hmissed).trans rfl
    have hdrained := State.lot_drained_of (congrArg Lot.state hlot) (congrArg Lot.number hlot)
    refine ⟨_, rfl, ?_, ?_, ?_, ?_, fun st hst => ?_, by simp [hpockets], by simp [hheads], by simp [hgates],
      by simp [hbanks], ?_, by simp [hlink], by simp [hlines], by simp [hforce],
      State.endDwellTest_dial_of_aside haside⟩
    · rw [State.endDwellTest_feed, State.drainTest_feed]
      cases f.kind
      · simp only [State.missed, State.countFeedMiss_eq]
        rfl
      · simp only [State.missed, State.countCheckFeedMiss_eq]
        rfl
    · rw [State.endDwellTest_faults, State.drainTest_faults]
      cases f.kind
      · simp only [State.missed, State.countFeedMiss_eq]
        rfl
      · simp only [State.missed, State.countCheckFeedMiss_eq]
        rfl
    · rw [State.endDwellTest_check, State.drainTest_check]
      cases f.kind
      · simp only [State.missed, State.countFeedMiss_eq, reduceCtorEq, false_and, if_false]
        rfl
      · simp only [State.missed, State.countCheckFeedMiss_eq, true_and]
        rfl
    · simp [hbusy]
    · simp [hbusy, hst]
    · rw [hdrained, State.endDwellTest_lot, State.drainTest_counters, hlot]
  · show execFeedPulseEnd s = _
    unfold execFeedPulseEnd
    rw [State.event_eq _ hreset]
    rfl

end Sys2Proof.Machine
end

section
/-! SUPPORT. LOAD_SENSE (R29, R137, R139, R161, R162). -/

namespace Sys2Proof.Machine

/-- Where an event has left the dial but for its busy set, the end-of-dwell test and the report of the severe
flags leave it as R4 and R5 say. -/
theorem State.reportSevere_dial_of_aside {s u : State} (h : u.dial.aside = s.dial.aside) :
    (u.endDwellTest.reportSevere s).dial =
      if s.dial.state = .held ∧ s.dial.hostHold = false ∧ s.anySevere = true ∧
          (u.endDwellTest.reportSevere s).anySevere = false then
        Dial.stepped { s.dial with busy := (u.endDwellTest.reportSevere s).dial.busy }
      else s.dial.afterWork (u.endDwellTest.reportSevere s).dial.busy (u.endDwellTest.reportSevere s).anySevere := by
  have hdial : u.dial = { s.dial with busy := u.dial.busy } := Dial.aside_eq_iff.mp h
  have hstate : u.dial.state = s.dial.state := (congrArg Dial.state hdial).trans rfl
  have hhold : u.dial.hostHold = s.dial.hostHold := (congrArg Dial.hostHold hdial).trans rfl
  rw [State.reportSevere_busy, State.reportSevere_anySevere, State.endDwellTest_anySevere]
  by_cases hclear : s.dial.state = .held ∧ s.dial.hostHold = false ∧ s.anySevere = true ∧ u.anySevere = false
  · obtain ⟨hheld, hfree, hbefore, hafter⟩ := hclear
    have hstays : u.endDwellTest = u := State.endDwellTest_of_not_over (by
      rw [Bool.eq_false_iff, Ne, State.dwellOver_iff, hstate, hheld]
      exact fun hc => nomatch hc.1)
    rw [if_pos ⟨hheld, hfree, hbefore, hafter⟩, hstays, State.reportSevere_eq,
      if_pos ⟨hbefore, hafter, hstate.trans hheld, hhold.trans hfree⟩, hdial]
    rfl
  · have hquiet : u.endDwellTest.reportSevere s = u.endDwellTest := by
      rw [State.reportSevere_eq, if_neg]
      rintro ⟨hbefore, hafter, hheld, hfree⟩
      rw [State.endDwellTest_anySevere] at hafter
      rw [State.endDwellTest_hostHold] at hfree
      rcases u.endDwellTest_cases with ⟨-, he⟩ | ⟨-, -, he⟩ | ⟨-, -, hwhy, -⟩ | ⟨-, -, -, -, he⟩
      · rw [he] at hheld
        exact hclear ⟨hstate.symm.trans hheld, hhold.symm.trans hfree, hbefore, hafter⟩
      · rw [he] at hheld
        cases hheld
      · rw [hafter, hfree] at hwhy
        cases hwhy
      · rw [he] at hheld
        cases hheld
    rw [if_neg hclear, hquiet, ← u.endDwellTest_anySevere]
    exact State.endDwellTest_dial_of_aside h

/-- The check unit after a load (R137, R139). -/
def State.checkAfterLoad (s : State) (f : Feed) : CheckUnit :=
  match f.kind with
  | .part => if s.isCurrentLot f.lot then s.check.partLoaded s.banks.active.checkInterval else s.check
  | .check => if s.lot.number = f.lot then s.check.restart else s.check

/-- A part load counts toward the next check while one is to come and none is due (R137). -/
theorem State.checkAfterPart (s : State) (lot : Nat) :
    (if s.isCurrentLot lot then s.check.partLoaded s.banks.active.checkInterval else s.check) =
      if s.isCurrentLot lot = true ∧ s.banks.active.checkInterval ≠ 0 ∧ s.check.due = false then
        { s.check with
          counter := s.check.counter + 1
          due := decide (s.check.counter + 1 = s.banks.active.checkInterval) }
      else s.check := by
  unfold CheckUnit.partLoaded
  by_cases hcurrent : s.isCurrentLot lot = true
  · by_cases hcounts : s.banks.active.checkInterval ≠ 0 ∧ s.check.due = false
    · obtain ⟨hinterval, hdue⟩ := hcounts
      simp [hcurrent, hinterval, hdue]
    · have hidle : s.banks.active.checkInterval = 0 ∨ s.check.due = true := by
        rw [not_and_or, not_not, Bool.not_eq_false] at hcounts
        exact hcounts
      rw [if_pos hcurrent, if_pos hidle, if_neg fun h => hcounts h.2]
  · rw [if_neg hcurrent, if_neg fun h => hcurrent h.1]

/-- The lot after a load (R29, R154, R161). -/
def State.lotAfterLoad (s : State) (f : Feed) : Lot :=
  if s.isCurrentLot f.lot then Lot.serialLimit { s.lot with counters := f.kind.countLoad s.lot.counters } f.kind
  else s.lot

theorem State.reportLoad_eq (s : State) (f : Feed) : s.reportLoad f = { s with check := s.checkAfterLoad f } := by
  unfold State.reportLoad State.checkAfterLoad
  cases f.kind <;> dsimp only <;> split <;> rfl

theorem State.countLoad_eq (s : State) (f : Feed) : s.countLoad f = { s with lot := s.lotAfterLoad f } := by
  unfold State.countLoad State.lotAfterLoad
  split <;> rfl

theorem State.load_eq (s : State) (f : Feed) :
    s.load f =
      { s with
        pockets := s.pockets.set f.target.val (.live (s.loadRecord f))
        check := s.checkAfterLoad f
        lot := s.lotAfterLoad f } := by
  rw [State.load, State.reportLoad_eq, State.countLoad_eq]
  rfl

theorem State.load_pocket_target (s : State) (f : Feed) : (s.load f).pocket f.target = .live (s.loadRecord f) := by
  rw [State.load_eq]
  exact Vector.getElem_set_self _

theorem State.load_pocket_ne (s : State) (f : Feed) {q : Fin 24} (hq : q ≠ f.target) :
    (s.load f).pocket q = s.pocket q := by
  rw [State.load_eq]
  exact Vector.getElem_set_ne f.target.isLt q.isLt fun e => hq (Fin.ext e.symm)

/-- A load leaves a live record, so no drain ends with it. -/
theorem State.load_drainTest (s : State) (f : Feed) : (s.load f).drainTest = s.load f := by
  rcases (s.load f).drainTest_cases with ⟨hstays, -⟩ | ⟨-, -, -, hnone⟩
  · exact hstays
  · have hdead := hnone f.target
    rw [State.load_pocket_target] at hdead
    cases hdead

theorem Lot.serialLimit_state_eq (l : Lot) (k : Kind) :
    (l.serialLimit k).state =
      if l.state = .open_ ∧
          ((k = .part ∧ l.counters.loaded = 16777215) ∨ (k = .check ∧ l.counters.checkLoads = 65535)) then
        .draining
      else l.state := by
  cases k
  · by_cases h : l.state = .open_ ∧ l.counters.loaded = 16777215 <;>
      simp [Lot.serialLimit, Config.maxPartSerial, h]
  · by_cases h : l.state = .open_ ∧ l.counters.checkLoads = 65535 <;>
      simp [Lot.serialLimit, Config.maxCheckSerial, h]

theorem State.lotAfterLoad_number (s : State) (f : Feed) : (s.lotAfterLoad f).number = s.lot.number := by
  unfold State.lotAfterLoad
  split
  · rw [Lot.serialLimit_eq]
  · rfl

theorem State.lotAfterLoad_counters (s : State) (f : Feed) :
    (s.lotAfterLoad f).counters =
      if s.isCurrentLot f.lot then f.kind.countLoad s.lot.counters else s.lot.counters := by
  unfold State.lotAfterLoad
  split
  · rw [Lot.serialLimit_eq]
  · rfl

/-- The count after a load stands at the largest serial exactly when the count before stood one below it, or,
for a check standard, at it (R154). -/
theorem Kind.countLoad_last (k : Kind) (c : LotCounters) :
    ((k = .part ∧ (k.countLoad c).loaded = 16777215) ∨ (k = .check ∧ (k.countLoad c).checkLoads = 65535)) ↔
      ((k = .part ∧ c.loaded + 1 = 16777215) ∨ (k = .check ∧ 65535 ≤ c.checkLoads + 1)) := by
  cases k
  · have hcount : (Kind.part.countLoad c).loaded = min 4294967295 (c.loaded + 1) := rfl
    simp only [hcount, true_and, reduceCtorEq, false_and, or_false]
    omega
  · have hcount : (Kind.check.countLoad c).checkLoads = min 65535 (c.checkLoads + 1) := rfl
    simp only [hcount, true_and, reduceCtorEq, false_and, false_or]
    omega

theorem State.lotAfterLoad_state (s : State) (f : Feed) :
    (s.lotAfterLoad f).state =
      if s.lot.state = .open_ ∧ s.isCurrentLot f.lot = true ∧
          ((f.kind = .part ∧ s.lot.counters.loaded + 1 = 16777215) ∨
            (f.kind = .check ∧ 65535 ≤ s.lot.counters.checkLoads + 1)) then .draining
      else s.lot.state := by
  unfold State.lotAfterLoad
  by_cases hcurrent : s.isCurrentLot f.lot = true
  · simp only [hcurrent, if_true, Lot.serialLimit_state_eq, Kind.countLoad_last, true_and]
  · rw [if_neg hcurrent, if_neg fun h => hcurrent h.2.1]

/-- The state after LOAD_SENSE has ended the feed and cleared its miss count, before the load. -/
def State.confirmed (s : State) (f : Feed) : State := s.endFeed.onFeed fun u => u.clearMisses f.kind

theorem State.loadSense_taken {s : State} {f : Feed} {ms : Nat} (hf : s.feed.inFlight = some f)
    (hrun : s.feed.windowTimer = .running ms) (hempty : s.pocket f.target = .empty) :
    s.loadSense = ((s.confirmed f).load f).drainTest := by
  simp only [State.loadSense, hf, hrun, Timer.isRunning, if_true, hempty]
  rfl

theorem State.loadSense_lost {s : State} {f : Feed} {ms : Nat} (hf : s.feed.inFlight = some f)
    (hrun : s.feed.windowTimer = .running ms) (hempty : s.pocket f.target ≠ .empty) :
    s.loadSense = (s.confirmed f).drainTest := by
  simp only [State.loadSense, hf, hrun, Timer.isRunning, if_true]
  rfl

/-- What LOAD_SENSE does to the blocks other than the dial, the lot and the check unit is the same whether the
target is loaded or not. -/
theorem State.loadSense_eq {s : State} {f : Feed} {ms : Nat} (hf : s.feed.inFlight = some f)
    (hrun : s.feed.windowTimer = .running ms) :
    s.loadSense =
      { s.confirmed f with
        pockets := s.loadSense.pockets, check := s.loadSense.check, lot := s.loadSense.lot } := by
  by_cases hempty : s.pocket f.target = .empty
  · rw [State.loadSense_taken hf hrun hempty, State.drainTest_eq, State.load_eq]
  · rw [State.loadSense_lost hf hrun hempty, State.drainTest_eq]

theorem exec_loadSense {s : State} (hreset : s.lines.inReset = false) :
    exec .loadSense s = .next (s.loadSense.endDwellTest.reportSevere s) := by
  show execLoadSense s = _
  unfold execLoadSense
  rw [State.event_eq _ hreset]

/-- Without a feed window LOAD_SENSE is ignored (R29). -/
theorem State.loadSense_ignored {s : State} (h : s.feed.inFlight = none ∨ s.feed.windowTimer = .stopped) :
    s.loadSense = s := by
  unfold State.loadSense
  split
  next f hf =>
    rw [if_neg]
    rcases h with hnone | hstopped
    · rw [hnone] at hf
      cases hf
    · rw [hstopped]
      decide
  next => rfl

theorem State.firstHead_eq (s : State) (k : Kind) :
    s.firstHead k =
      match k, s.banks.active.mode with
      | .check, _ => if s.inService .a then .a else .b
      | .part, .singleB => if !s.inService .b && s.inService .a then .a else .b
      | .part, _ => if !s.inService .a && s.inService .b then .b else .a := by
  cases k
  · unfold State.firstHead
    cases s.banks.active.mode <;> rfl
  · rfl

/-- Settles O18: the blocks a feed's end touches alike are shown once, then the target that takes the load and
the one that does not. -/
theorem loadSense : Obligations.LoadSense := by
  refine ⟨fun s f ms hreset hf hrun => ?_, fun s hreset hquiet hdwell => ?_⟩
  · have hsame := State.loadSense_eq hf hrun
    have hfeed : s.loadSense.feed = (s.confirmed f).feed := (congrArg State.feed hsame).trans rfl
    have hheads : s.loadSense.heads = s.heads := (congrArg State.heads hsame).trans rfl
    have hgates : s.loadSense.gates = s.gates := (congrArg State.gates hsame).trans rfl
    have hbanks : s.loadSense.banks = s.banks := (congrArg State.banks hsame).trans rfl
    have hfaults : s.loadSense.faults = s.faults := (congrArg State.faults hsame).trans rfl
    have hlink : s.loadSense.link = s.link := (congrArg State.link hsame).trans rfl
    have hlines : s.loadSense.lines = s.lines := (congrArg State.lines hsame).trans rfl
    have hforce : s.loadSense.forceClass = s.forceClass := (congrArg State.forceClass hsame).trans rfl
    have hbusy : s.loadSense.dial.busy = (s.leaveBusy .load).dial.busy :=
      (congrArg (fun u : State => u.dial.busy) hsame).trans rfl
    have hisBusy (st : Station) : (s.loadSense.endDwellTest.reportSevere s).isBusy st = (s.leaveBusy .load).isBusy st := by
      unfold State.isBusy
      rw [State.reportSevere_busy, State.endDwellTest_busy, hbusy]
    refine ⟨_, exec_loadSense hreset, ?_, ?_, fun st hst => ?_, fun q hq => ?_, by simp [hheads], by simp [hgates],
      by simp [hbanks], by simp [hfaults], by simp [hlink], by simp [hlines], by simp [hforce], ?_,
      State.reportSevere_dial_of_aside s.loadSense_aside, fun hempty => ?_, fun hempty => ?_⟩
    · simp only [State.reportSevere_feed, State.endDwellTest_feed, hfeed]
      cases hk : f.kind <;> simp [State.confirmed, State.endFeed, FeedUnit.clearMisses, hk]
    · simp [hisBusy]
    · simp [hisBusy, hst]
    · by_cases hempty : s.pocket f.target = .empty
      · simp [State.loadSense_taken hf hrun hempty, State.load_pocket_ne _ f hq, State.confirmed, State.endFeed]
      · simp [State.loadSense_lost hf hrun hempty, State.confirmed, State.endFeed]
    · by_cases hempty : s.pocket f.target = .empty
      · simp [State.loadSense_taken hf hrun hempty, State.load_eq, State.lotAfterLoad_number, State.confirmed,
          State.endFeed]
      · simp [State.loadSense_lost hf hrun hempty, State.confirmed, State.endFeed]
    · have hlot := State.lot_drained_of (s := s) (u := s.confirmed f) rfl rfl
      rw [State.loadSense_lost hf hrun hempty]
      refine ⟨by simp [State.confirmed, State.endFeed], by simp [State.confirmed, State.endFeed], ?_⟩
      rw [State.reportSevere_lot, hlot, State.endDwellTest_lot, State.drainTest_counters]
      exact congrArg (fun x => ({ s.lot with state := x } : Lot)) (State.lotStateAfter_congr rfl (by simp) (by simp))
    · rw [State.loadSense_taken hf hrun hempty, State.load_drainTest]
      refine ⟨?_, ?_, ?_, ?_⟩
      · rw [State.reportSevere_pocket, State.endDwellTest_pocket, State.load_pocket_target, State.loadRecord,
          State.loadPhase, State.firstHead_eq]
        rfl
      · rw [State.reportSevere_lot, State.endDwellTest_lot, State.load_eq]
        refine (State.lotAfterLoad_counters _ f).trans ?_
        cases hk : f.kind
        · rfl
        · rfl
      · rw [State.reportSevere_lot, State.endDwellTest_lot, State.load_eq]
        exact State.lotAfterLoad_state _ f
      · rw [State.reportSevere_check, State.endDwellTest_check, State.load_eq]
        show (s.confirmed f).checkAfterLoad f = _
        unfold State.checkAfterLoad
        cases f.kind
        · exact State.checkAfterPart s f.lot
        · rfl
  · rw [exec_loadSense hreset, State.loadSense_ignored hquiet, State.endDwellTest_of_not_over hdwell,
      State.reportSevere_self]

end Sys2Proof.Machine
end

section
/-! SUPPORT. The end of a measurement that is abandoned, discarded or recalled (R24, R25, R46, R105, R146, R148). -/

namespace Sys2Proof.Machine

/-! ### What becomes of the record -/

theorem LiveRecord.purge_mark (r : LiveRecord) (v : PurgeMark) : r.clearRecallPending.purge v.reason = r.afterMark v := by
  cases v <;> rfl

theorem LiveRecord.recallTo_clear (r : LiveRecord) (h : Head) (inService : Bool) :
    r.clearRecallPending.recallTo h inService = r.afterRecall h inService := by
  rw [LiveRecord.recallTo_eq]
  rfl

/-- The lot after the end of a measurement of the record: a recall that is applied is counted (R146, R148). -/
def State.lotRecalled (s : State) (mark : Option PurgeMark) (r : LiveRecord) : Lot :=
  if mark = none ∧ r.flags.recallPending = true ∧ r.kind = .part ∧ s.isCurrentLot r.lot = true then
    s.lot.recalledOne
  else s.lot

theorem State.lotRecalled_of_kept (s : State) {mark : Option PurgeMark} {r : LiveRecord}
    (h : ¬(mark = none ∧ r.flags.recallPending = true)) : s.lotRecalled mark r = s.lot :=
  if_neg fun hc => h ⟨hc.1, hc.2.1⟩

theorem State.applyRecall_eq (s : State) (p : Fin 24) {r : LiveRecord} (hq : r.flags.recallPending = true) (h : Head) :
    s.applyRecall p r h =
      { s with
        pockets := s.pockets.set p.val (.live (r.afterRecall h (s.inService h)))
        lot := s.lotRecalled none r } := by
  rw [State.applyRecall, LiveRecord.recallTo_clear, State.reportPart_eq]
  unfold State.lotRecalled
  simp only [hq, true_and]
  rfl

/-- The check-done test on a record that has just been made PENDING (R105). -/
theorem State.checkDoneTest_pending (s : State) (r : LiveRecord) (h : Head) (openPair : Bool) :
    (r.checkedByAll s.inService → s.checkDoneTest { r with phase := .pending h openPair } = { r with phase := .checkDone }) ∧
      (¬r.checkedByAll s.inService →
        s.checkDoneTest { r with phase := .pending h openPair } = { r with phase := .pending h openPair }) := by
  have hdone : s.checkIsDone { r with phase := .pending h openPair } = true ↔ r.checkedByAll s.inService := by
    rw [State.checkIsDone_iff]
    exact ⟨fun ⟨hk, _, hx, hall⟩ => ⟨hk, hx, hall⟩, fun ⟨hk, hx, hall⟩ => ⟨hk, ⟨_, _, rfl⟩, hx, hall⟩⟩
  exact ⟨fun hc => if_pos (hdone.mpr hc), fun hc => if_neg (mt hdone.mp hc)⟩

/-- A measurement abandoned leaves its record as R25, R105 and R146 say, counts a recall that it applies, and touches
nothing else. -/
theorem State.abandonRecord_outcome {s : State} {h : Head} {p : Fin 24} {r : LiveRecord} {openPair : Bool}
    {mark : Option PurgeMark} (hr : s.pocket p = .live r) (hp : r.phase = .measuring h openPair mark) (disabled : Bool) :
    ∃ r',
      r.AbandonedTo h mark s.inService (if disabled && s.inService h.other then h.other else h)
        (openPair && !(disabled && s.inService h.other)) r' ∧
      s.abandonRecord h p disabled =
        { s with pockets := s.pockets.set p.val (.live r'), lot := s.lotRecalled mark r } := by
  cases mark with
  | some v =>
    refine ⟨r.afterMark v, rfl, ?_⟩
    simp only [State.abandonRecord, hr, hp, if_true, LiveRecord.purge_mark]
    rw [State.lotRecalled_of_kept s (mark := some v) (r := r) fun hc => nomatch hc.1]
    rfl
  | none =>
    cases hq : r.flags.recallPending
    · refine ⟨s.checkDoneTest { r with
          phase := .pending (if disabled && s.inService h.other then h.other else h)
            (openPair && !(disabled && s.inService h.other)) }, ?_, ?_⟩
      · simp only [LiveRecord.AbandonedTo, hq]
        exact s.checkDoneTest_pending r _ _
      · simp only [State.abandonRecord, hr, hp, hq, if_true, Bool.false_eq_true, if_false]
        rw [State.lotRecalled_of_kept s (mark := none) (r := r) fun hc => nomatch hq.symm.trans hc.2]
        cases disabled && s.inService h.other
        · simp only [Bool.false_eq_true, if_false, Bool.not_false, Bool.and_true]
          rfl
        · simp only [if_true, Bool.not_true, Bool.and_false]
          rfl
    · refine ⟨r.afterRecall h (s.inService h), ?_, ?_⟩
      · simp only [LiveRecord.AbandonedTo, hq]
      · simp only [State.abandonRecord, hr, hp, hq, if_true]
        exact s.applyRecall_eq p hq h

end Sys2Proof.Machine
end

section
/-! SUPPORT. HEAD_DISABLE, and the stops that abandon the measurements in flight (R9, R11, R59). -/

namespace Sys2Proof.Machine

theorem State.abandonMeasurement_of_request {s : State} {h : Head} {p : Fin 24} {range : Fin 7} {aperture : Fin 4}
    {sent : Bool} (hq : (s.head h).request = some ⟨.measure p range aperture, sent⟩) :
    (s.head h).measuredPocket = some p := by
  simp only [HeadUnit.measuredPocket, hq]

theorem HeadUnit.abandon_eq {u : HeadUnit} {job : RequestKind} {sent : Bool} (hq : u.request = some ⟨job, sent⟩)
    (next : HeadState) : u.abandon next = u.afterAbandon sent next := by
  unfold HeadUnit.abandon HeadUnit.afterAbandon
  rw [hq]
  cases sent <;> cases u.responseTimer <;> rfl

/-- The head has given up its request and left the busy set; a head that has left service has made the check-done
test (R58, R59). -/
def State.vacated (s : State) (h : Head) (next : HeadState) : State :=
  if next.inService then (s.onHead h fun u => u.abandon next).leaveBusy (.head h)
  else ((s.onHead h fun u => u.abandon next).leaveBusy (.head h)).headLeft

section
variable (s : State) (h : Head) (next : HeadState)

theorem State.vacated_eq :
    s.vacated h next =
      { (s.onHead h fun u => u.abandon next).leaveBusy (.head h) with pockets := (s.vacated h next).pockets } := by
  unfold State.vacated
  split
  · rfl
  · rfl

theorem State.vacated_lot : (s.vacated h next).lot = s.lot := (congrArg State.lot (s.vacated_eq h next)).trans rfl

theorem State.vacated_head (k : Head) :
    (s.vacated h next).head k = if k = h then (s.head h).abandon next else s.head k := by
  rw [State.vacated_eq]
  exact s.head_onHead h k fun u => u.abandon next

end

/-- A MEASURING record is no concern of the check-done test. -/
theorem State.checkDoneTest_measuring (s : State) {r : LiveRecord} {h : Head} {openPair : Bool} {mark : Option PurgeMark}
    (hp : r.phase = .measuring h openPair mark) : s.checkDoneTest r = r := by
  refine if_neg fun hdone => ?_
  obtain ⟨-, ⟨k, o, hpend⟩, -, -⟩ := (s.checkIsDone_iff r).mp hdone
  rw [hp] at hpend
  cases hpend

theorem State.vacated_pocket_measuring {s : State} {h : Head} (next : HeadState) {p : Fin 24} {r : LiveRecord} {k : Head}
    {openPair : Bool} {mark : Option PurgeMark} (hr : s.pocket p = .live r) (hp : r.phase = .measuring k openPair mark) :
    (s.vacated h next).pocket p = .live r := by
  unfold State.vacated
  split
  · exact hr
  · rw [State.headLeft_pocket_live (s := (s.onHead h _).leaveBusy _) hr, State.checkDoneTest_measuring _ hp]

/-- A measurement that is abandoned: its head and its station are free, its record is as R25 says. -/
theorem State.abandonMeasurement_outcome {s : State} {h : Head} {p : Fin 24} {r : LiveRecord} {openPair : Bool}
    {mark : Option PurgeMark} (hm : (s.head h).measuredPocket = some p) (hr : s.pocket p = .live r)
    (hp : r.phase = .measuring h openPair mark) (next : HeadState) (disabled : Bool) :
    ∃ r',
      r.AbandonedTo h mark (s.vacated h next).inService
        (if disabled && (s.vacated h next).inService h.other then h.other else h)
        (openPair && !(disabled && (s.vacated h next).inService h.other)) r' ∧
      s.abandonMeasurement h next disabled =
        { s.vacated h next with
          pockets := (s.vacated h next).pockets.set p.val (.live r')
          lot := s.lotRecalled mark r } := by
  obtain ⟨r', hto, heq⟩ := State.abandonRecord_outcome (State.vacated_pocket_measuring (h := h) next hr hp) hp disabled
  have hlot : (s.vacated h next).lotRecalled mark r = s.lotRecalled mark r := by
    unfold State.lotRecalled State.isCurrentLot
    rw [State.vacated_lot]
  refine ⟨r', hto, ?_⟩
  rw [← hlot, ← heq]
  simp only [State.abandonMeasurement, hm]
  rfl

/-- What an abandoned measurement leaves, block by block. -/
structure State.Abandoned (s : State) (h : Head) (next : HeadState) (p : Fin 24) (mark : Option PurgeMark)
    (r r' : LiveRecord) (t : State) : Prop where
  head : t.head h = (s.head h).abandon next
  other : ∀ k, k ≠ h → t.head k = s.head k
  record : t.pocket p = .live r'
  records : ∀ q, q ≠ p → t.pocket q = (s.vacated h next).pocket q
  lot : t.lot = s.lotRecalled mark r
  around : t.surroundings = (s.leaveBusy (.head h)).surroundings
  forceClass : t.forceClass = s.forceClass
  check : t.check = s.check
  faults : t.faults = s.faults

theorem State.abandonMeasurement_abandoned {s : State} {h : Head} {p : Fin 24} {r : LiveRecord} {openPair : Bool}
    {mark : Option PurgeMark} (hm : (s.head h).measuredPocket = some p) (hr : s.pocket p = .live r)
    (hp : r.phase = .measuring h openPair mark) (next : HeadState) (disabled : Bool) :
    ∃ r',
      r.AbandonedTo h mark (s.vacated h next).inService
        (if disabled && (s.vacated h next).inService h.other then h.other else h)
        (openPair && !(disabled && (s.vacated h next).inService h.other)) r' ∧
      s.Abandoned h next p mark r r' (s.abandonMeasurement h next disabled) := by
  obtain ⟨r', hto, heq⟩ := State.abandonMeasurement_outcome hm hr hp next disabled
  have hv := s.vacated_eq h next
  refine ⟨r', hto, ?_, fun k hk => ?_, ?_, fun q hq => ?_, ?_, s.surroundings_abandonMeasurement h next disabled, ?_, ?_,
    s.abandonMeasurement_faults h next disabled⟩
  · rw [heq]
    exact (s.vacated_head h next h).trans (if_pos rfl)
  · rw [heq]
    exact (s.vacated_head h next k).trans (if_neg hk)
  · rw [heq]
    exact Vector.getElem_set_self _
  · rw [heq]
    exact Vector.getElem_set_ne p.isLt q.isLt fun e => hq (Fin.ext e.symm)
  · rw [heq]
  · rw [heq]
    exact (congrArg State.forceClass hv).trans rfl
  · rw [heq]
    exact (congrArg State.check hv).trans rfl

theorem State.isBusy_of_surroundings {s t : State} (h : t.surroundings = s.surroundings) (st : Station) :
    t.isBusy st = s.isBusy st := by
  unfold State.isBusy
  rw [State.dial_of_surroundings h]

end Sys2Proof.Machine
end

section
/-! SUPPORT. HEAD_DISABLE (R59). -/

namespace Sys2Proof.Machine

/-- The check-done test of a head that leaves service rests on the records and on the heads in service alone. -/
theorem State.headLeft_pocket_congr {s t : State} {q : Fin 24} (hq : s.pocket q = t.pocket q)
    (hin : ∀ k, s.inService k = t.inService k) : s.headLeft.pocket q = t.headLeft.pocket q := by
  have htest (r : LiveRecord) : s.checkDoneTest r = t.checkDoneTest r := by
    unfold State.checkDoneTest State.checkIsDone
    rw [hin .a, hin .b]
  by_cases hlive : ∃ r, t.pocket q = .live r
  · obtain ⟨r, hr⟩ := hlive
    rw [State.headLeft_pocket_live (hq.trans hr), State.headLeft_pocket_live hr, htest]
  · have hnone (r : LiveRecord) : t.pocket q ≠ .live r := fun hr => hlive ⟨r, hr⟩
    rw [State.headLeft_pocket_other hnone, State.headLeft_pocket_other fun r => hq ▸ hnone r, hq]

/-- A head that is disabled leaves its station and the others as they are, and takes itself out of service. -/
theorem State.vacated_out (s : State) (h : Head) (why : OutReason) :
    s.vacated h (.out why) = ((s.onHead h fun u => u.abandon (.out why)).leaveBusy (.head h)).headLeft := rfl

theorem State.vacated_out_inService (s : State) (h : Head) (why : OutReason) :
    (s.vacated h (.out why)).inService = fun k => decide (k ≠ h) && s.inService k := by
  funext k
  unfold State.inService
  rw [State.vacated_head]
  by_cases hk : k = h
  · simp [hk, HeadUnit.abandon, HeadState.inService]
  · simp [hk]

theorem State.vacated_out_pocket (s : State) (h : Head) (why : OutReason) (q : Fin 24) :
    (s.vacated h (.out why)).pocket q = (s.departed h why).pocket q := by
  rw [State.vacated_out]
  refine State.headLeft_pocket_congr rfl fun k => ?_
  simp only [State.inService, State.leaveBusy_head, State.head_onHead]
  simp only [State.head, PerHead.get_set]
  split <;> rfl

/-- Whether the end of the measurement at the head counts a recall. -/
theorem State.lotRecalled_iff {s : State} {h : Head} {p : Fin 24} {r : LiveRecord} {openPair : Bool}
    {mark : Option PurgeMark} (hstate : (s.head h).state = .measuring) (hm : (s.head h).measuredPocket = some p)
    (hr : s.pocket p = .live r) (hp : r.phase = .measuring h openPair mark) :
    (s.recallEnds h → s.lotRecalled mark r = s.lot.recalledOne) ∧ (¬s.recallEnds h → s.lotRecalled mark r = s.lot) := by
  have hiff : s.recallEnds h ↔
      mark = none ∧ r.flags.recallPending = true ∧ r.kind = .part ∧ s.isCurrentLot r.lot = true := by
    constructor
    · rintro ⟨-, p', r', o', hm', hr', hp', hq, hkind, hcur⟩
      obtain rfl : p = p' := Option.some.inj (hm.symm.trans hm')
      obtain rfl : r = r' := PocketRecord.live.inj (hr.symm.trans hr')
      have hmark : mark = none := by
        rw [hp] at hp'
        cases hp'
        rfl
      exact ⟨hmark, hq, hkind, hcur⟩
    · rintro ⟨rfl, hq, hkind, hcur⟩
      exact ⟨hstate, p, r, openPair, hm, hr, hp, hq, hkind, hcur⟩
  exact ⟨fun hc => if_pos (hiff.mp hc), fun hc => if_neg (mt hiff.mpr hc)⟩

/-- Settles O27, by the head state; from MEASURING the end of the measurement says what the record becomes. -/
theorem headDisable : Obligations.HeadDisable := by
  intro s u i hc
  refine ⟨fun hi => hc.exec_withHead_badIndex hi rfl, fun h hi => ?_⟩
  have hexec : exec (.headDisable i) s = .next ((u.disableHead h).answer .ok []) := hc.exec_withHead (act := fun h => (u.disableHead h).done) hi rfl
  rw [hexec]
  refine ⟨fun ⟨why, hout⟩ => ?_, fun hprobing sent hq => ?_, fun hready => ?_,
    fun hmeasuring p range aperture sent r openPair mark hq hr hp => ?_⟩
  · simp only [State.disableHead, hout]
  · simp only [State.disableHead, hprobing]
    rw [State.onHead, show u.heads.get h = u.head h from rfl, HeadUnit.abandon_eq hq]
  · simp only [State.disableHead, hready]
    rfl
  · have hm := State.abandonMeasurement_of_request hq
    obtain ⟨r', hto, ht⟩ := State.abandonMeasurement_abandoned hm hr hp (.out .host) true
    obtain ⟨hends, hkept⟩ := State.lotRecalled_iff hmeasuring hm hr hp
    have haside := u.abandonMeasurement_aside h (.out .host) true
    have hdis : u.disableHead h = (u.abandonMeasurement h (.out .host) true).endDwellTest := by
      simp only [State.disableHead, hmeasuring]
    rw [u.vacated_out_inService h .host] at hto
    have hother : decide (h.other ≠ h) = true := decide_eq_true (Head.other_ne h)
    simp only [hother, Bool.true_and] at hto
    have hbusy (st : Station) := State.isBusy_of_surroundings ht.around st
    refine ⟨_, by rw [hdis], ?_, ?_, ?_, fun st hst => ?_, ⟨r', ?_, hto⟩, fun q hq => ?_, fun hends' => ?_,
      fun hkept' => ?_, ?_, ?_, ?_, ?_, ?_, ?_, ?_, ?_, ?_⟩
    · rw [State.answer_head, State.endDwellTest_head, ht.head, HeadUnit.abandon_eq hq]
    · rw [State.answer_head, State.endDwellTest_head, ht.other _ (Head.other_ne h)]
    · rw [State.answer_isBusy, State.endDwellTest_isBusy, hbusy, State.isBusy_leaveBusy, if_pos rfl]
    · rw [State.answer_isBusy, State.endDwellTest_isBusy, hbusy, State.isBusy_leaveBusy, if_neg hst]
    · rw [State.answer_pocket, State.endDwellTest_pocket, ht.record]
    · rw [State.answer_pocket, State.endDwellTest_pocket, ht.records q hq, State.vacated_out_pocket]
    · rw [State.answer_lot, State.endDwellTest_lot, ht.lot, hends hends']
    · rw [State.answer_lot, State.endDwellTest_lot, ht.lot, hkept hkept']
    · rw [State.answer_feed, State.endDwellTest_feed]
      exact congrArg Surroundings.feed ht.around
    · rw [State.answer_gates, State.endDwellTest_gates]
      exact congrArg Surroundings.gates ht.around
    · rw [State.answer_banks, State.endDwellTest_banks]
      exact congrArg Surroundings.banks ht.around
    · rw [State.answer_forceClass, State.endDwellTest_forceClass, ht.forceClass]
    · rw [State.answer_check, State.endDwellTest_check, ht.check]
    · rw [State.answer_faults, State.endDwellTest_faults, ht.faults]
    · rw [State.answer_lines, State.endDwellTest_lines]
      exact congrArg Surroundings.lines ht.around
    · rw [State.answer_dial, State.answer_anySevere]
      exact State.endDwellTest_dial_of_aside haside
    · have hlink : (u.abandonMeasurement h (.out .host) true).link = u.link := congrArg Surroundings.link ht.around
      rw [State.answer_link, State.endDwellTest_link, hlink]

end Sys2Proof.Machine
end

section
/-! SUPPORT. An emergency stop and a spurious index abandon the measurements in flight (R9, R11, R58). -/

namespace Sys2Proof.Machine

/-- The head that is MEASURING, if it is, holds the request for a record that is MEASURING at it (R44, R53). -/
def State.Waits (s : State) (h : Head) : Prop :=
  (s.head h).state = .measuring → ∃ p, (s.head h).measuredPocket = some p ∧ s.measuringAt p h

/-- What the abandonment of a measurement does for its head, its station and its record (R25, R58). -/
def State.FreedAt (s t : State) (h : Head) : Prop :=
  ∀ p range aperture sent r openPair mark, (s.head h).state = .measuring →
    (s.head h).request = some ⟨.measure p range aperture, sent⟩ → s.pocket p = .live r →
    r.phase = .measuring h openPair mark →
    t.head h = (s.head h).afterAbandon sent .ready ∧ t.isBusy (.head h) = false ∧
      ∃ r', t.pocket p = .live r' ∧ r.AbandonedTo h mark s.inService h openPair r'

/-- The head holds the request for this pocket in MEASURING. -/
def State.Holds (s : State) (h : Head) (q : Fin 24) : Prop :=
  (s.head h).state = .measuring ∧ (s.head h).measuredPocket = some q

/-- What no abandonment at `h` touches. -/
structure State.UntouchedBut (s : State) (h : Head) (t : State) : Prop where
  head : ∀ k, k ≠ h → t.head k = s.head k
  rests : (s.head h).state ≠ .measuring → t.head h = s.head h ∧ t.isBusy (.head h) = s.isBusy (.head h)
  inService : ∀ k, t.inService k = s.inService k
  pocket : ∀ q, ¬s.Holds h q → t.pocket q = s.pocket q
  isBusy : ∀ st, st ≠ .head h → t.isBusy st = s.isBusy st
  current : ∀ n, t.isCurrentLot n = s.isCurrentLot n

/-- The blocks that no abandonment touches. -/
structure State.SameBlocks (s t : State) : Prop where
  feed : t.feed = s.feed
  gates : t.gates = s.gates
  banks : t.banks = s.banks
  link : t.link = s.link
  lines : t.lines = s.lines
  pending : t.pending = s.pending
  check : t.check = s.check
  faults : t.faults = s.faults
  forceClass : t.forceClass = s.forceClass
  aside : t.dial.aside = s.dial.aside

theorem State.SameBlocks.trans {s u t : State} (h : s.SameBlocks u) (h' : u.SameBlocks t) : s.SameBlocks t where
  feed := h'.feed.trans h.feed
  gates := h'.gates.trans h.gates
  banks := h'.banks.trans h.banks
  link := h'.link.trans h.link
  lines := h'.lines.trans h.lines
  pending := h'.pending.trans h.pending
  check := h'.check.trans h.check
  faults := h'.faults.trans h.faults
  forceClass := h'.forceClass.trans h.forceClass
  aside := h'.aside.trans h.aside

/-! ### One head -/

section
variable {s : State} {h : Head}

theorem State.abandonAt_of_measuring (hm : (s.head h).state = .measuring) :
    s.abandonAt h = s.abandonMeasurement h .ready false := if_pos hm

/-- An abandonment at a MEASURING head, record and all. -/
theorem State.Waits.abandoned (hw : s.Waits h) (hm : (s.head h).state = .measuring) :
    ∃ p r openPair mark r', (s.head h).measuredPocket = some p ∧ s.pocket p = .live r ∧
      r.phase = .measuring h openPair mark ∧ r.AbandonedTo h mark (s.vacated h .ready).inService h openPair r' ∧
      s.Abandoned h .ready p mark r r' (s.abandonAt h) := by
  obtain ⟨p, hp, r, hr, hhead⟩ := hw hm
  obtain ⟨openPair, mark, hphase⟩ : ∃ openPair mark, r.phase = .measuring h openPair mark := by
    cases hphase : r.phase <;> rw [hphase] at hhead <;> cases hhead
    exact ⟨_, _, rfl⟩
  obtain ⟨r', hto, ht⟩ := State.abandonMeasurement_abandoned hp hr hphase .ready false
  rw [← State.abandonAt_of_measuring hm] at ht
  simp only [Bool.false_and, Bool.false_eq_true, if_false, Bool.not_false, Bool.and_true] at hto
  exact ⟨p, r, openPair, mark, r', hp, hr, hphase, hto, ht⟩

/-- A MEASURING head stays in service, and so does the other. -/
theorem State.vacated_ready_inService (hm : (s.head h).state = .measuring) : (s.vacated h .ready).inService = s.inService := by
  funext k
  unfold State.inService
  rw [State.vacated_head]
  by_cases hk : k = h
  · subst hk
    rw [if_pos rfl, hm]
    rfl
  · rw [if_neg hk]

theorem State.Waits.freedAt (hw : s.Waits h) : s.FreedAt (s.abandonAt h) h := by
  intro p range aperture sent r openPair mark hm hq hr hp
  obtain ⟨p', r0, o', m', r', hp', hr', hphase', hto, ht⟩ := hw.abandoned hm
  obtain rfl : p = p' := Option.some.inj ((State.abandonMeasurement_of_request hq).symm.trans hp')
  obtain rfl : r = r0 := PocketRecord.live.inj (hr.symm.trans hr')
  obtain ⟨rfl, rfl⟩ : openPair = o' ∧ mark = m' := by
    rw [hp] at hphase'
    cases hphase'
    exact ⟨rfl, rfl⟩
  rw [State.vacated_ready_inService hm] at hto
  refine ⟨by rw [ht.head, HeadUnit.abandon_eq hq], ?_, r', ht.record, hto⟩
  rw [State.isBusy_of_surroundings ht.around, State.isBusy_leaveBusy, if_pos rfl]

theorem State.Waits.untouched (hw : s.Waits h) : s.UntouchedBut h (s.abandonAt h) := by
  by_cases hm : (s.head h).state = .measuring
  · obtain ⟨p, r, openPair, mark, r', hp, -, -, -, ht⟩ := hw.abandoned hm
    refine ⟨ht.other, fun hn => absurd hm hn, fun k => ?_, fun q hq => ?_, fun st hst => ?_, fun n => ?_⟩
    · unfold State.inService
      by_cases hk : k = h
      · subst hk
        rw [ht.head, hm]
        rfl
      · rw [ht.other k hk]
    · exact ht.records q fun e => hq ⟨hm, e ▸ hp⟩
    · rw [State.isBusy_of_surroundings ht.around, State.isBusy_leaveBusy, if_neg hst]
    · have hstate : (s.abandonAt h).lot.state = s.lot.state := congrArg Surroundings.lotState ht.around
      have hnumber : (s.abandonAt h).lot.number = s.lot.number := congrArg Surroundings.lotNumber ht.around
      unfold State.isCurrentLot
      rw [hstate, hnumber]
  · rw [State.abandonAt_of_ne hm]
    exact ⟨fun _ _ => rfl, fun _ => ⟨rfl, rfl⟩, fun _ => rfl, fun _ _ => rfl, fun _ _ => rfl, fun _ => rfl⟩

theorem State.Waits.sameBlocks (hw : s.Waits h) : s.SameBlocks (s.abandonAt h) := by
  by_cases hm : (s.head h).state = .measuring
  · obtain ⟨p, r, openPair, mark, r', -, -, -, -, ht⟩ := hw.abandoned hm
    have haround := ht.around
    simp only [State.surroundings, Surroundings.mk.injEq] at haround
    obtain ⟨hdial, hfeed, hgates, hbanks, -, -, hlink, hlines, hpending⟩ := haround
    exact ⟨hfeed, hgates, hbanks, hlink, hlines, hpending, ht.check, ht.faults, ht.forceClass,
      (congrArg Dial.aside hdial).trans rfl⟩
  · rw [State.abandonAt_of_ne hm]
    exact ⟨rfl, rfl, rfl, rfl, rfl, rfl, rfl, rfl, rfl, rfl⟩

theorem State.Waits.lot (hw : s.Waits h) :
    (s.recallEnds h → (s.abandonAt h).lot = s.lot.recalledOne) ∧ (¬s.recallEnds h → (s.abandonAt h).lot = s.lot) := by
  by_cases hm : (s.head h).state = .measuring
  · obtain ⟨p, r, openPair, mark, r', hp, hr, hphase, -, ht⟩ := hw.abandoned hm
    rw [ht.lot]
    exact State.lotRecalled_iff hm hp hr hphase
  · rw [State.abandonAt_of_ne hm]
    exact ⟨fun hc => absurd hc.1 hm, fun _ => rfl⟩

end

end Sys2Proof.Machine
end

section
/-! SUPPORT. The measurements in flight at both heads (R9, R11, R58). -/

namespace Sys2Proof.Machine

section
variable {s t : State} {h k : Head}

theorem State.Waits.measuringAt (hw : s.Waits h) {q : Fin 24} (hq : s.Holds h q) : s.measuringAt q h := by
  obtain ⟨p, hp, hat⟩ := hw hq.1
  obtain rfl : q = p := Option.some.inj (hq.2.symm.trans hp)
  exact hat

/-- The two heads measure two pockets. -/
theorem State.Waits.not_holds (hw : s.Waits h) (hw' : s.Waits k) (hne : k ≠ h) {q : Fin 24} (hk : s.Holds k q) :
    ¬s.Holds h q := by
  intro hh
  obtain ⟨r, hr, hhead⟩ := hw.measuringAt hh
  obtain ⟨r', hr', hhead'⟩ := hw'.measuringAt hk
  obtain rfl : r = r' := PocketRecord.live.inj (hr.symm.trans hr')
  exact hne (Option.some.inj (hhead'.symm.trans hhead))

/-- What is untouched at the other head: its request, its record and its count. -/
theorem State.UntouchedBut.holds (ht : s.UntouchedBut h t) (hne : k ≠ h) {q : Fin 24} : t.Holds k q ↔ s.Holds k q := by
  unfold State.Holds
  rw [ht.head k hne]

theorem State.UntouchedBut.waits (ht : s.UntouchedBut h t) (hw : s.Waits h) (hw' : s.Waits k) (hne : k ≠ h) : t.Waits k := by
  intro hm
  rw [ht.head k hne] at hm ⊢
  obtain ⟨p, hp, hat⟩ := hw' hm
  refine ⟨p, hp, ?_⟩
  unfold State.measuringAt
  rw [ht.pocket p (hw.not_holds hw' hne ⟨hm, hp⟩)]
  exact hat

theorem State.UntouchedBut.recallEnds (ht : s.UntouchedBut h t) (hw : s.Waits h) (hw' : s.Waits k) (hne : k ≠ h) :
    t.recallEnds k ↔ s.recallEnds k := by
  have hpocket {p : Fin 24} (hm : (s.head k).state = .measuring) (hp : (s.head k).measuredPocket = some p) :
      t.pocket p = s.pocket p := ht.pocket p (hw.not_holds hw' hne ⟨hm, hp⟩)
  constructor
  · rintro ⟨hm, p, r, o, hp, hr, hphase, hq, hkind, hcur⟩
    rw [ht.head k hne] at hm hp
    exact ⟨hm, p, r, o, hp, (hpocket hm hp).symm.trans hr, hphase, hq, hkind, (ht.current _).symm.trans hcur⟩
  · rintro ⟨hm, p, r, o, hp, hr, hphase, hq, hkind, hcur⟩
    refine ⟨?_, p, r, o, ?_, (hpocket hm hp).trans hr, hphase, hq, hkind, (ht.current _).trans hcur⟩
    · rw [ht.head k hne]
      exact hm
    · rw [ht.head k hne]
      exact hp

/-- What one head's measurement was freed of, the abandonment at the other leaves. -/
theorem State.FreedAt.then (hfreed : s.FreedAt t h) {v : State} (ht : t.UntouchedBut k v) (hne : h ≠ k)
    (hheld : ∀ q, s.Holds h q → ¬t.Holds k q) : s.FreedAt v h := by
  intro p range aperture sent r openPair mark hm hq hr hp
  obtain ⟨hhead, hbusy, r', hr', hto⟩ := hfreed p range aperture sent r openPair mark hm hq hr hp
  refine ⟨(ht.head h hne).trans hhead, (ht.isBusy _ fun e => hne (Station.head.inj e)).trans hbusy, r', ?_, hto⟩
  exact (ht.pocket p (hheld p ⟨hm, State.abandonMeasurement_of_request hq⟩)).trans hr'

theorem State.FreedAt.of_untouched (ht : s.UntouchedBut k t) (hw : s.Waits h) (hw' : s.Waits k) (hne : h ≠ k) {v : State}
    (hfreed : t.FreedAt v h) : s.FreedAt v h := by
  intro p range aperture sent r openPair mark hm hq hr hp
  have hpocket := ht.pocket p (hw'.not_holds hw hne ⟨hm, State.abandonMeasurement_of_request hq⟩)
  have hin : t.inService = s.inService := funext ht.inService
  rw [← ht.head h hne] at hm hq ⊢
  rw [← hin]
  exact hfreed p range aperture sent r openPair mark hm hq (hpocket.trans hr) hp

end

/-- What is left when the measurements in flight are abandoned. -/
structure State.AllFreed (s t : State) : Prop where
  freed : ∀ h, s.FreedAt t h
  rests : ∀ h, (s.head h).state ≠ .measuring → t.head h = s.head h ∧ t.isBusy (.head h) = s.isBusy (.head h)
  pocket : ∀ q, (∀ h, ¬s.Holds h q) → t.pocket q = s.pocket q
  isBusy : ∀ st, (∀ h, st ≠ .head h) → t.isBusy st = s.isBusy st
  none : (∀ h, ¬s.recallEnds h) → t.lot = s.lot
  one : ∀ h, s.recallEnds h → ¬s.recallEnds h.other → t.lot = s.lot.recalledOne
  both : (∀ h, s.recallEnds h) → t.lot = s.lot.recalledOne.recalledOne
  blocks : s.SameBlocks t

theorem State.abandonAll_freed {s : State} (hw : ∀ h, s.Waits h) : s.AllFreed s.abandonAll := by
  have hba : Head.b ≠ Head.a := by decide
  have hab : Head.a ≠ Head.b := by decide
  have hua := (hw .a).untouched
  have hwb : (s.abandonAt .a).Waits .b := hua.waits (hw .a) (hw .b) hba
  have hub : (s.abandonAt .a).UntouchedBut .b s.abandonAll := hwb.untouched
  have hrecall := hua.recallEnds (hw .a) (hw .b) hba
  obtain ⟨hlotA, hlotA'⟩ := (hw .a).lot
  obtain ⟨hlotB, hlotB'⟩ : ((s.abandonAt .a).recallEnds .b → s.abandonAll.lot = (s.abandonAt .a).lot.recalledOne) ∧
      (¬(s.abandonAt .a).recallEnds .b → s.abandonAll.lot = (s.abandonAt .a).lot) := hwb.lot
  rw [hrecall] at hlotB hlotB'
  refine ⟨fun h => ?_, fun h hm => ?_, fun q hq => ?_, fun st hst => ?_, fun hn => ?_, fun h hh hother => ?_,
    fun hall => ?_, (hw .a).sameBlocks.trans hwb.sameBlocks⟩
  · cases h
    · refine (hw .a).freedAt.then hub hab fun q hq hq' => ?_
      rw [hua.holds hba] at hq'
      exact (hw .a).not_holds (hw .b) hba hq' hq
    · exact State.FreedAt.of_untouched hua (hw .b) (hw .a) hba hwb.freedAt
  · cases h
    · obtain ⟨hhead, hbusy⟩ := hua.rests hm
      exact ⟨(hub.head _ hab).trans hhead, (hub.isBusy _ (by decide)).trans hbusy⟩
    · have hm' : ((s.abandonAt .a).head .b).state ≠ .measuring := by
        rw [hua.head _ hba]
        exact hm
      obtain ⟨hhead, hbusy⟩ := hub.rests hm'
      exact ⟨hhead.trans (hua.head _ hba), hbusy.trans (hua.isBusy _ (by decide))⟩
  · have hq' : ¬(s.abandonAt .a).Holds .b q := fun e => hq .b ((hua.holds hba).mp e)
    exact (hub.pocket q hq').trans (hua.pocket q (hq .a))
  · exact (hub.isBusy st (hst .b)).trans (hua.isBusy st (hst .a))
  · rw [hlotB' (hn .b), hlotA' (hn .a)]
  · cases h
    · rw [hlotB' hother, hlotA hh]
    · rw [hlotB hh, hlotA' hother]
  · rw [hlotB (hall .b), hlotA (hall .a)]

theorem State.busyEmpty_iff_busy (s : State) : s.busyEmpty = true ↔ s.dial.busy = Vector.replicate 17 false := by
  simp [State.busyEmpty]

/-- With a severe flag set, a dwell that is over ends IDLE or HELD (R4). -/
theorem Dial.afterWork_severe {d : Dial} {busy : Vector Bool 17} {empty : Bool}
    (hempty : empty = true ↔ busy = Vector.replicate 17 false) (hd : d.state = .dwell) :
    d.afterWork busy true =
      if d.dwellTimer = .elapsed ∧ empty = true then
        if d.stopPending then { d with state := .idle, busy := busy, dwellTimer := .stopped, stopPending := false }
        else { d with state := .held, busy := busy }
      else { d with busy := busy } := by
  unfold Dial.afterWork
  by_cases h : d.dwellTimer = .elapsed ∧ empty = true
  · rw [if_pos ⟨hd, h.1, hempty.mp h.2⟩, if_pos h, if_pos (Or.inr rfl)]
  · rw [if_neg fun hc => h ⟨hc.2.1, hempty.mpr hc.2.2⟩, if_neg h]

/-- The state that an emergency stop abandons its measurements from (R9 items 1 to 4). -/
def State.braked (s : State) : State :=
  ({ s with lines := { s.lines with estop := true } }.onDial fun d =>
    { d with dwellTimer := .stopped, moveTimer := .stopped, stopPending := false }).releaseOutputs

theorem exec_estopAsserted_dwell {s : State} (hreset : s.lines.inReset = false) (hs : s.dial.state = .dwell) :
    exec .estopAsserted s = .next (s.braked.abandonAll.onDial fun d => { d with state := .estopped }) := by
  rw [exec_estopAsserted hreset (by rw [hs]; decide)]
  simp only [State.emergencyStop, hs, DialState.betweenPositions, Bool.false_eq_true, if_false]
  rfl

/-- Settles O11: the two measurements are abandoned one after the other, and what is shown of one is untouched by
the other. -/
theorem stopAbandonsTheMeasurement : Obligations.StopAbandonsTheMeasurement := by
  intro s i hreset hdwell hw hi
  rcases hi with rfl | ⟨sensed, rfl⟩
  · have hall : s.braked.AllFreed s.braked.abandonAll := State.abandonAll_freed hw
    have hblocks := hall.blocks
    refine ⟨_, exec_estopAsserted_dwell hreset hdwell, hall.freed, hall.rests, fun q hq => ?_, hall.isBusy, hall.none,
      hall.one, hall.both, hblocks.banks, hblocks.check, hblocks.link, hblocks.forceClass, hblocks.pending,
      fun _ => ⟨hblocks.faults, hblocks.lines, hblocks.feed, hblocks.gates, ?_⟩, fun hne => absurd rfl hne⟩
    · exact hall.pocket q fun h hh => hq h hh.1 hh.2
    · show ({ s.braked.abandonAll.dial with state := .estopped } : Dial) = _
      rw [Dial.aside_eq_iff.mp hblocks.aside]
      rfl
  · have hall : (s.advance.raise .spuriousIndex).AllFreed (s.advance.raise .spuriousIndex).abandonAll :=
      State.abandonAll_freed hw
    have hblocks := hall.blocks
    have hexec := exec_indexDone_spurious hreset (by rw [hdwell]; decide) (by rw [hdwell]; decide) sensed
    rw [hexec, State.spuriousIndex]
    refine ⟨_, rfl, fun h p range aperture sent r openPair mark hm hq hr hp => ?_, fun h hm => ?_, fun q hq => ?_,
      fun st hst => ?_, fun hn => ?_, fun h hh hother => ?_, fun hboth => ?_, ?_, ?_, ?_, ?_, ?_, fun he => Instr.noConfusion he,
      fun _ => ⟨?_, ?_, ?_, ?_, ?_⟩⟩
    · rw [State.endDwellTest_head, State.endDwellTest_isBusy, State.endDwellTest_pocket]
      exact hall.freed h p range aperture sent r openPair mark hm hq hr hp
    · rw [State.endDwellTest_head, State.endDwellTest_isBusy]
      exact hall.rests h hm
    · rw [State.endDwellTest_pocket]
      exact hall.pocket q fun h hh => hq h hh.1 hh.2
    · rw [State.endDwellTest_isBusy]
      exact hall.isBusy st hst
    · rw [State.endDwellTest_lot]
      exact hall.none hn
    · rw [State.endDwellTest_lot]
      exact hall.one h hh hother
    · rw [State.endDwellTest_lot]
      exact hall.both hboth
    · rw [State.endDwellTest_banks]
      exact hblocks.banks
    · rw [State.endDwellTest_check]
      exact hblocks.check
    · rw [State.endDwellTest_link]
      exact hblocks.link
    · rw [State.endDwellTest_forceClass]
      exact hblocks.forceClass
    · rw [State.endDwellTest_pending]
      exact hblocks.pending
    · rw [State.endDwellTest_faults]
      exact hblocks.faults
    · rw [State.endDwellTest_lines]
      exact hblocks.lines
    · rw [State.endDwellTest_feed]
      exact hblocks.feed
    · rw [State.endDwellTest_gates]
      exact hblocks.gates
    · have hsevere : ((s.advance.raise .spuriousIndex).abandonAll.endDwellTest).anySevere = true := by
        rw [State.endDwellTest_anySevere]
        apply State.anySevere_of_spuriousIndex
        rw [hblocks.faults]
        simp [State.raise, State.onFaults, Flag.bit, Flag.number]
      have hdial := State.endDwellTest_dial_of_aside hblocks.aside
      rw [hsevere] at hdial
      exact hdial.trans (Dial.afterWork_severe (State.busyEmpty_iff_busy _) hdwell)

end Sys2Proof.Machine
end

section
/-! SUPPORT. CONFIRM pairs (R77, R78, R84 to R87). -/

namespace Sys2Proof.Machine

theorem LiveRecord.degrade_none (r : LiveRecord) : r.degrade none = r := by
  simp [LiveRecord.degrade]

section
variable {s : State} {r : LiveRecord} {x first : Reading}

/-- A pair that agrees is graded, and the force-class one-shot is spent (R86, R103). -/
theorem State.completePair_graded (p : Fin 24) (g : Grading) :
    s.completeAttempt p r x (.pair first) (some g) =
      { s with
        pockets := s.pockets.set p.val
          (.live
            { r.append x with
              attempts := r.attempts + 1
              flags := { (r.append x).flags with forced := r.flags.forced || (s.gradeClass g.deviation).2 }
              phase := if (s.gradeClass g.deviation).1 = none then .purgePending .noClass else .classified
              grading := some g
              cls := (s.gradeClass g.deviation).1 })
        forceClass := none } := by
  have hafter : s.afterAttempt (r.append x) x.head (some g) =
      (s.gradeRecord { r.append x with attempts := r.attempts + 1 } g, false) := rfl
  unfold State.completeAttempt
  simp only [Recipe.substitutedFor, hafter, State.gradeRecord_eq, LiveRecord.degrade_none]
  rfl

/-- A pair that is doubtful or does not agree, within the retest limit, waits at A for the next (R87, R89). -/
theorem State.completePair_retested (hmode : s.banks.active.mode = .confirm)
    (hk : r.attempts + 1 ≤ s.banks.active.retestLimit) (hp : r.kind = .part) (p : Fin 24) :
    s.completeAttempt p r x (.pair first) none =
      { s with
        pockets := s.pockets.set p.val
          (.live { r.append x with attempts := r.attempts + 1, phase := .pending .a false })
        lot := if s.isCurrentLot r.lot = true then s.lot.retestedOne else s.lot } := by
  have hhead : s.banks.active.retestHead (r.attempts + 1) x.head = .a := by
    simp only [Recipe.retestHead, hmode]
  have hafter : s.afterAttempt (r.append x) x.head none =
      ({ r.append x with attempts := r.attempts + 1, phase := .pending .a false }, true) := by
    rw [← hhead]
    exact if_pos hk
  unfold State.completeAttempt
  simp only [Recipe.substitutedFor, hafter, LiveRecord.degrade_none, State.reportPart_eq, hp, true_and, if_true,
    Option.isSome_none, Bool.false_eq_true, if_false]
  rfl

/-- A pair that is doubtful or does not agree, past the retest limit (R87). -/
theorem State.completePair_noResult (hk : ¬r.attempts + 1 ≤ s.banks.active.retestLimit) (p : Fin 24) :
    s.completeAttempt p r x (.pair first) none =
      { s with
        pockets := s.pockets.set p.val
          (.live { r.append x with attempts := r.attempts + 1, phase := .purgePending .noResult }) } := by
  have hafter : s.afterAttempt (r.append x) x.head none =
      ({ r.append x with attempts := r.attempts + 1, phase := .purgePending .noResult }, false) := if_neg hk
  unfold State.completeAttempt
  simp only [Recipe.substitutedFor, hafter, LiveRecord.degrade_none, Option.isSome_none, Bool.false_eq_true, if_false]
  rfl

/-- A reading at A with B in service opens a pair (R85). -/
theorem State.judgePart_opens (hmode : s.banks.active.mode = .confirm) (hb : s.inService .b = true) (hx : x.head = .a)
    (p : Fin 24) (openPair : Bool) :
    s.judgePart p r openPair x = s.setLive p { r.append x with phase := .pending .b true } := by
  simp only [State.judgePart, State.attemptOf, hmode, hx, hb, if_true]

/-- A reading at B of a record with an open pair completes it (R85, R86). -/
theorem State.judgePart_pair (hmode : s.banks.active.mode = .confirm) (hx : x.head = .b)
    (hfirst : r.readings.getLast? = some first) (p : Fin 24) :
    s.judgePart p r true x = s.completeAttempt p r x (.pair first) (pairVerdict s.banks.active.agreeLimit first x) := by
  simp only [State.judgePart, State.attemptOf, hmode, hx, hfirst]

end

/-! ### The verdict on a pair (R77, R78) -/

theorem pairVerdict_agrees {limit : Nat} {first x : Reading} {v w : Sample} (hd : first.doubtful = false)
    (hd' : x.doubtful = false) (hv : first.sample = some v) (hw : x.sample = some w) (hs : v.saturated = false)
    (hs' : w.saturated = false) (h : v.deviation - w.deviation ≤ limit) (h' : w.deviation - v.deviation ≤ limit) :
    pairVerdict limit first x = some ⟨(v.deviation + w.deviation) / 2, .both first.epoch x.epoch⟩ := by
  have hagrees : agrees limit v w = true := by
    simp only [agrees, hs, hs', Bool.not_false, Bool.true_and, decide_eq_true_eq]
    omega
  simp only [pairVerdict, hd, hd', hv, hw, hagrees, if_true, confirmMean]

theorem pairVerdict_fails {limit : Nat} {first x : Reading} {w : Sample} (hw : x.sample = some w)
    (h : first.doubtful = true ∨ x.doubtful = true ∨
      ∀ v, first.sample = some v → v.saturated = true ∨ w.saturated = true ∨
        (limit : Int) < v.deviation - w.deviation ∨ (limit : Int) < w.deviation - v.deviation) :
    pairVerdict limit first x = none := by
  unfold pairVerdict
  split
  next v w' hd hd' hv hw' =>
    obtain rfl : w = w' := Option.some.inj (hw.symm.trans hw')
    rw [if_neg]
    intro hagrees
    simp only [agrees, Bool.and_eq_true, Bool.not_eq_true', decide_eq_true_eq] at hagrees
    obtain ⟨⟨hs, hs'⟩, hdiff⟩ := hagrees
    rcases h with h | h | h
    · rw [hd] at h
      cases h
    · rw [hd'] at h
      cases h
    · rcases h v hv with h | h | h | h
      · rw [hs] at h
        cases h
      · rw [hs'] at h
        cases h
      · omega
      · omega
  next => rfl

end Sys2Proof.Machine
end

section
/-! SUPPORT. The two readings of a CONFIRM pair (R77, R78, R84 to R87). -/

namespace Sys2Proof.Machine

/-- What a completed pair makes of its record, of the lot and of the force-class one-shot, by the verdict (R86, R87,
R103). -/
structure State.PairDone (s : State) (p : Fin 24) (r : LiveRecord) (x : Reading) (verdict : Option Grading) (t : State)
    (r' : LiveRecord) : Prop where
  record : t.pocket p = .live r'
  attempts : r'.attempts = r.attempts + 1
  appended : { r' with
    attempts := r.attempts, phase := r.phase, grading := r.grading, cls := r.cls
    flags := { r'.flags with forced := r.flags.forced } } = r.append x
  graded : ∀ g, verdict = some g →
    r'.grading = some g ∧ r'.cls = (s.gradeClass g.deviation).1 ∧
      r'.flags.forced = (r.flags.forced || (s.gradeClass g.deviation).2) ∧ t.forceClass = none ∧ t.lot = s.lot ∧
      r'.phase = if r'.cls = none then .purgePending .noClass else .classified
  failed : verdict = none →
    t.forceClass = s.forceClass ∧ r'.flags.forced = r.flags.forced ∧ r'.grading = r.grading ∧ r'.cls = r.cls ∧
      t.lot =
        (if r.attempts + 1 ≤ s.banks.active.retestLimit ∧ s.isCurrentLot r.lot = true then s.lot.retestedOne
        else s.lot) ∧
      r'.phase = if r.attempts + 1 ≤ s.banks.active.retestLimit then .pending .a false else .purgePending .noResult

section
variable {s : State} {p : Fin 24} {r : LiveRecord} {x first : Reading}

theorem State.completePair_done (hmode : s.banks.active.mode = .confirm) (hpart : r.kind = .part)
    (verdict : Option Grading) :
    ∃ r', s.PairDone p r x verdict (s.completeAttempt p r x (.pair first) verdict) r' := by
  cases verdict with
  | some g =>
    rw [State.completePair_graded]
    exact ⟨_, Vector.getElem_set_self _, rfl, rfl, fun g' hg => by cases hg; exact ⟨rfl, rfl, rfl, rfl, rfl, rfl⟩,
      fun hn => nomatch hn⟩
  | none =>
    by_cases hlimit : r.attempts + 1 ≤ s.banks.active.retestLimit
    · rw [State.completePair_retested hmode hlimit hpart]
      refine ⟨_, Vector.getElem_set_self _, rfl, rfl, fun g' hg => (nomatch hg), fun _ => ⟨rfl, rfl, rfl, rfl, ?_, ?_⟩⟩
      · simp only [hlimit, true_and]
      · rw [if_pos hlimit]
    · rw [State.completePair_noResult hlimit]
      refine ⟨_, Vector.getElem_set_self _, rfl, rfl, fun g' hg => (nomatch hg), fun _ => ⟨rfl, rfl, rfl, rfl, ?_, ?_⟩⟩
      · rw [if_neg fun hc => hlimit hc.1]
      · rw [if_neg hlimit]

/-- Completing a pair leaves all but its record, the counts of the lot and the force-class one-shot. -/
theorem State.completePair_leaves (hmode : s.banks.active.mode = .confirm) (hpart : r.kind = .part)
    (verdict : Option Grading) {t : State} (ht : t = s.completeAttempt p r x (.pair first) verdict) :
    t.heads = s.heads ∧ t.faults = s.faults ∧ t.check = s.check ∧ ∀ q, q ≠ p → t.pocket q = s.pocket q := by
  subst ht
  have hset (q : Fin 24) (hq : q ≠ p) (y : PocketRecord) : (s.pockets.set p.val y)[q.val] = s.pocket q :=
    Vector.getElem_set_ne p.isLt q.isLt fun e => hq (Fin.ext e.symm)
  cases verdict with
  | some g =>
    rw [State.completePair_graded]
    exact ⟨rfl, rfl, rfl, fun q hq => hset q hq _⟩
  | none =>
    by_cases hlimit : r.attempts + 1 ≤ s.banks.active.retestLimit
    · rw [State.completePair_retested hmode hlimit hpart]
      exact ⟨rfl, rfl, rfl, fun q hq => hset q hq _⟩
    · rw [State.completePair_noResult hlimit]
      exact ⟨rfl, rfl, rfl, fun q hq => hset q hq _⟩

end

/-- The state after a reading of a head that was awaited, from which the record is judged. -/
theorem State.surroundings_judgedIn (s : State) (h : Head) (doubtful forced : Bool) :
    (s.judgedIn h doubtful forced).surroundings = (s.leaveBusy (.head h)).surroundings := rfl

/-- Settles O33: at A the pair is opened; at B its verdict is one of the three outcomes of a completed pair. -/
theorem confirmPairs : Obligations.ConfirmPairs := by
  refine ⟨fun s p range r openPair code status doubtful ha hk hpart hmode hb hd => ?_,
    fun s p range r code status first doubtful dev ha hk hpart hmode hfirst hd hdev => ?_⟩
  · have hb' : (s.judgedIn .a doubtful (s.head .a).forceDoubt).inService .b = true :=
      (s.inService_judgedIn_other (by decide) _ _).trans hb
    have hopens := State.judgePart_opens (s := s.judgedIn .a doubtful (s.head .a).forceDoubt) (r := r)
      (x := s.readingOf .a range code status doubtful (s.head .a).forceDoubt) hmode hb' rfl p openPair
    rw [ha.exec_result_kept hk hpart code status hd, hopens]
    rfl
  · subst hdev
    have hmode' : (s.judgedIn .b doubtful (s.head .b).forceDoubt).banks.active.mode = .confirm := hmode
    have hpair : (s.judgedIn .b doubtful (s.head .b).forceDoubt).judgePart p r true
          (s.readingOf .b range code status doubtful (s.head .b).forceDoubt) =
        (s.judgedIn .b doubtful (s.head .b).forceDoubt).completeAttempt p r
          (s.readingOf .b range code status doubtful (s.head .b).forceDoubt) (.pair first)
          (pairVerdict s.banks.active.agreeLimit first
            (s.readingOf .b range code status doubtful (s.head .b).forceDoubt)) :=
      State.judgePart_pair hmode' rfl hfirst p
    rw [ha.exec_result_kept hk hpart code status hd]
    have haround := ((s.judgedIn .b doubtful (s.head .b).forceDoubt).surroundings_judgePart p r true
      (s.readingOf .b range code status doubtful (s.head .b).forceDoubt)).trans (s.surroundings_judgedIn .b _ _)
    obtain ⟨hheads, hfaults, hcheck, hpockets⟩ := State.completePair_leaves hmode' hpart _ hpair
    obtain ⟨r', hdone⟩ := State.completePair_done (p := p) (first := first)
      (x := s.readingOf .b range code status doubtful (s.head .b).forceDoubt) hmode' hpart
      (pairVerdict s.banks.active.agreeLimit first
        (s.readingOf .b range code status doubtful (s.head .b).forceDoubt))
    rw [← hpair] at hdone
    generalize (s.judgedIn .b doubtful (s.head .b).forceDoubt).judgePart p r true
      (s.readingOf .b range code status doubtful (s.head .b).forceDoubt) = t at *
    have hdial : t.dial = (s.leaveBusy (.head .b)).dial := State.dial_of_surroundings haround
    have hbusy (st : Station) : t.isBusy st = (s.leaveBusy (.head .b)).isBusy st := State.isBusy_of_surroundings haround st
    have happended := hdone.appended
    refine ⟨_, rfl, ?_, ?_, fun st hst => ?_, State.endDwellTest_dial_of_aside (by rw [hdial]; rfl), ?_, ?_,
      fun q hq => ?_, ?_, ?_, ?_, ?_, ?_, r', ?_, hdone.attempts, ?_, ?_, ?_, ?_, ?_, ?_, ?_, ?_, ?_,
      fun v hd1 hd2 hv hs1 hs2 hlo hhi => ?_, fun hfail => ?_⟩
    · rw [State.endDwellTest_heads, hheads]
      rfl
    · rw [State.endDwellTest_isBusy, hbusy, State.isBusy_leaveBusy, if_pos rfl]
    · rw [State.endDwellTest_isBusy, hbusy, State.isBusy_leaveBusy, if_neg hst]
    · rw [State.endDwellTest_lines]
      exact congrArg Surroundings.lines haround
    · rw [State.endDwellTest_link]
      exact congrArg Surroundings.link haround
    · rw [State.endDwellTest_pocket, hpockets q hq]
      rfl
    · rw [State.endDwellTest_faults, hfaults]
      rfl
    · rw [State.endDwellTest_gates]
      exact congrArg Surroundings.gates haround
    · rw [State.endDwellTest_feed]
      exact congrArg Surroundings.feed haround
    · rw [State.endDwellTest_check, hcheck]
      rfl
    · rw [State.endDwellTest_banks]
      exact congrArg Surroundings.banks haround
    · rw [State.endDwellTest_pocket, hdone.record]
    · exact (congrArg LiveRecord.readings happended).trans rfl
    · exact (congrArg LiveRecord.kind happended).trans rfl
    · exact (congrArg LiveRecord.lot happended).trans rfl
    · exact (congrArg LiveRecord.serial happended).trans rfl
    · exact (congrArg LiveRecord.lap happended).trans rfl
    · exact (congrArg (fun y : LiveRecord => y.flags.degraded) happended).trans rfl
    · exact (congrArg (fun y : LiveRecord => y.flags.recalled) happended).trans rfl
    · exact (congrArg (fun y : LiveRecord => y.flags.recallPending) happended).trans hk.2.2
    · exact (congrArg (fun y : LiveRecord => y.flags.saturated) happended).trans rfl
    · obtain ⟨hg, hcls, hforced, hclear, hlot, hphase⟩ :=
        hdone.graded _ (pairVerdict_agrees hd1 hd2 hv rfl hs1 hs2 hlo hhi)
      exact ⟨hg, hcls, hforced, by rw [State.endDwellTest_forceClass, hclear], by rw [State.endDwellTest_lot, hlot]; rfl,
        hphase⟩
    · obtain ⟨hclear, hforced, hg, hcls, hlot, hphase⟩ := hdone.failed (pairVerdict_fails rfl hfail)
      exact ⟨by rw [State.endDwellTest_forceClass, hclear]; rfl, hforced, hg, hcls,
        by rw [State.endDwellTest_lot, hlot]; rfl, hphase⟩

end Sys2Proof.Machine
end

section
/-! SUPPORT. A kept reading of a check standard (R94, R104, R105, R140 to R145). -/

namespace Sys2Proof.Machine

/-! ### The reading -/

/-- The reading of a CHECK record, judged in the state in which its head has taken the RESULT: no one-shot is used. -/
theorem State.judge_check (s : State) (h : Head) (range : Fin 7) (code : BitVec 24) (status : Byte) {doubtful : Bool}
    (hd : doubtful = true ↔ s.statusDoubts status) :
    (s.resultIn h).judge .check h range (some (code, status)) = s.readingOf h range code status doubtful false := by
  have hsample : (s.resultIn h).sampleOf h range (code, status) = s.sampleOf h range (code, status) := by
    simp only [State.sampleOf, State.head_resultIn]
    rfl
  have hdoubt : headDoubts s.banks.active.doubtMask (some (s.sampleOf h range (code, status))) = doubtful := by
    rw [Bool.eq_iff_iff, headDoubts_iff, hd]
  rw [← hdoubt]
  simp only [State.judge, Option.map_some, hsample, beq_eq_false_iff_ne.mpr (show Kind.check ≠ Kind.part by decide),
    Bool.false_and, Bool.or_false]
  rw [State.head_resultIn]
  rfl

/-- An awaited RESULT for a CHECK record that keeps its reading: the check unit decides, and then the dwell may end. -/
theorem State.Awaits.exec_result_check {s : State} {h : Head} {p : Fin 24} {range : Fin 7} (ha : s.Awaits h p range)
    {r : LiveRecord} {openPair : Bool} (hk : s.Keeps h p r openPair) (hcheck : r.kind = .check) (code : BitVec 24)
    (status : Byte) {doubtful : Bool} (hd : doubtful = true ↔ s.statusDoubts status) :
    exec (.result h (BitVec.ofNat 8 p.val) code status) s =
      .next ((s.judgedIn h doubtful false).judgeCheck p r
        (s.readingOf h range code status doubtful false)).endDwellTest := by
  have hk' : (s.resultIn h).Keeps h p r openPair := hk
  have hjudged : (s.resultIn h).keepReading p r openPair h range (some (code, status)) =
      (s.judgedIn h doubtful false).judgeCheck p r (s.readingOf h range code status doubtful false) := by
    simp only [State.keepReading, hcheck, s.judge_check h range code status hd]
    rw [State.judgedIn_eq]
    rfl
  rw [ha.exec_result, State.handReading_kept hk', hjudged]

/-! ### The record (R104, R105) -/

/-- A standard read at A goes on to B unless B has read it already. -/
theorem State.checkDoneTest_append {s : State} {r : LiveRecord} {x : Reading} (hcheck : r.kind = .check)
    (hx : x.head = .a) (hb : s.inService .b = true) :
    s.checkDoneTest { r.append x with phase := .pending .b false } =
      { r.append x with
        phase := if ∀ y ∈ r.readings, y.head = .a then .pending .b false else .checkDone } := by
  obtain ⟨hdone, hgoes⟩ := s.checkDoneTest_pending (r.append x) .b false
  have hreadings : (r.append x).readings = r.readings ++ [x] := rfl
  by_cases hall : ∀ y ∈ r.readings, y.head = .a
  · rw [if_pos hall]
    refine hgoes fun ⟨_, _, hread⟩ => ?_
    obtain ⟨y, hy, hyb⟩ := hread .b hb
    rw [hreadings, List.mem_append, List.mem_singleton] at hy
    rcases hy with hy | rfl
    · rw [hall y hy] at hyb
      cases hyb
    · rw [hx] at hyb
      cases hyb
  · rw [if_neg hall]
    refine hdone ⟨hcheck, by simp [hreadings], fun k _ => ?_⟩
    cases k with
    | a => exact ⟨x, by simp [hreadings], hx⟩
    | b =>
      push Not at hall
      obtain ⟨y, hy, hya⟩ := hall
      refine ⟨y, by simp [hreadings, hy], ?_⟩
      cases hyh : y.head with
      | a => exact absurd hyh hya
      | b => rfl

/-- The decision takes no head out of service but the one that was checked. -/
theorem State.checkDecision_head_ne (s : State) {x : Reading} {k : Head} (hk : k ≠ x.head) :
    (s.checkDecision x).head k = s.head k := by
  unfold State.checkDecision
  split
  next =>
    dsimp only
    split
    · simp [State.nextEpoch, hk]
    · simp [State.checkFail, State.nextEpoch, State.recall, hk]
  next => rfl

theorem State.judgeCheck_eq {s : State} {p : Fin 24} {r : LiveRecord} {x : Reading} (hcheck : r.kind = .check) :
    s.judgeCheck p r x =
      (s.checkDecision x).setLive p
        { r.append x with
          phase :=
            if x.head = .a ∧ s.inService .b = true ∧ (∀ y ∈ r.readings, y.head = .a) then .pending .b false
            else .checkDone } := by
  unfold State.judgeCheck
  dsimp only
  by_cases hx : x.head = .a
  · have hin : (s.checkDecision x).inService .b = s.inService .b := by
      unfold State.inService
      rw [s.checkDecision_head_ne (x := x) (k := .b) (by rw [hx]; decide)]
    by_cases hb : s.inService .b = true
    · rw [if_pos ⟨hx, hin.trans hb⟩, State.checkDoneTest_append hcheck hx (hin.trans hb)]
      simp only [hx, hb, true_and]
    · rw [if_neg fun hc => hb (hin.symm.trans hc.2), if_neg fun hc => hb hc.2.1]
  · rw [if_neg fun hc => hx hc.1, if_neg fun hc => hx hc.1]

end Sys2Proof.Machine
end

section
/-! SUPPORT. The decision on a head for the reading of a standard (R140 to R145). -/

namespace Sys2Proof.Machine

/-! ### The recall rests on the records, the heads in service and the lot -/

theorem State.checkDoneTest_congr {s t : State} (hin : ∀ k, s.inService k = t.inService k) :
    s.checkDoneTest = t.checkDoneTest := by
  funext r
  unfold State.checkDoneTest State.checkIsDone
  rw [hin .a, hin .b]

theorem State.headLeft_pockets_congr {s t : State} (hp : s.pockets = t.pockets)
    (hin : ∀ k, s.inService k = t.inService k) : s.headLeft.pockets = t.headLeft.pockets := by
  unfold State.headLeft State.mapLive
  rw [State.checkDoneTest_congr hin, hp]

theorem State.recallRecord_congr {s t : State} (hin : ∀ k, s.inService k = t.inService k) (failed : Head)
    (epoch : BitVec 16) : s.recallRecord failed epoch = t.recallRecord failed epoch := by
  funext r
  unfold State.recallRecord
  rw [hin failed.other]

theorem State.recall_congr {s t : State} (hp : s.pockets = t.pockets) (hin : ∀ k, s.inService k = t.inService k)
    (hlot : s.lot = t.lot) (failed : Head) (epoch : BitVec 16) :
    (s.recall failed epoch).pockets = (t.recall failed epoch).pockets ∧
      (s.recall failed epoch).lot = (t.recall failed epoch).lot := by
  have hcounts : s.recallCounts failed epoch = t.recallCounts failed epoch := by
    funext r
    unfold State.recallCounts State.isCurrentLot
    rw [hlot]
  constructor
  · show (s.mapLive fun r => .live (s.recallRecord failed epoch r)).pockets =
      (t.mapLive fun r => .live (t.recallRecord failed epoch r)).pockets
    unfold State.mapLive
    rw [State.recallRecord_congr hin, hp]
  · rw [State.recall_eq, State.recall_eq t, hcounts]
    unfold State.countLive
    rw [hlot, hp]

/-- A record that the recall sends back holds no reading, and one that it purges neither waits nor is classified. -/
theorem LiveRecord.recallTo_clears (r : LiveRecord) (other : Head) (b : Bool) :
    (r.recallTo other b).readings = [] ∨ (r.recallTo other b).phase = .purgePending .recall := by
  rw [LiveRecord.recallTo_eq]
  split
  · exact .inl rfl
  · exact .inr rfl

/-- The record waits for a head or is classified (R145). -/
def LiveRecord.Recallable (r : LiveRecord) : Prop := (∃ hd o, r.phase = .pending hd o) ∨ r.phase = .classified

theorem LiveRecord.not_recallable_of_phase {r : LiveRecord} {x : Phase} (h : r.phase = x) (hp : ∀ hd o, x ≠ .pending hd o)
    (hc : x ≠ .classified) : ¬r.Recallable := by
  rintro (⟨hd, o, hr⟩ | hr)
  · exact hp hd o (h.symm.trans hr)
  · exact hc (h.symm.trans hr)

/-- After the recall no PART record that waits or is classified holds a reading of the failed head and epoch (R145). -/
theorem State.recallRecord_clears {s : State} {failed : Head} {epoch : BitVec 16} {r : LiveRecord}
    (hpart : (s.recallRecord failed epoch r).kind = .part) (hphase : (s.recallRecord failed epoch r).Recallable) :
    ∀ x ∈ (s.recallRecord failed epoch r).readings, ¬(x.head = failed ∧ x.epoch = epoch) := by
  by_cases hreach : r.recallReaches failed epoch = true
  · by_cases hnow : r.Recallable
    · rw [State.recallRecord_pendingOrClassified hreach hnow] at hphase ⊢
      rcases r.recallTo_clears failed.other (s.inService failed.other) with hnil | hpurged
      · rw [hnil]
        exact fun x hx => absurd hx List.not_mem_nil
      · exact absurd hphase (LiveRecord.not_recallable_of_phase hpurged (fun _ _ he => nomatch he) fun he => nomatch he)
    · have hsame : (s.recallRecord failed epoch r).phase = r.phase := by
        simp only [State.recallRecord, hreach, if_true]
        split
        next hd o hp => exact absurd (.inl ⟨hd, o, hp⟩) hnow
        next hp => exact absurd (.inr hp) hnow
        all_goals rfl
      unfold LiveRecord.Recallable at hphase
      rw [hsame] at hphase
      exact absurd hphase hnow
  · rw [State.recallRecord_unreached hreach] at hpart ⊢
    exact fun x hx hfail => hreach ((r.recallReaches_iff failed epoch).mpr ⟨hpart, x, hx, hfail⟩)

theorem State.recall_clears {s : State} {failed : Head} {epoch : BitVec 16} {q : Fin 24} {r' : LiveRecord}
    (hr' : (s.recall failed epoch).pocket q = .live r') (hpart : r'.kind = .part) (hphase : r'.Recallable) :
    ∀ x ∈ r'.readings, ¬(x.head = failed ∧ x.epoch = epoch) := by
  by_cases hlive : ∃ r, s.pocket q = .live r
  · obtain ⟨r, hr⟩ := hlive
    rw [State.recall_pocket_live hr] at hr'
    obtain rfl := PocketRecord.live.inj hr'
    exact State.recallRecord_clears hpart hphase
  · have hnone (r : LiveRecord) : s.pocket q ≠ .live r := fun hr => hlive ⟨r, hr⟩
    rw [State.recall_pocket_other hnone] at hr'
    exact absurd hr' (hnone r')

/-! ### The decision -/

/-- The last drift of a head is recorded (R140). -/
def State.drifted (s : State) (h : Head) (drift : Int) : State :=
  s.onCheck fun u => { u with lastDrift := u.lastDrift.set h drift }

section
variable {s : State} {x : Reading}

theorem State.checkDecision_doubtful (hd : x.doubtful = true) :
    s.checkDecision x = s.onCheck fun u => { u with due := true } := by
  simp only [State.checkDecision, hd]

theorem State.checkDecision_passes (hd : x.doubtful = false) {v : Sample} (hv : x.sample = some v)
    (hlo : -(s.banks.active.driftLimit : Int) ≤ v.deviation - s.banks.active.certified)
    (hhi : v.deviation - s.banks.active.certified ≤ s.banks.active.driftLimit) :
    s.checkDecision x =
      (s.drifted x.head (v.deviation - s.banks.active.certified)).nextEpoch x.head := by
  have hwithin : (v.deviation - s.banks.active.certified).natAbs ≤ s.banks.active.driftLimit := by omega
  simp only [State.checkDecision, hd, hv, hwithin, if_true]
  rfl

theorem State.checkDecision_fails (hd : x.doubtful = false) {v : Sample} (hv : x.sample = some v)
    (hout : v.deviation - s.banks.active.certified < -(s.banks.active.driftLimit : Int) ∨
      (s.banks.active.driftLimit : Int) < v.deviation - s.banks.active.certified) :
    s.checkDecision x =
      (s.drifted x.head (v.deviation - s.banks.active.certified)).checkFail x.head
        (v.deviation - s.banks.active.certified) := by
  have hwithin : ¬(v.deviation - s.banks.active.certified).natAbs ≤ s.banks.active.driftLimit := by omega
  simp only [State.checkDecision, hd, hv, hwithin, if_false]
  rfl

end

end Sys2Proof.Machine
end

section
/-! SUPPORT. A failed check, and the reading of a standard (R94, R104, R140 to R145). -/

namespace Sys2Proof.Machine

/-- The head has gone OUT, before the check-done test is made (R105). -/
def State.gone (s : State) (h : Head) (why : OutReason) : State :=
  { s with heads := s.heads.set h { s.head h with state := .out why } }

theorem State.departed_eq (s : State) (h : Head) (why : OutReason) : s.departed h why = (s.gone h why).headLeft := rfl

theorem State.gone_inService (s : State) (h : Head) (why : OutReason) (k : Head) :
    (s.gone h why).inService k = (decide (k ≠ h) && s.inService k) := by
  unfold State.inService State.head State.gone
  rw [PerHead.get_set]
  by_cases hk : k = h
  · subst hk
    simp [HeadState.inService]
  · simp [hk]

theorem State.headLeft_inService (s : State) (k : Head) : s.headLeft.inService k = s.inService k := by
  unfold State.inService
  rw [State.headLeft_head]

theorem State.headLeft_lot (s : State) : s.headLeft.lot = s.lot := by
  simp [State.headLeft]

/-- A departure and its recall rest on the records, the other head and the lot. -/
theorem State.departed_recall_congr {s t : State} (h : Head) (why : OutReason) (hp : s.pockets = t.pockets)
    (hin : ∀ k, k ≠ h → s.inService k = t.inService k) (hlot : s.lot = t.lot) (epoch : BitVec 16) :
    ((s.departed h why).recall h epoch).pockets = ((t.departed h why).recall h epoch).pockets ∧
      ((s.departed h why).recall h epoch).lot = ((t.departed h why).recall h epoch).lot := by
  have hgone (k : Head) : (s.gone h why).inService k = (t.gone h why).inService k := by
    rw [State.gone_inService, State.gone_inService]
    by_cases hk : k = h
    · simp [hk]
    · rw [hin k hk]
  have hpockets : (s.gone h why).headLeft.pockets = (t.gone h why).headLeft.pockets :=
    State.headLeft_pockets_congr hp hgone
  rw [State.departed_eq, State.departed_eq]
  refine State.recall_congr hpockets (fun k => ?_) ?_ h epoch
  · rw [State.headLeft_inService, State.headLeft_inService, hgone]
  · rw [State.headLeft_lot, State.headLeft_lot]
    exact hlot

/-- What a failed check leaves, block by block (R142, R143). -/
structure State.CheckFailed (s : State) (h : Head) (drift : Int) (t : State) : Prop where
  head : t.head h = { s.head h with state := .out .drift, epoch := (s.head h).epoch + 1#16 }
  check : t.check = { s.check with exposure := s.check.exposure.set h 0 }
  faults : t.faults =
    { s.faults with
      events := s.faults.events ||| 0x200#19
      headCapture :=
        takeHeadOffer s.faults.headCapture
          { kind := .drift, head := h, epoch := (s.head h).epoch, exposure := s.check.exposure.get h
            drift := some drift } }
  forceClass : t.forceClass = s.forceClass
  pockets : t.pockets = ((s.departed h .drift).recall h (s.head h).epoch).pockets
  lot : t.lot = ((s.departed h .drift).recall h (s.head h).epoch).lot

/-- The capture of HEAD_DRIFT, and the flag, do not change what the recall does. -/
theorem State.checkFail_eq (s : State) (h : Head) (drift : Int) :
    s.checkFail h drift =
      (((s.departed h .drift).raiseHead
          { kind := .drift, head := h, epoch := (s.head h).epoch, exposure := s.check.exposure.get h
            drift := some drift }).recall h (s.head h).epoch).nextEpoch h := rfl

theorem State.checkFail_failed (s : State) (h : Head) (drift : Int) : s.CheckFailed h drift (s.checkFail h drift) := by
  have hrecall := State.recall_congr (s := (s.departed h .drift).raiseHead
      { kind := .drift, head := h, epoch := (s.head h).epoch, exposure := s.check.exposure.get h
        drift := some drift })
    (t := s.departed h .drift) (State.raiseHead_pockets _ _) (State.raiseHead_inService _ _) (State.raiseHead_lot _ _)
    h (s.head h).epoch
  refine ⟨?_, ?_, ?_, ?_, ?_, ?_⟩
  · simp [State.checkFail, State.nextEpoch, State.recall]
  · simp [State.checkFail, State.nextEpoch, State.recall, State.headLeft]
  · rw [State.checkFail_eq, State.recall_eq]
    rfl
  · simp [State.checkFail, State.nextEpoch, State.recall, State.headLeft]
  · rw [State.checkFail_eq, State.nextEpoch_pockets, hrecall.1]
  · rw [State.checkFail_eq, State.nextEpoch_lot, hrecall.2]

end Sys2Proof.Machine
end

section
/-! SUPPORT. The obligation on the reading of a standard (R94, R104, R140 to R145). -/

namespace Sys2Proof.Machine

theorem State.checkDecision_forceClass (s : State) (x : Reading) : (s.checkDecision x).forceClass = s.forceClass := by
  unfold State.checkDecision
  split
  next =>
    dsimp only
    split
    · rfl
    · exact (State.checkFail_failed _ _ _).forceClass
  next => rfl

/-- The next state of a standard after its reading, in the terms of the statements (R104, R105). -/
theorem State.judgedIn_goesOn (s : State) (h : Head) (doubtful forced : Bool) (r : LiveRecord) :
    (h = .a ∧ (s.judgedIn h doubtful forced).inService .b = true ∧ ∀ y ∈ r.readings, y.head = .a) ↔
      h = .a ∧ s.inService .b = true ∧ ∀ y ∈ r.readings, y.head = .a := by
  refine and_congr_right fun ha => ?_
  rw [s.inService_judgedIn_other (by rw [ha]; decide)]

/-- The reading of a standard leaves what the decision left, but for the record that was read. -/
structure State.CheckJudged (s : State) (p : Fin 24) (r : LiveRecord) (x : Reading) (u t : State) : Prop where
  record : t.pocket p = .live
    { r.append x with
      phase :=
        if x.head = .a ∧ s.inService .b = true ∧ (∀ y ∈ r.readings, y.head = .a) then .pending .b false
        else .checkDone }
  records : ∀ q, q ≠ p → t.pocket q = u.pocket q
  head : ∀ k, t.head k = u.head k
  check : t.check = u.check
  faults : t.faults = u.faults
  lot : t.lot = u.lot

theorem State.judgeCheck_judged {s : State} {p : Fin 24} {r : LiveRecord} {x : Reading} (hcheck : r.kind = .check) :
    s.CheckJudged p r x (s.checkDecision x) (s.judgeCheck p r x) := by
  rw [State.judgeCheck_eq hcheck]
  refine ⟨?_, fun q hq => ?_, fun _ => rfl, rfl, rfl, rfl⟩
  · rw [State.pocket_setLive, if_pos rfl]
  · rw [State.pocket_setLive, if_neg hq]

theorem State.judgeCheck_forceClass {s : State} {p : Fin 24} {r : LiveRecord} {x : Reading} (hcheck : r.kind = .check) :
    (s.judgeCheck p r x).forceClass = s.forceClass := by
  rw [State.judgeCheck_eq hcheck]
  exact s.checkDecision_forceClass x

/-- A check that fails after a measurement that was awaited, in the terms of the state before it (R142, R143). -/
theorem State.judged_checkFail (s : State) (h : Head) (drift : Int) :
    (((s.judgedIn h false false).drifted h drift).checkFail h drift).head h =
        { (s.head h).afterResult false false with state := .out .drift, epoch := (s.head h).epoch + 1#16 } ∧
      (((s.judgedIn h false false).drifted h drift).checkFail h drift).check =
        { s.check with lastDrift := s.check.lastDrift.set h drift, exposure := s.check.exposure.set h 0 } ∧
      (((s.judgedIn h false false).drifted h drift).checkFail h drift).faults =
        { s.faults with
          events := s.faults.events ||| 0x200#19
          headCapture :=
            takeHeadOffer s.faults.headCapture
              { kind := .drift, head := h, epoch := (s.head h).epoch, exposure := s.check.exposure.get h
                drift := some drift } } ∧
      (∀ q, (((s.judgedIn h false false).drifted h drift).checkFail h drift).pocket q =
        ((s.departed h .drift).recall h (s.head h).epoch).pocket q) ∧
      (((s.judgedIn h false false).drifted h drift).checkFail h drift).lot =
        ((s.departed h .drift).recall h (s.head h).epoch).lot := by
  have hhead : ((s.judgedIn h false false).drifted h drift).head h = (s.head h).afterResult false false :=
    (s.head_judgedIn h h false false).trans (if_pos rfl)
  have hepoch : (((s.judgedIn h false false).drifted h drift).head h).epoch = (s.head h).epoch := by
    rw [hhead]
    rfl
  have hfail := ((s.judgedIn h false false).drifted h drift).checkFail_failed h drift
  obtain ⟨hpockets, hlot⟩ := State.departed_recall_congr (s := (s.judgedIn h false false).drifted h drift) (t := s) h .drift
    rfl (fun k hk => s.inService_judgedIn_other hk false false) rfl (s.head h).epoch
  refine ⟨?_, hfail.check, ?_, fun q => ?_, ?_⟩
  · rw [hfail.head, hhead]
    rfl
  · rw [hfail.faults, hepoch]
    rfl
  · unfold State.pocket
    rw [hfail.pockets, hepoch, hpockets]
  · rw [hfail.lot, hepoch, hlot]

/-- Settles O35: the record goes on in one way, and the decision on its head is one of three. -/
theorem checkReadingDecides : Obligations.CheckReadingDecides := by
  intro s h p range r openPair code status drift ha hk hcheck hdrift
  subst hdrift
  obtain ⟨d, hd⟩ : ∃ d : Bool, d = true ↔ s.statusDoubts status := ⟨_, headDoubts_iff s h range code status⟩
  rw [ha.exec_result_check hk hcheck code status hd]
  have haround := ((s.judgedIn h d false).surroundings_judgeCheck p r (s.readingOf h range code status d false)).trans
    (s.surroundings_judgedIn h d false)
  have hforce : ((s.judgedIn h d false).judgeCheck p r (s.readingOf h range code status d false)).forceClass =
      s.forceClass := State.judgeCheck_forceClass hcheck
  have ht := State.judgeCheck_judged (s := s.judgedIn h d false) (p := p)
    (x := s.readingOf h range code status d false) hcheck
  generalize (s.judgedIn h d false).judgeCheck p r (s.readingOf h range code status d false) = t at *
  have hdial : t.dial = (s.leaveBusy (.head h)).dial := State.dial_of_surroundings haround
  have hbusy (st : Station) : t.isBusy st = (s.leaveBusy (.head h)).isBusy st := State.isBusy_of_surroundings haround st
  have hhead : (s.judgedIn h d false).head h = (s.head h).afterResult d false :=
    (s.head_judgedIn h h d false).trans (if_pos rfl)
  have hother : t.head h.other = s.head h.other := by
    rw [ht.head, State.checkDecision_head_ne _ (Head.other_ne h), State.head_judgedIn, if_neg (Head.other_ne h)]
  refine ⟨_, rfl, ?_, fun st hst => ?_, State.endDwellTest_dial_of_aside (by rw [hdial]; rfl), ?_, ?_, ?_, ?_, ?_, ?_,
    ?_, ⟨d, hd, ?_⟩, fun hdoubts => ?_, fun hsure hlo hhi => ?_, fun hsure hout => ?_⟩
  · rw [State.endDwellTest_isBusy, hbusy, State.isBusy_leaveBusy, if_pos rfl]
  · rw [State.endDwellTest_isBusy, hbusy, State.isBusy_leaveBusy, if_neg hst]
  · rw [State.endDwellTest_lines]
    exact congrArg Surroundings.lines haround
  · rw [State.endDwellTest_link]
    exact congrArg Surroundings.link haround
  · rw [State.endDwellTest_head, hother]
  · rw [State.endDwellTest_banks]
    exact congrArg Surroundings.banks haround
  · rw [State.endDwellTest_gates]
    exact congrArg Surroundings.gates haround
  · rw [State.endDwellTest_feed]
    exact congrArg Surroundings.feed haround
  · rw [State.endDwellTest_forceClass, hforce]
  · rw [State.endDwellTest_pocket, ht.record]
    simp only [show (s.readingOf h range code status d false).head = h from rfl, s.judgedIn_goesOn h d false r]
    rfl
  · obtain rfl := hd.mpr hdoubts
    have hu := State.checkDecision_doubtful (s := s.judgedIn h true false)
      (x := s.readingOf h range code status true false) rfl
    rw [hu] at ht
    simp only [State.endDwellTest_check, State.endDwellTest_head, State.endDwellTest_faults, State.endDwellTest_lot,
      State.endDwellTest_pocket]
    exact ⟨ht.check, (ht.head h).trans hhead, ht.faults, ht.lot, ht.records⟩
  · obtain rfl : d = false := Bool.eq_false_iff.mpr (mt hd.mp hsure)
    have hu := State.checkDecision_passes (s := s.judgedIn h false false)
      (x := s.readingOf h range code status false false) rfl rfl hlo hhi
    rw [hu] at ht
    simp only [State.endDwellTest_check, State.endDwellTest_head, State.endDwellTest_faults, State.endDwellTest_lot,
      State.endDwellTest_pocket]
    refine ⟨ht.check, ?_, ht.faults, ht.lot, ht.records⟩
    rw [ht.head, ← hhead]
    simp [State.nextEpoch, State.drifted, State.readingOf]
    rfl
  · obtain rfl : d = false := Bool.eq_false_iff.mpr (mt hd.mp hsure)
    have hu := State.checkDecision_fails (s := s.judgedIn h false false)
      (x := s.readingOf h range code status false false) rfl rfl hout
    rw [hu] at ht
    obtain ⟨hhead', hcheck', hfaults', hpockets', hlot'⟩ := s.judged_checkFail h
      ((convert s.banks.active.mantissa (s.head h).calibration[range.val] code).1 - s.banks.active.certified)
    have hrecords (q : Fin 24) (hq : q ≠ p) :
        t.endDwellTest.pocket q = ((s.departed h .drift).recall h (s.head h).epoch).pocket q :=
      (t.endDwellTest_pocket q).trans ((ht.records q hq).trans (hpockets' q))
    refine ⟨?_, ?_, ?_, ?_, hrecords, fun q r' hr' hpart hphase => ?_⟩
    · rw [State.endDwellTest_check]
      exact ht.check.trans hcheck'
    · rw [State.endDwellTest_head]
      exact (ht.head h).trans hhead'
    · rw [State.endDwellTest_faults]
      exact ht.faults.trans hfaults'
    · rw [State.endDwellTest_lot]
      exact ht.lot.trans hlot'
    · by_cases hq : q = p
      · subst hq
        rw [State.endDwellTest_pocket, ht.record] at hr'
        obtain rfl := PocketRecord.live.inj hr'
        exact nomatch hcheck.symm.trans hpart
      · rw [hrecords q hq] at hr'
        exact State.recall_clears hr' hpart hphase

end Sys2Proof.Machine
end

section
/-! SUPPORT. A response timeout in a measurement: the head, before the reading is handed on (R56). -/

namespace Sys2Proof.Machine

theorem HeadUnit.noReply_eq (u : HeadUnit) : u.noReply = u.afterNoReply false false := by
  simp [HeadUnit.noReply, HeadUnit.afterNoReply, HeadUnit.endRequest, HeadUnit.onCounters, HeadUnit.thirdNoReply, count16,
    bump, satAdd, Config.maxCount16, Config.noReplyLimit]

/-- The part after a measurement has not been answered, and before its NO_REPLY reading is handed on (R3, R56). -/
def State.silenced (s : State) (h : Head) : State :=
  State.leaveBusy
    (if (s.onHead h HeadUnit.noReply).inService h then s.onHead h HeadUnit.noReply
    else ((s.onHead h HeadUnit.noReply).headLeft).raiseLost h) (.head h)

theorem State.completeNoReply_eq (s : State) (h : Head) (p : Fin 24) (range : Fin 7) :
    s.completeNoReply h p range = (s.silenced h).handReading h p range none := rfl

section
variable (s : State) (h : Head)

theorem State.noReply_inService :
    (s.onHead h HeadUnit.noReply).inService h = !(s.head h).thirdNoReply := by
  unfold State.inService
  rw [State.head_onHead, if_pos rfl, HeadUnit.noReply_eq]
  show HeadState.inService (if (s.head h).thirdNoReply then .out .lost else .ready) = _
  cases (s.head h).thirdNoReply <;> rfl

theorem State.silenced_ready (ht : (s.head h).thirdNoReply = false) :
    s.silenced h = (s.onHead h HeadUnit.noReply).leaveBusy (.head h) := by
  unfold State.silenced
  rw [State.noReply_inService, ht]
  rfl

theorem State.silenced_lost (ht : (s.head h).thirdNoReply = true) :
    s.silenced h = (((s.onHead h HeadUnit.noReply).headLeft).raiseLost h).leaveBusy (.head h) := by
  unfold State.silenced
  rw [State.noReply_inService, ht]
  rfl

theorem State.noReply_capture :
    (s.onHead h HeadUnit.noReply).headLeft.headCaptureOf .lost h =
      { kind := .lost, head := h, epoch := (s.head h).epoch, exposure := s.check.exposure.get h, drift := none } := by
  have hepoch : ((s.onHead h HeadUnit.noReply).headLeft.head h).epoch = (s.head h).epoch := by
    rw [State.headLeft_head, State.head_onHead, if_pos rfl]
    rfl
  rw [State.headCaptureOf, hepoch]
  rfl

/-- The head has counted its NO_REPLY and left the busy set; at the third HEAD_LOST is raised and the check-done test
made (R51, R56, R105). -/
theorem State.silenced_with :
    ∃ records, s.silenced h =
      { s.leaveBusy (.head h) with
        heads := s.heads.set h ((s.head h).afterNoReply false false)
        pockets := records
        faults := s.faultsAfterNoReply h } := by
  rw [← HeadUnit.noReply_eq, State.faultsAfterNoReply]
  cases ht : (s.head h).thirdNoReply
  · rw [State.silenced_ready s h ht]
    exact ⟨s.pockets, rfl⟩
  · obtain ⟨records, hleft⟩ : ∃ records, (s.onHead h HeadUnit.noReply).headLeft =
        { s.onHead h HeadUnit.noReply with pockets := records } := ⟨_, rfl⟩
    rw [State.silenced_lost s h ht, if_pos rfl, State.raiseLost, State.noReply_capture, hleft]
    exact ⟨records, rfl⟩

theorem State.silenced_heads : (s.silenced h).heads = s.heads.set h ((s.head h).afterNoReply false false) := by
  obtain ⟨records, h'⟩ := s.silenced_with h
  rw [h']
theorem State.silenced_faults : (s.silenced h).faults = s.faultsAfterNoReply h := by
  obtain ⟨records, h'⟩ := s.silenced_with h
  rw [h']
theorem State.silenced_check : (s.silenced h).check = s.check := by
  obtain ⟨records, h'⟩ := s.silenced_with h
  rw [h']
  rfl
theorem State.silenced_lot : (s.silenced h).lot = s.lot := by
  obtain ⟨records, h'⟩ := s.silenced_with h
  rw [h']
  rfl
theorem State.silenced_forceClass : (s.silenced h).forceClass = s.forceClass := by
  obtain ⟨records, h'⟩ := s.silenced_with h
  rw [h']
  rfl
theorem State.silenced_surroundings : (s.silenced h).surroundings = (s.leaveBusy (.head h)).surroundings := by
  obtain ⟨records, h'⟩ := s.silenced_with h
  rw [h']
  rfl

theorem State.silenced_head (k : Head) :
    (s.silenced h).head k = if k = h then (s.head h).afterNoReply false false else s.head k := by
  unfold State.head
  rw [State.silenced_heads, PerHead.get_set]
  rfl

theorem State.silenced_inService : (s.silenced h).inService h = !(s.head h).thirdNoReply := by
  unfold State.inService
  rw [State.silenced_head, if_pos rfl]
  show HeadState.inService (if (s.head h).thirdNoReply then .out .lost else .ready) = _
  cases (s.head h).thirdNoReply <;> rfl

theorem State.silenced_pocket (q : Fin 24) :
    (s.silenced h).pocket q = if (s.head h).thirdNoReply then (s.departed h .lost).pocket q else s.pocket q := by
  cases ht : (s.head h).thirdNoReply
  · rw [State.silenced_ready s h ht]
    rfl
  · rw [State.silenced_lost s h ht, if_pos rfl, State.departed_eq]
    rw [State.leaveBusy_pocket, State.raiseLost, State.raiseHead_pocket]
    refine State.headLeft_pocket_congr rfl fun k => ?_
    rw [State.gone_inService]
    by_cases hk : k = h
    · subst hk
      rw [State.noReply_inService, ht]
      simp
    · unfold State.inService
      rw [State.head_onHead, if_neg hk]
      simp [hk]

end

theorem State.silenced_pocket_measuring {s : State} {h k : Head} {p : Fin 24} {r : LiveRecord} {openPair : Bool}
    {mark : Option PurgeMark} (hr : s.pocket p = .live r) (hp : r.phase = .measuring k openPair mark) :
    (s.silenced h).pocket p = .live r := by
  rw [State.silenced_pocket]
  split
  · rw [State.departed_eq, State.headLeft_pocket_live (s := s.gone h .lost) hr, State.checkDoneTest_measuring _ hp]
  · exact hr

end Sys2Proof.Machine
end

section
/-! SUPPORT. The NO_REPLY reading that is handed on (R57, R64, R82, R84 to R87, R94). -/

namespace Sys2Proof.Machine

/-- The reading of a measurement that was not answered (R20, R57, R82). -/
def State.silentReading (s : State) (h : Head) (forced : Bool) : Reading :=
  { head := h, sample := none, epoch := (s.head h).epoch, doubtful := true, forced := forced }

/-- The part after the NO_REPLY reading has been judged and counted (R57, R64). -/
def State.noted (s : State) (h : Head) (usesOneShot : Bool) : State :=
  { s.silenced h with heads := s.heads.set h ((s.head h).afterNoReply true usesOneShot) }

section
variable (s : State) (h : Head)

theorem State.noted_head (usesOneShot : Bool) (k : Head) :
    (s.noted h usesOneShot).head k = if k = h then (s.head h).afterNoReply true usesOneShot else s.head k :=
  PerHead.get_set _ _ _ _

theorem State.noted_inService_other (usesOneShot : Bool) {k : Head} (hk : k ≠ h) :
    (s.noted h usesOneShot).inService k = s.inService k := by
  unfold State.inService
  rw [State.noted_head, if_neg hk]

/-- Counting the doubtful reading, and using the one-shot, on the head that was not answered (R57, R64). -/
theorem State.silenced_noted {forced usesOneShot : Bool}
    (hf : ((s.head h).forceDoubt && !forced) = ((s.head h).forceDoubt && !usesOneShot)) :
    ((s.silenced h).onHead h fun u =>
        { u with
          forceDoubt := u.forceDoubt && !forced
          counters := { u.counters with doubtful := count16 u.counters.doubtful } }) = s.noted h usesOneShot := by
  rw [State.onHead, ← State.head_def, State.silenced_head, if_pos rfl, State.silenced_heads, PerHead.set_set, State.noted]
  have hforce : (((s.head h).afterNoReply false false).forceDoubt && !forced) =
      ((s.head h).afterNoReply true usesOneShot).forceDoubt := by
    show ((s.head h).forceDoubt && !false && !forced) = _
    rw [Bool.not_false, Bool.and_true, hf]
    rfl
  rw [hforce]
  rfl

theorem State.keepReading_silent_part {p : Fin 24} {r : LiveRecord} (hpart : r.kind = .part) (openPair : Bool)
    (range : Fin 7) :
    (s.silenced h).keepReading p r openPair h range none =
      (s.noted h true).judgePart p r openPair (s.silentReading h (s.head h).forceDoubt) := by
  have hforce : ((s.silenced h).head h).forceDoubt = (s.head h).forceDoubt := by
    rw [State.silenced_head, if_pos rfl]
    exact Bool.and_true _
  have hepoch : ((s.silenced h).head h).epoch = (s.head h).epoch := by
    rw [State.silenced_head, if_pos rfl]
    rfl
  have hjudge : (s.silenced h).judge .part h range none = s.silentReading h (s.head h).forceDoubt := by
    simp only [State.judge, Option.map_none, headDoubts, hforce, hepoch, beq_self_eq_true, Bool.true_and, Bool.true_or]
    rfl
  have hnoted := State.silenced_noted s h (forced := (s.head h).forceDoubt) (usesOneShot := true) (by simp)
  simp only [State.keepReading, hpart, hjudge]
  rw [← hnoted]
  rfl

theorem State.keepReading_silent_check {p : Fin 24} {r : LiveRecord} (hcheck : r.kind = .check) (openPair : Bool)
    (range : Fin 7) :
    (s.silenced h).keepReading p r openPair h range none =
      (s.noted h false).judgeCheck p r (s.silentReading h false) := by
  have hepoch : ((s.silenced h).head h).epoch = (s.head h).epoch := by
    rw [State.silenced_head, if_pos rfl]
    rfl
  have hjudge : (s.silenced h).judge .check h range none = s.silentReading h false := by
    simp only [State.judge, Option.map_none, headDoubts, hepoch, Bool.true_or]
    rfl
  have hnoted := State.silenced_noted s h (forced := false) (usesOneShot := false) rfl
  simp only [State.keepReading, hcheck, hjudge]
  rw [← hnoted]
  rfl

end

/-! ### What an attempt that gives no grading leaves alone -/

/-- One state follows from another by work on the record of pocket `p` that changes no head and no one-shot, and
clears no event flag. -/
structure State.Marks (s : State) (p : Fin 24) (t : State) : Prop where
  heads : t.heads = s.heads
  forceClass : t.forceClass = s.forceClass
  check : t.check = s.check
  pocket : ∀ q, q ≠ p → t.pocket q = s.pocket q
  events : ∀ i, s.faults.events.getLsbD i = true → t.faults.events.getLsbD i = true

section
variable {s t u : State} {p : Fin 24}

theorem State.Marks.refl : s.Marks p s := ⟨rfl, rfl, rfl, fun _ _ => rfl, fun _ h => h⟩

theorem State.Marks.trans (h : s.Marks p t) (h' : t.Marks p u) : s.Marks p u where
  heads := h'.heads.trans h.heads
  forceClass := h'.forceClass.trans h.forceClass
  check := h'.check.trans h.check
  pocket q hq := (h'.pocket q hq).trans (h.pocket q hq)
  events i hi := h'.events i (h.events i hi)

theorem State.Marks.setLive (s : State) (p : Fin 24) (r : LiveRecord) : s.Marks p (s.setLive p r) :=
  ⟨rfl, rfl, rfl, fun q hq => by rw [State.pocket_setLive, if_neg hq], fun _ h => h⟩

theorem State.Marks.reportPart (s : State) (p : Fin 24) (r : LiveRecord) (f : LotCounters → LotCounters) :
    s.Marks p (s.reportPart r f) := by
  rw [State.reportPart_eq]
  exact ⟨rfl, rfl, rfl, fun _ _ => rfl, fun _ h => h⟩

theorem State.Marks.raiseSubstituted (s : State) (p : Fin 24) (x : Option Head) : s.Marks p (s.raiseSubstituted x) := by
  cases x with
  | none => exact .refl
  | some k =>
    refine ⟨rfl, rfl, rfl, fun _ _ => rfl, fun i hi => ?_⟩
    show (s.faults.events ||| _).getLsbD i = true
    rw [BitVec.getLsbD_or, hi, Bool.true_or]

theorem State.Marks.applyRecall (s : State) (p : Fin 24) (r : LiveRecord) (h : Head) : s.Marks p (s.applyRecall p r h) :=
  (State.Marks.setLive s p _).trans (.reportPart _ p r _)

theorem State.Marks.completeAttempt (s : State) (p : Fin 24) (r : LiveRecord) (x : Reading) (attempt : Attempt) :
    s.Marks p (s.completeAttempt p r x attempt none) := by
  unfold State.completeAttempt
  simp only [Option.isSome_none, Bool.false_eq_true, if_false]
  refine State.Marks.trans ?_ (.raiseSubstituted _ p _)
  split
  · exact (State.Marks.setLive s p _).trans (.reportPart _ p r _)
  · exact .setLive s p _

/-- A doubtful reading of a PART record grades nothing (R82, R87). -/
theorem State.Marks.judgePart (s : State) (p : Fin 24) (r : LiveRecord) (openPair : Bool) {x : Reading}
    (hd : x.doubtful = true) : s.Marks p (s.judgePart p r openPair x) := by
  have hsingle : x.verdict = none := by
    simp only [Reading.verdict, hd]
  have hpair (limit : Nat) (first : Reading) : pairVerdict limit first x = none := by
    unfold pairVerdict
    rw [hd]
    cases first.doubtful <;> rfl
  unfold State.judgePart
  split
  next => exact .setLive s p _
  next =>
    rw [hsingle]
    exact .completeAttempt s p r x _
  next =>
    rw [hpair]
    exact .completeAttempt s p r x _

end

end Sys2Proof.Machine
end

section
/-! SUPPORT. RESPONSE_TIMEOUT in a measurement (R24, R56, R57, R82 to R87, R94, R104, R140, R146). -/

namespace Sys2Proof.Machine

/-- What every NO_REPLY leaves, whatever becomes of its record. -/
structure State.Unanswered (s : State) (h : Head) (p : Fin 24) (t : State) : Prop where
  heads : ∃ kept usesOneShot, t.heads = s.heads.set h ((s.head h).afterNoReply kept usesOneShot)
  forceClass : t.forceClass = s.forceClass
  pocket : ∀ q, q ≠ p → t.pocket q = (s.silenced h).pocket q
  events : ∀ i, (s.faultsAfterNoReply h).events.getLsbD i = true → t.faults.events.getLsbD i = true

section
variable {s : State} {h : Head} {p : Fin 24}

theorem State.Unanswered.silenced {t : State} (ht : (s.silenced h).Marks p t) : s.Unanswered h p t where
  heads := ⟨false, false, ht.heads.trans (s.silenced_heads h)⟩
  forceClass := ht.forceClass.trans (s.silenced_forceClass h)
  pocket := ht.pocket
  events i hi := ht.events i (by rwa [State.silenced_faults])

theorem State.Unanswered.noted {t : State} {usesOneShot : Bool} (hheads : t.heads = (s.noted h usesOneShot).heads)
    (hforce : t.forceClass = (s.noted h usesOneShot).forceClass)
    (hpocket : ∀ q, q ≠ p → t.pocket q = (s.noted h usesOneShot).pocket q)
    (hevents : ∀ i, (s.noted h usesOneShot).faults.events.getLsbD i = true → t.faults.events.getLsbD i = true) :
    s.Unanswered h p t where
  heads := ⟨true, usesOneShot, hheads⟩
  forceClass := hforce.trans (s.silenced_forceClass h)
  pocket := hpocket
  events i hi := hevents i (by
    show (s.silenced h).faults.events.getLsbD i = true
    rwa [State.silenced_faults])

theorem State.checkDecision_silent (u : State) (forced : Bool) :
    u.checkDecision (s.silentReading h forced) = u.onCheck fun c => { c with due := true } :=
  State.checkDecision_doubtful rfl

theorem State.handReading_unanswered (s : State) (h : Head) (p : Fin 24) (range : Fin 7) :
    s.Unanswered h p ((s.silenced h).handReading h p range none) := by
  unfold State.handReading
  split
  next r hr =>
    split
    next m openPair mark hp =>
      split
      · split
        next => exact .silenced (.setLive _ p _)
        next =>
          split
          · exact .silenced (.applyRecall _ p r h)
          · cases hkind : r.kind with
            | part =>
              rw [State.keepReading_silent_part s h hkind]
              have hmarks := State.Marks.judgePart (s.noted h true) p r openPair
                (x := s.silentReading h (s.head h).forceDoubt) rfl
              exact .noted hmarks.heads hmarks.forceClass hmarks.pocket hmarks.events
            | check =>
              rw [State.keepReading_silent_check s h hkind, State.judgeCheck_eq hkind, State.checkDecision_silent]
              exact .noted rfl rfl (fun q hq => by rw [State.pocket_setLive, if_neg hq]; rfl) (fun _ hi => hi)
      · exact .silenced .refl
    next => exact .silenced .refl
  next => exact .silenced .refl

/-- The attempt of a NO_REPLY, seen from the state before it (R84, R92). -/
theorem State.SingleAttempt.noted {r : LiveRecord} {openPair : Bool} {intended : Head}
    (ha : s.SingleAttempt r h openPair intended) : (s.noted h true).SingleAttempt r h openPair intended := by
  have hbanks : (s.noted h true).banks = s.banks := congrArg Surroundings.banks (s.silenced_surroundings h)
  cases h with
  | a =>
    have hb := s.noted_inService_other .a true (k := .b) (by decide)
    unfold State.SingleAttempt at ha ⊢
    rw [hbanks, hb]
    exact ha
  | b =>
    unfold State.SingleAttempt at ha ⊢
    rw [hbanks]
    exact ha

theorem State.noted_faultsAfterSubstitution (intended : Head) :
    (s.noted h true).faultsAfterSubstitution intended h =
      State.faultsAfterSubstitution { s with faults := s.faultsAfterNoReply h } intended h := by
  have hfaults : (s.noted h true).faults = s.faultsAfterNoReply h := s.silenced_faults h
  have hcheck : (s.noted h true).check = s.check := s.silenced_check h
  unfold State.faultsAfterSubstitution
  by_cases hi : intended = h
  · rw [if_pos hi, if_pos hi, hfaults]
  · rw [if_neg hi, if_neg hi, hfaults, hcheck, State.noted_head, if_neg hi]
    rfl

end

theorem LiveRecord.append_silent (r : LiveRecord) {x : Reading} (hx : x.sample = none) :
    r.append x = { r with readings := r.readings ++ [x] } := by
  simp [LiveRecord.append, Reading.isSaturated, hx]

end Sys2Proof.Machine
end

section
/-! SUPPORT. The obligation on a measurement that is not answered (R56, R57). -/

namespace Sys2Proof.Machine

section
variable {s : State} {h : Head} {p : Fin 24} {r : LiveRecord}

theorem State.noted_banks (s : State) (h : Head) (uses : Bool) : (s.noted h uses).banks = s.banks :=
  congrArg Surroundings.banks (s.silenced_surroundings h)

theorem State.noted_lot (s : State) (h : Head) (uses : Bool) : (s.noted h uses).lot = s.lot := s.silenced_lot h

theorem State.noted_isCurrentLot (s : State) (h : Head) (uses : Bool) (n : Nat) :
    (s.noted h uses).isCurrentLot n = s.isCurrentLot n := by
  unfold State.isCurrentLot
  rw [State.noted_lot]

/-- A NO_REPLY that is an attempt alone (R87, R89, R92). -/
theorem State.silent_single {intended : Head} {openPair : Bool} (ha : s.SingleAttempt r h openPair intended)
    (hpart : r.kind = .part) {x : Reading} (hx : x = s.silentReading h (s.head h).forceDoubt) {t : State}
    (ht : t = (s.noted h true).judgePart p r openPair x) :
    t.faults = State.faultsAfterSubstitution { s with faults := s.faultsAfterNoReply h } intended h ∧
      t.lot =
        (if r.attempts + 1 ≤ s.banks.active.retestLimit ∧ s.isCurrentLot r.lot = true then s.lot.retestedOne
        else s.lot) ∧
      t.pocket p =
        .live
          { r with
            attempts := r.attempts + 1
            readings := r.readings ++ [x]
            flags := { r.flags with degraded := r.flags.degraded || decide (intended ≠ h) }
            phase :=
              if r.attempts + 1 ≤ s.banks.active.retestLimit then
                .pending (s.banks.active.retestsAt (r.attempts + 1) h) false
              else .purgePending .noResult } := by
  subst hx ht
  have hbanks := s.noted_banks h true
  have hnone : (s.silentReading h (s.head h).forceDoubt).verdict = none := rfl
  rw [ha.noted.judgePart p rfl, hnone]
  by_cases hlimit : r.attempts + 1 ≤ s.banks.active.retestLimit
  · rw [ha.noted.complete_retested rfl (by rw [hbanks]; exact hlimit) hpart, State.noted_faultsAfterSubstitution,
      LiveRecord.append_silent r rfl]
    refine ⟨rfl, ?_, ?_⟩
    · simp only [State.noted_lot, State.noted_isCurrentLot, hlimit, true_and]
    · rw [if_pos hlimit, hbanks]
      exact Vector.getElem_set_self _
  · rw [ha.noted.complete_noResult rfl (by rw [hbanks]; exact hlimit), State.noted_faultsAfterSubstitution,
      LiveRecord.append_silent r rfl]
    refine ⟨rfl, ?_, ?_⟩
    · rw [if_neg fun hc => hlimit hc.1]
      exact s.noted_lot h true
    · rw [if_neg hlimit]
      exact Vector.getElem_set_self _

end

/-- A NO_REPLY at A with B in service opens a pair (R85). -/
theorem State.silent_opens {s : State} {p : Fin 24} {r : LiveRecord} {openPair : Bool}
    (hmode : s.banks.active.mode = .confirm) (hb : s.inService .b = true) {x : Reading}
    (hx : x = s.silentReading .a (s.head .a).forceDoubt) {t : State}
    (ht : t = (s.noted .a true).judgePart p r openPair x) :
    t.faults = s.faultsAfterNoReply .a ∧ t.lot = s.lot ∧
      t.pocket p = .live { r with readings := r.readings ++ [x], phase := .pending .b true } := by
  subst hx ht
  have hmode' : (s.noted .a true).banks.active.mode = .confirm := by
    rw [State.noted_banks]
    exact hmode
  have hb' : (s.noted .a true).inService .b = true := (s.noted_inService_other .a true (by decide)).trans hb
  rw [State.judgePart_opens hmode' hb' rfl, LiveRecord.append_silent r rfl]
  refine ⟨s.silenced_faults .a, s.silenced_lot .a, ?_⟩
  rw [State.pocket_setLive, if_pos rfl]

/-- A NO_REPLY at B completes an open pair as a doubtful attempt (R86, R87). -/
theorem State.silent_pair {s : State} {p : Fin 24} {r : LiveRecord} (hmode : s.banks.active.mode = .confirm)
    (hread : r.readings ≠ []) (hpart : r.kind = .part) {x : Reading}
    (hx : x = s.silentReading .b (s.head .b).forceDoubt) {t : State}
    (ht : t = (s.noted .b true).judgePart p r true x) :
    t.faults = s.faultsAfterNoReply .b ∧
      t.lot =
        (if r.attempts + 1 ≤ s.banks.active.retestLimit ∧ s.isCurrentLot r.lot = true then s.lot.retestedOne
        else s.lot) ∧
      t.pocket p =
        .live
          { r with
            attempts := r.attempts + 1
            readings := r.readings ++ [x]
            phase :=
              if r.attempts + 1 ≤ s.banks.active.retestLimit then .pending .a false
              else .purgePending .noResult } := by
  subst hx ht
  have hbanks := s.noted_banks .b true
  have hmode' : (s.noted .b true).banks.active.mode = .confirm := by
    rw [hbanks]
    exact hmode
  obtain ⟨first, hfirst⟩ : ∃ first, r.readings.getLast? = some first :=
    ⟨_, List.getLast?_eq_some_getLast hread⟩
  have hnone : pairVerdict (s.noted .b true).banks.active.agreeLimit first
      (s.silentReading .b (s.head .b).forceDoubt) = none := by
    unfold pairVerdict
    cases first.doubtful <;> rfl
  rw [State.judgePart_pair hmode' rfl hfirst, hnone]
  by_cases hlimit : r.attempts + 1 ≤ s.banks.active.retestLimit
  · rw [State.completePair_retested hmode' (by rw [hbanks]; exact hlimit) hpart, LiveRecord.append_silent r rfl]
    refine ⟨s.silenced_faults .b, ?_, ?_⟩
    · simp only [State.noted_lot, State.noted_isCurrentLot, hlimit, true_and]
    · rw [if_pos hlimit]
      exact Vector.getElem_set_self _
  · rw [State.completePair_noResult (by rw [hbanks]; exact hlimit), LiveRecord.append_silent r rfl]
    refine ⟨s.silenced_faults .b, ?_, ?_⟩
    · rw [if_neg fun hc => hlimit hc.1]
      exact s.noted_lot .b true
    · rw [if_neg hlimit]
      exact Vector.getElem_set_self _

/-- Settles O25: what every NO_REPLY leaves is shown once; then the reading that is kept, by the kind of its record,
and the one that is discarded. -/
theorem noReply : Obligations.NoReply := by
  intro s h p range aperture sent hreset hq hrun
  have htimeout : s.responseTimeout h = (s.silenced h).handReading h p range none := by
    rw [← State.completeNoReply_eq]
    simp only [State.responseTimeout, hrun, hq, if_true]
  rw [exec_responseTimeout hreset, htimeout]
  have hall := s.handReading_unanswered h p range
  have haround := ((s.silenced h).surroundings_handReading h p range none).trans (s.silenced_surroundings h)
  have hkeeps (r : LiveRecord) (openPair : Bool) (hk : s.Keeps h p r openPair) : (s.silenced h).Keeps h p r openPair :=
    ⟨State.silenced_pocket_measuring hk.1 hk.2.1, hk.2⟩
  have hpart (r : LiveRecord) (openPair : Bool) (hk : s.Keeps h p r openPair) (hkind : r.kind = .part) :
      (s.silenced h).handReading h p range none =
        (s.noted h true).judgePart p r openPair (s.silentReading h (s.head h).forceDoubt) :=
    (State.handReading_kept (hkeeps r openPair hk) range none).trans (s.keepReading_silent_part h hkind openPair range)
  have hcheck (r : LiveRecord) (openPair : Bool) (hk : s.Keeps h p r openPair) (hkind : r.kind = .check) :
      (s.silenced h).handReading h p range none = (s.noted h false).judgeCheck p r (s.silentReading h false) :=
    (State.handReading_kept (hkeeps r openPair hk) range none).trans (s.keepReading_silent_check h hkind openPair range)
  have hmarked (r : LiveRecord) (openPair : Bool) (v : PurgeMark) (hr : s.pocket p = .live r)
      (hp : r.phase = .measuring h openPair (some v)) :
      (s.silenced h).handReading h p range none = (s.silenced h).setLive p (r.afterMark v) :=
    (State.handReading_marked (State.silenced_pocket_measuring hr hp) hp range none).trans
      (by rw [LiveRecord.purge_mark])
  have hrecalled (r : LiveRecord) (openPair : Bool) (hr : s.pocket p = .live r)
      (hp : r.phase = .measuring h openPair none) (hrec : r.flags.recallPending = true) :
      (s.silenced h).handReading h p range none = (s.silenced h).applyRecall p r h :=
    State.handReading_recalled (State.silenced_pocket_measuring hr hp) hp hrec range none
  generalize (s.silenced h).handReading h p range none = t at *
  have hdial : t.dial = (s.leaveBusy (.head h)).dial := State.dial_of_surroundings haround
  have hbusy (st : Station) : t.isBusy st = (s.leaveBusy (.head h)).isBusy st := State.isBusy_of_surroundings haround st
  have hheads (kept uses : Bool) (he : t.heads = s.heads.set h ((s.head h).afterNoReply kept uses)) (k : Head) :
      t.head k = if k = h then (s.head h).afterNoReply kept uses else s.head k := by
    unfold State.head
    rw [he, PerHead.get_set]
    rfl
  obtain ⟨kept, uses, hkept⟩ := hall.heads
  refine ⟨_, rfl, ⟨kept, uses, ?_⟩, fun hthird => ?_, ?_, ?_, fun st hst => ?_, fun q hq => ?_, ?_, ?_, ?_, ?_, ?_, ?_,
    State.endDwellTest_dial_of_aside (by rw [hdial]; rfl), fun r openPair x hk hkind hx => ?_,
    fun r openPair hk hkind => ?_, fun r openPair mark hr hp hwhy => ?_⟩
  · rw [State.endDwellTest_head, hheads kept uses hkept, if_pos rfl]
  · rw [State.flagSet_event _ (by decide) (by decide) (by decide), State.endDwellTest_faults]
    refine hall.events _ ?_
    rw [State.faultsAfterNoReply, if_pos hthird]
    show (s.faults.events ||| 0x400#19).getLsbD 10 = true
    rw [BitVec.getLsbD_or]
    simp
  · rw [State.endDwellTest_head, hheads kept uses hkept, if_neg (Head.other_ne h)]
  · rw [State.endDwellTest_isBusy, hbusy, State.isBusy_leaveBusy, if_pos rfl]
  · rw [State.endDwellTest_isBusy, hbusy, State.isBusy_leaveBusy, if_neg hst]
  · rw [State.endDwellTest_pocket, hall.pocket q hq, State.silenced_pocket]
  · rw [State.endDwellTest_feed]
    exact congrArg Surroundings.feed haround
  · rw [State.endDwellTest_gates]
    exact congrArg Surroundings.gates haround
  · rw [State.endDwellTest_banks]
    exact congrArg Surroundings.banks haround
  · rw [State.endDwellTest_link]
    exact congrArg Surroundings.link haround
  · rw [State.endDwellTest_forceClass, hall.forceClass]
  · rw [State.endDwellTest_lines]
    exact congrArg Surroundings.lines haround
  · have ht := hpart r openPair hk hkind
    have hmarks := State.Marks.judgePart (s.noted h true) p r openPair
      (x := s.silentReading h (s.head h).forceDoubt) rfl
    rw [← ht] at hmarks
    subst hx
    simp only [State.endDwellTest_head, State.endDwellTest_check, State.endDwellTest_faults, State.endDwellTest_lot,
      State.endDwellTest_pocket]
    refine ⟨?_, hmarks.check.trans (s.silenced_check h), fun intended ha => State.silent_single ha hkind rfl ht,
      fun hmode ha hb => ?_, fun hmode hb ho hread => ?_⟩
    · rw [hheads true true hmarks.heads, if_pos rfl]
    · subst ha
      exact State.silent_opens hmode hb rfl ht
    · subst hb ho
      exact State.silent_pair hmode hread hkind rfl ht
  · have ht := State.judgeCheck_judged (s := s.noted h false) (p := p) (x := s.silentReading h false) hkind
    rw [← hcheck r openPair hk hkind, State.checkDecision_silent] at ht
    simp only [State.endDwellTest_head, State.endDwellTest_check, State.endDwellTest_faults, State.endDwellTest_lot,
      State.endDwellTest_pocket]
    refine ⟨(ht.head h).trans ((s.noted_head h false h).trans (if_pos rfl)), ht.faults.trans (s.silenced_faults h),
      ht.lot.trans (s.silenced_lot h), ht.check.trans ?_, ht.record.trans ?_⟩
    · show ({ (s.silenced h).check with due := true } : CheckUnit) = _
      rw [State.silenced_check]
    · have hgoes : (h = .a ∧ (s.noted h false).inService .b = true ∧ ∀ y ∈ r.readings, y.head = .a) ↔
          h = .a ∧ s.inService .b = true ∧ ∀ y ∈ r.readings, y.head = .a :=
        and_congr_right fun ha => by rw [s.noted_inService_other h false (by rw [ha]; decide)]
      rw [LiveRecord.append_silent r rfl]
      simp only [show (s.silentReading h false).head = h from rfl, hgoes]
      rfl
  · simp only [State.endDwellTest_head, State.endDwellTest_check, State.endDwellTest_faults, State.endDwellTest_lot,
      State.endDwellTest_pocket]
    cases mark with
    | some v =>
      rw [hmarked r openPair v hr hp]
      refine ⟨(s.silenced_head h h).trans (if_pos rfl), s.silenced_faults h, s.silenced_check h, fun v' hv => ?_,
        fun hn => nomatch hn⟩
      obtain rfl := Option.some.inj hv
      exact ⟨by rw [State.pocket_setLive, if_pos rfl], s.silenced_lot h⟩
    | none =>
      have hrec : r.flags.recallPending = true := hwhy.resolve_left fun hn => hn rfl
      rw [hrecalled r openPair hr hp hrec, State.applyRecall_eq _ p hrec]
      refine ⟨(s.silenced_head h h).trans (if_pos rfl), s.silenced_faults h, s.silenced_check h,
        fun v hv => (nomatch hv), fun _ => ⟨?_, ?_⟩⟩
      · rw [State.silenced_inService]
        exact Vector.getElem_set_self _
      · show (s.silenced h).lotRecalled none r = _
        unfold State.lotRecalled State.isCurrentLot
        simp only [State.silenced_lot, hrec, true_and]

end Sys2Proof.Machine
end

section
/-! SUPPORT. The arrivals of a dwell do not interfere: what each station reads and what it changes (R2, log entry 20). -/

namespace Sys2Proof.Machine

/-! ### Where the stations stand, and what no arrival before EC changes -/

def Station.offset : Station → Nat
  | .load => 0
  | .head h => Config.offsetHead h
  | .eject c => Config.offsetChute c

/-- The pocket that stands at the station (R2). -/
def State.stands (s : State) (st : Station) : Fin 24 := s.pocketAt st.offset

/-- The offsets follow the order of the busy set (R2, R3). -/
theorem Station.offset_eq (st : Station) :
    st.offset =
      if st.index.val = 0 then 0 else if st.index.val = 1 then 3 else if st.index.val = 2 then 5
      else st.index.val + 5 := by
  rcases st with _ | (_ | _) | (g | _ | _)
  · rfl
  · rfl
  · rfl
  · have hindex : (Station.eject (.gate g)).index.val = 3 + g.val := rfl
    rw [hindex, if_neg (by omega), if_neg (by omega), if_neg (by omega)]
    show 8 + g.val = _
    omega
  · rfl
  · rfl

theorem Station.offset_lt (st : Station) : st.offset < 22 := by
  have hindex := st.index.isLt
  rw [st.offset_eq]
  split_ifs <;> omega

theorem Station.offset_injective {x y : Station} (h : x.offset = y.offset) : x = y := by
  rw [x.offset_eq, y.offset_eq] at h
  refine Station.index_injective (Fin.ext ?_)
  split_ifs at h <;> omega

theorem State.pocketAt_injective (s : State) {j k : Nat} (hj : j < 24) (hk : k < 24) (h : s.pocketAt j = s.pocketAt k) :
    j = k := by
  have hp := s.dial.position.isLt
  have he := congrArg Fin.val h
  simp only [State.pocketAt] at he
  omega

theorem State.stands_ne (s : State) {x y : Station} (h : x ≠ y) : s.stands x ≠ s.stands y := by
  have hx := x.offset_lt
  have hy := y.offset_lt
  exact fun he => h (Station.offset_injective (s.pocketAt_injective (by omega) (by omega) he))

/-- What the arrivals read besides their own pocket and block, and none of them but EC's changes. -/
structure Setting where
  dial : Dial
  inService : Head → Bool
  bins : Vector Bin 12
  purgeMisses : Nat
  settings : GateSettings
  banks : Banks
  check : CheckUnit
  forceClass : Option (Fin 12)
  lotState : LotState
  lotNumber : Nat
  link : Link
  lines : Lines
  pending : List Instr

def State.setting (s : State) : Setting where
  dial := s.dial.aside
  inService := s.inService
  bins := s.gates.bins
  purgeMisses := s.gates.purgeMisses
  settings := s.gates.settings
  banks := s.banks
  check := s.check
  forceClass := s.forceClass
  lotState := s.lot.state
  lotNumber := s.lot.number
  link := s.link
  lines := s.lines
  pending := s.pending

/-! ### What an arrival may change -/

/-- From `s` to `t` station `st` has acted on its own pocket and its own block only. -/
structure State.ActsAt (s : State) (st : Station) (t : State) : Prop where
  setting : t.setting = s.setting
  record : ∀ q, q ≠ s.stands st → t.pocket q = s.pocket q
  live : ∀ q, (t.pocket q).isLive = (s.pocket q).isLive
  feed : t.feed = s.feed ∨ st = .load ∧ s.lot.state = .open_
  head : ∀ k, st ≠ .head k → t.head k = s.head k
  ejector : ∀ c, st ≠ .eject c → t.ejector c = s.ejector c
  busy : ∀ x, x ≠ st → t.isBusy x = s.isBusy x
  reports : st ≠ .eject .checkReturn → t.faults = s.faults ∧ t.lot = s.lot

namespace State.ActsAt

variable {s : State} {st : Station}

theorem refl : s.ActsAt st s :=
  ⟨rfl, fun _ _ => rfl, fun _ => rfl, .inl rfl, fun _ _ => rfl, fun _ _ => rfl, fun _ _ => rfl, fun _ => ⟨rfl, rfl⟩⟩

theorem setLive {t : State} (h : s.ActsAt st t) {r : LiveRecord} (hr : s.pocket (s.stands st) = .live r) (x : LiveRecord) :
    s.ActsAt st (t.setLive (s.stands st) x) where
  setting := h.setting
  record q hq := by rw [State.pocket_setLive, if_neg hq, h.record q hq]
  live q := by
    rw [State.pocket_setLive]
    split
    next hq => rw [hq, hr]; rfl
    next => exact h.live q
  feed := h.feed
  head := h.head
  ejector := h.ejector
  busy := h.busy
  reports := h.reports

theorem joinBusy_ne (s : State) {st : Station} {x : Station} (hx : x ≠ st) : (s.joinBusy st).isBusy x = s.isBusy x := by
  rw [State.isBusy_joinBusy, if_neg hx]

theorem beginFeed (hlot : s.lot.state = .open_) (p : Fin 24) : s.ActsAt .load (s.beginFeed p) where
  setting := rfl
  record _ _ := rfl
  live _ := rfl
  feed := .inr ⟨rfl, hlot⟩
  head _ _ := rfl
  ejector _ _ := rfl
  busy _ hx := (joinBusy_ne _ hx).trans rfl
  reports _ := ⟨rfl, rfl⟩

theorem fireEjector (c : Chute) (p : Fin 24) (sweep : Bool) : s.ActsAt (.eject c) (s.fireEjector c p sweep) where
  setting := rfl
  record _ _ := rfl
  live _ := rfl
  feed := .inl rfl
  head _ _ := rfl
  ejector c' hc := by
    unfold State.fireEjector
    rw [State.joinBusy_ejector, State.ejector_onEjector, if_neg fun e => hc (congrArg _ e.symm)]
  busy x hx := (joinBusy_ne _ hx).trans rfl
  reports _ := ⟨rfl, rfl⟩

theorem passUnsorted (r : LiveRecord) : s.ActsAt (.eject .checkReturn) (s.passUnsorted r) := by
  rw [State.passUnsorted_eq]
  refine ⟨?_, fun _ _ => rfl, fun _ => rfl, .inl rfl, fun _ _ => rfl, fun _ _ => rfl, fun _ _ => rfl,
    fun h => absurd rfl h⟩
  simp only [State.setting]
  split <;> rfl

theorem takesRequest {h : Head} {f : HeadUnit → HeadUnit}
    (hf : (f (s.head h)).state.inService = (s.head h).state.inService) :
    s.ActsAt (.head h) ((s.onHead h f).joinBusy (.head h)) := by
  refine ⟨?_, fun _ _ => rfl, fun _ => rfl, .inl rfl, fun k hk => ?_, fun _ _ => rfl, fun x hx => ?_,
    fun _ => ⟨rfl, rfl⟩⟩
  · have hin : ((s.onHead h f).joinBusy (.head h)).inService = s.inService := by
      funext k
      unfold State.inService
      rw [State.joinBusy_head, State.head_onHead]
      split
      next hk => rw [hk, hf]
      next => rfl
    unfold State.setting
    rw [hin]
    rfl
  · rw [State.joinBusy_head, State.head_onHead, if_neg fun e => hk (congrArg _ e.symm)]
  · exact (joinBusy_ne _ hx).trans rfl

theorem beginMeasurement {h : Head} {r : LiveRecord} (hready : (s.head h).state = .ready)
    (hr : s.pocket (s.stands (.head h)) = .live r) (openPair : Bool) :
    s.ActsAt (.head h) (s.beginMeasurement h (s.stands (.head h)) r openPair) :=
  (takesRequest (by rw [hready]; rfl)).setLive hr _

/-! #### By station -/

theorem arriveLoad (s : State) : s.ActsAt .load s.arriveLoad := by
  unfold State.arriveLoad
  dsimp only
  split
  next =>
    split
    next hopen => exact .beginFeed (by simpa using (Bool.and_eq_true_iff.mp hopen).1) _
    next => exact .refl
  next => exact .refl
  next r hr =>
    split
    next => exact refl.setLive hr _
    next => exact refl.setLive hr _
    next => exact refl.setLive hr _
    all_goals exact .refl

theorem arriveHead (s : State) (h : Head) : s.ActsAt (.head h) (s.arriveHead h) := by
  unfold State.arriveHead
  dsimp only
  split
  next r hr =>
    split
    next =>
      split
      · split
        next hready => exact beginMeasurement hready hr _
        next => exact .refl
        next =>
          split
          · exact refl.setLive hr _
          · exact .refl
      · exact .refl
    next => exact .refl
  next => exact .refl

theorem arriveGate (s : State) (g : Fin 12) : s.ActsAt (.eject (.gate g)) (s.arriveGate g) := by
  unfold State.arriveGate
  dsimp only
  split
  next r hr =>
    split
    next =>
      split
      next =>
        split
        · exact (fireEjector _ _ _).setLive hr _
        · exact .refl
      next => exact .refl
    next => exact .refl
  next => exact .refl

theorem arriveCheckReturn (s : State) : s.ActsAt (.eject .checkReturn) s.arriveCheckReturn := by
  unfold State.arriveCheckReturn
  dsimp only
  split
  next r hr =>
    split
    next => exact (fireEjector _ _ _).setLive hr _
    next => exact .passUnsorted r
    next => exact .refl
  next => exact .refl

theorem arrivePurge (s : State) : s.ActsAt (.eject .purge) s.arrivePurge := by
  unfold State.arrivePurge
  dsimp only
  split
  next => exact fireEjector _ _ _
  next => exact .refl
  next r hr =>
    split
    next => exact (fireEjector _ _ _).setLive hr _
    next => exact .refl

theorem ownArrival (s : State) (st : Station) : s.ActsAt st (s.ownArrival st) := by
  unfold State.ownArrival
  split
  · exact .refl
  · split
    · exact arriveLoad s
    · exact arriveHead s _
    · exact arriveGate s _
    · exact arriveCheckReturn s
    · exact arrivePurge s

end State.ActsAt

end Sys2Proof.Machine
end

section
/-! SUPPORT. The arrivals of a dwell do not interfere: a station acts alike in states that it cannot tell apart (R2). -/

namespace Sys2Proof.Machine

/-- The two states are the same to the station: its pocket, its place in the busy set, its block, and the setting. -/
structure State.SameAt (s t : State) (st : Station) : Prop where
  setting : t.setting = s.setting
  record : t.pocket (s.stands st) = s.pocket (s.stands st)
  busy : t.isBusy st = s.isBusy st
  feed : st = .load → t.feed = s.feed
  head : ∀ k, st = .head k → t.head k = s.head k
  ejector : ∀ c, st = .eject c → t.ejector c = s.ejector c
  reports : st = .eject .checkReturn → t.faults = s.faults ∧ t.lot = s.lot

section
variable {s t u : State} {st : Station}

theorem State.pocketAt_of_setting (h : t.setting = s.setting) (k : Nat) : t.pocketAt k = s.pocketAt k := by
  have hposition : t.dial.position = s.dial.position := Dial.position_of_aside (congrArg Setting.dial h)
  simp only [State.pocketAt, hposition]

theorem State.stands_of_setting (h : t.setting = s.setting) (st : Station) : t.stands st = s.stands st :=
  State.pocketAt_of_setting h _

theorem State.inService_of_setting (h : t.setting = s.setting) : t.inService = s.inService := congrArg Setting.inService h

theorem State.bin_of_setting (h : t.setting = s.setting) (g : Fin 12) : t.bin g = s.bin g :=
  congrArg (fun x : Setting => x.bins[g.val]) h

theorem State.isCurrentLot_of_setting (h : t.setting = s.setting) (n : Nat) : t.isCurrentLot n = s.isCurrentLot n := by
  unfold State.isCurrentLot
  rw [show t.lot.state = s.lot.state from congrArg Setting.lotState h,
    show t.lot.number = s.lot.number from congrArg Setting.lotNumber h]

theorem State.noHead_of_setting (h : t.setting = s.setting) : t.noHead = s.noHead := by
  unfold State.noHead
  rw [State.inService_of_setting h, show t.lot.state = s.lot.state from congrArg Setting.lotState h]

namespace State.SameAt

theorem refl : s.SameAt s st := ⟨rfl, rfl, rfl, fun _ => rfl, fun _ _ => rfl, fun _ _ => rfl, fun _ => ⟨rfl, rfl⟩⟩

theorem trans (h : s.SameAt t st) (h' : t.SameAt u st) : s.SameAt u st where
  setting := h'.setting.trans h.setting
  record := by
    have hr := h'.record
    rw [State.stands_of_setting h.setting] at hr
    exact hr.trans h.record
  busy := h'.busy.trans h.busy
  feed e := (h'.feed e).trans (h.feed e)
  head k e := (h'.head k e).trans (h.head k e)
  ejector c e := (h'.ejector c e).trans (h.ejector c e)
  reports e := ⟨(h'.reports e).1.trans (h.reports e).1, (h'.reports e).2.trans (h.reports e).2⟩

/-- What another station has done is nothing to this one. -/
theorem of_actsAt {x : Station} (h : s.ActsAt x t) (hx : st ≠ x) : s.SameAt t st where
  setting := h.setting
  record := h.record _ (s.stands_ne hx)
  busy := h.busy st hx
  feed e := h.feed.resolve_right fun hl => hx (e.trans hl.1.symm)
  head k e := h.head k fun hk => hx (e.trans hk.symm)
  ejector c e := h.ejector c fun hc => hx (e.trans hc.symm)
  reports e := h.reports fun hc => hx (e.trans hc.symm)

variable (h : s.SameAt t st)
include h

theorem standing : t.pocket (t.stands st) = s.pocket (s.stands st) := by
  rw [State.stands_of_setting h.setting, h.record]

theorem setLive (x : LiveRecord) : (s.setLive (s.stands st) x).SameAt (t.setLive (t.stands st) x) st where
  setting := h.setting
  record := by
    show (t.setLive (t.stands st) x).pocket (s.stands st) = (s.setLive (s.stands st) x).pocket (s.stands st)
    rw [State.stands_of_setting h.setting, State.pocket_setLive, State.pocket_setLive]
    simp
  busy := h.busy
  feed := h.feed
  head := h.head
  ejector := h.ejector
  reports := h.reports

end State.SameAt

namespace State.SameAt

theorem beginFeed (h : s.SameAt t .load) : (s.beginFeed (s.stands .load)).SameAt (t.beginFeed (t.stands .load)) .load where
  setting := h.setting
  record := h.record
  busy := by
    unfold State.beginFeed
    rw [State.isBusy_joinBusy, State.isBusy_joinBusy, if_pos rfl, if_pos rfl]
  feed _ := by
    have hcheck : t.check = s.check := congrArg Setting.check h.setting
    have hnumber : t.lot.number = s.lot.number := congrArg Setting.lotNumber h.setting
    unfold State.beginFeed
    rw [State.joinBusy_feed, State.joinBusy_feed, State.onFeed_feed, State.onFeed_feed, h.feed rfl, hcheck, hnumber,
      State.stands_of_setting h.setting]
  head _ e := nomatch e
  ejector _ e := nomatch e
  reports e := nomatch e

theorem takesRequest {k : Head} (h : s.SameAt t (.head k)) {f f' : HeadUnit → HeadUnit}
    (hf : f' (t.head k) = f (s.head k)) (hin : (f (s.head k)).state.inService = (s.head k).state.inService) :
    ((s.onHead k f).joinBusy (.head k)).SameAt ((t.onHead k f').joinBusy (.head k)) (.head k) where
  setting := by
    have hin' : (f' (t.head k)).state.inService = (t.head k).state.inService := by
      rw [hf, hin, h.head k rfl]
    rw [(State.ActsAt.takesRequest hin').setting, (State.ActsAt.takesRequest hin).setting, h.setting]
  record := h.record
  busy := by
    rw [State.isBusy_joinBusy, State.isBusy_joinBusy, if_pos rfl, if_pos rfl]
  feed e := nomatch e
  head k' e := by
    obtain rfl := Station.head.inj e
    rw [State.joinBusy_head, State.joinBusy_head, State.head_onHead, State.head_onHead, if_pos rfl, if_pos rfl, hf]
  ejector _ e := nomatch e
  reports e := nomatch e

theorem fireEjector {c : Chute} (h : s.SameAt t (.eject c)) (sweep : Bool) :
    (s.fireEjector c (s.stands (.eject c)) sweep).SameAt (t.fireEjector c (t.stands (.eject c)) sweep) (.eject c) where
  setting := h.setting
  record := h.record
  busy := by
    unfold State.fireEjector
    rw [State.isBusy_joinBusy, State.isBusy_joinBusy, if_pos rfl, if_pos rfl]
  feed e := nomatch e
  head _ e := nomatch e
  ejector c' e := by
    obtain rfl := Station.eject.inj e
    have hsettings : t.gates.settings = s.gates.settings := congrArg Setting.settings h.setting
    unfold State.fireEjector
    rw [State.joinBusy_ejector, State.joinBusy_ejector, State.ejector_onEjector, State.ejector_onEjector, if_pos rfl,
      if_pos rfl, h.ejector c rfl, hsettings, State.stands_of_setting h.setting]
  reports e := h.reports e

theorem passUnsorted (h : s.SameAt t (.eject .checkReturn)) (r : LiveRecord) :
    (s.passUnsorted r).SameAt (t.passUnsorted r) (.eject .checkReturn) := by
  obtain ⟨hfaults, hlot⟩ := h.reports rfl
  have hs := (State.ActsAt.passUnsorted (s := s) r).setting
  have ht := (State.ActsAt.passUnsorted (s := t) r).setting
  refine ⟨by rw [hs, ht, h.setting], ?_, ?_, (fun e => nomatch e), (fun _ e => nomatch e), ?_, fun _ => ?_⟩
  all_goals rw [State.passUnsorted_eq, State.passUnsorted_eq]
  · exact h.record
  · exact h.busy
  · exact h.ejector
  · rw [hfaults, hlot, State.isCurrentLot_of_setting h.setting]
    exact ⟨rfl, rfl⟩

/-! #### By station -/

theorem arriveLoad (h : s.SameAt t .load) : s.arriveLoad.SameAt t.arriveLoad .load := by
  have hrec : t.pocket (t.pocketAt Config.offsetLoad) = s.pocket (s.pocketAt Config.offsetLoad) := h.standing
  have hbanks : t.banks = s.banks := congrArg Setting.banks h.setting
  have hlot : t.lot.state = s.lot.state := congrArg Setting.lotState h.setting
  unfold State.arriveLoad
  dsimp only
  rw [hrec, hbanks, hlot, State.noHead_of_setting h.setting]
  cases s.pocket (s.pocketAt Config.offsetLoad) with
  | empty =>
    dsimp only
    split
    · exact h.beginFeed
    · exact h
  | unknown => exact h
  | live r =>
    dsimp only
    split
    next => exact h.setLive _
    next => exact h.setLive _
    next => exact h.setLive _
    all_goals exact h

theorem arriveHead {k : Head} (h : s.SameAt t (.head k)) : (s.arriveHead k).SameAt (t.arriveHead k) (.head k) := by
  have hrec : t.pocket (t.pocketAt (Config.offsetHead k)) = s.pocket (s.pocketAt (Config.offsetHead k)) := h.standing
  have hbanks : t.banks = s.banks := congrArg Setting.banks h.setting
  have hin := State.inService_of_setting h.setting
  have htest : t.checkDoneTest = s.checkDoneTest := State.checkDoneTest_congr fun k => by rw [hin]
  unfold State.arriveHead
  dsimp only
  rw [hrec, h.head k rfl, hin, htest]
  cases s.pocket (s.pocketAt (Config.offsetHead k)) with
  | empty => exact h
  | unknown => exact h
  | live r =>
    dsimp only
    split
    next =>
      split
      · split
        next hready =>
          refine State.SameAt.setLive (takesRequest h ?_ ?_) _
          · rw [h.head k rfl, hbanks, State.pocketAt_of_setting h.setting]
          · rw [hready]
            rfl
        next => exact h
        next =>
          split
          · exact h.setLive _
          · exact h
      · exact h
    next => exact h

theorem arriveGate {g : Fin 12} (h : s.SameAt t (.eject (.gate g))) :
    (s.arriveGate g).SameAt (t.arriveGate g) (.eject (.gate g)) := by
  have hrec : t.pocket (t.pocketAt (Config.offsetChute (.gate g))) =
      s.pocket (s.pocketAt (Config.offsetChute (.gate g))) := h.standing
  have hbanks : t.banks = s.banks := congrArg Setting.banks h.setting
  have hroutes (c : ClassDef) : t.routes g c = s.routes g c := by
    unfold State.routes
    rw [State.bin_of_setting h.setting, State.bin_of_setting h.setting]
  unfold State.arriveGate
  dsimp only
  rw [hrec, hbanks]
  cases s.pocket (s.pocketAt (Config.offsetChute (.gate g))) with
  | empty => exact h
  | unknown => exact h
  | live r =>
    dsimp only
    split
    next =>
      split
      next c hc =>
        rw [hroutes]
        split
        · exact (h.fireEjector false).setLive _
        · exact h
      next => exact h
    next => exact h

theorem arriveCheckReturn (h : s.SameAt t (.eject .checkReturn)) :
    s.arriveCheckReturn.SameAt t.arriveCheckReturn (.eject .checkReturn) := by
  have hrec : t.pocket (t.pocketAt (Config.offsetChute .checkReturn)) =
      s.pocket (s.pocketAt (Config.offsetChute .checkReturn)) := h.standing
  unfold State.arriveCheckReturn
  dsimp only
  rw [hrec]
  cases s.pocket (s.pocketAt (Config.offsetChute .checkReturn)) with
  | empty => exact h
  | unknown => exact h
  | live r =>
    dsimp only
    split
    next => exact (h.fireEjector false).setLive _
    next => exact h.passUnsorted r
    next => exact h

theorem arrivePurge (h : s.SameAt t (.eject .purge)) : s.arrivePurge.SameAt t.arrivePurge (.eject .purge) := by
  have hrec : t.pocket (t.pocketAt (Config.offsetChute .purge)) = s.pocket (s.pocketAt (Config.offsetChute .purge)) :=
    h.standing
  unfold State.arrivePurge
  dsimp only
  rw [hrec]
  cases s.pocket (s.pocketAt (Config.offsetChute .purge)) with
  | empty => exact h
  | unknown => exact h.fireEjector true
  | live r =>
    dsimp only
    split
    next => exact (h.fireEjector false).setLive _
    next => exact h

theorem ownArrival (h : s.SameAt t st) : (s.ownArrival st).SameAt (t.ownArrival st) st := by
  unfold State.ownArrival
  rw [h.busy]
  split
  · exact h
  · split
    · exact h.arriveLoad
    · exact h.arriveHead
    · exact h.arriveGate
    · exact h.arriveCheckReturn
    · exact h.arrivePurge

end State.SameAt

end

end Sys2Proof.Machine
end

section
/-! SUPPORT. The stations act one after another: each as it would act alone (R2, log entry 20). -/

namespace Sys2Proof.Machine

/-- The stations in the order of their arrivals (R2). -/
def Station.inOrder : List Station :=
  [.load, .head .a, .head .b] ++ (List.finRange 12).map (fun g => .eject (.gate g)) ++
    [.eject .checkReturn, .eject .purge]

theorem Station.inOrder_nodup : Station.inOrder.Nodup := by decide

theorem Station.mem_inOrder (st : Station) : st ∈ Station.inOrder := by
  rcases st with _ | (_ | _) | (g | _ | _) <;> simp [Station.inOrder]

/-- The arrivals are those of the stations, in order, and EC's. -/
theorem State.arrivals_eq (s : State) (sensed : Bool) :
    s.arrivals sensed = (Station.inOrder.foldl State.ownArrival s).arriveEmptyCheck sensed := by
  unfold State.arrivals State.arriveGates
  simp only [State.deliver_load, State.deliver_head, State.deliver_gate, State.deliver_checkReturn,
    State.deliver_purge, Station.inOrder, List.foldl_append, List.foldl_map, List.foldl_cons, List.foldl_nil]

/-- In `u` the stations of `L` have acted, each as it would have acted alone in `s`, and the others have not. -/
structure State.ActedIn (s : State) (L : List Station) (u : State) : Prop where
  setting : u.setting = s.setting
  acted : ∀ st ∈ L, (s.ownArrival st).SameAt u st
  waiting : ∀ st, st ∉ L → s.SameAt u st
  elsewhere : ∀ q, (∀ st, q ≠ s.stands st) → u.pocket q = s.pocket q
  live : ∀ q, (u.pocket q).isLive = (s.pocket q).isLive
  feed : s.lot.state ≠ .open_ → u.feed = s.feed

namespace State.ActedIn

variable {s u : State} {L : List Station}

theorem none (s : State) : s.ActedIn [] s :=
  ⟨rfl, (fun _ h => nomatch h), fun _ _ => .refl, fun _ _ => rfl, fun _ => rfl, fun _ => rfl⟩

theorem next (h : s.ActedIn L u) {st : Station} (hst : st ∉ L) : s.ActedIn (L ++ [st]) (u.ownArrival st) := by
  have hact := State.ActsAt.ownArrival u st
  have hlot : u.lot.state = s.lot.state := congrArg Setting.lotState h.setting
  refine ⟨hact.setting.trans h.setting, fun x hx => ?_, fun x hx => ?_, fun q hq => ?_,
    fun q => (hact.live q).trans (h.live q), fun ho => ?_⟩
  · rcases List.mem_append.mp hx with hx | hx
    · exact (h.acted x hx).trans (.of_actsAt hact fun e => hst (e ▸ hx))
    · obtain rfl := List.mem_singleton.mp hx
      exact (h.waiting x hst).ownArrival
  · obtain ⟨hL, hne⟩ := not_or.mp fun e => hx (List.mem_append.mpr e)
    exact (h.waiting x hL).trans (.of_actsAt hact fun e => hne (List.mem_singleton.mpr e))
  · rw [hact.record q (by rw [State.stands_of_setting h.setting]; exact hq st), h.elsewhere q hq]
  · rcases hact.feed with hf | ⟨-, hopen⟩
    · exact hf.trans (h.feed ho)
    · exact absurd (hlot.symm.trans hopen) ho

theorem foldl (M : List Station) : ∀ {L : List Station} {u : State}, s.ActedIn L u → (L ++ M).Nodup →
    s.ActedIn (L ++ M) (M.foldl State.ownArrival u) := by
  induction M with
  | nil =>
    intro L u h _
    rwa [List.append_nil]
  | cons st M ih =>
    intro L u h hn
    have hst : st ∉ L := fun hL => List.disjoint_of_nodup_append hn hL (List.mem_cons_self ..)
    rw [List.append_cons] at hn ⊢
    exact ih (h.next hst) hn

theorem inOrder (s : State) : s.ActedIn Station.inOrder (Station.inOrder.foldl State.ownArrival s) :=
  foldl (L := []) Station.inOrder (none s) Station.inOrder_nodup

end State.ActedIn

/-! ### What CR reports -/

/-- CR raises a flag, notes classes as passed unsorted and counts in the lot, and reports nothing else (R111). -/
structure State.ReportsUnsorted (s t : State) : Prop where
  faults : t.faults = { s.faults with events := t.faults.events, unsortedClasses := t.faults.unsortedClasses }
  events : t.faults.events ||| s.faults.events = t.faults.events
  lot : t.lot = { s.lot with
    counters := { s.lot.counters with passedUnsorted := t.lot.counters.passedUnsorted } }

theorem State.ReportsUnsorted.of_same {s t : State} (hf : t.faults = s.faults) (hl : t.lot = s.lot) :
    s.ReportsUnsorted t :=
  ⟨by rw [hf], by rw [hf, BitVec.or_self], by rw [hl]⟩

theorem State.ReportsUnsorted.passUnsorted (s : State) (r : LiveRecord) : s.ReportsUnsorted (s.passUnsorted r) := by
  rw [State.passUnsorted_eq]
  refine ⟨rfl, ?_, ?_⟩
  · show s.faults.events ||| 0x20000#19 ||| s.faults.events = s.faults.events ||| 0x20000#19
    rw [BitVec.or_comm, ← BitVec.or_assoc, BitVec.or_self]
  · dsimp only
    split <;> rfl

theorem State.ReportsUnsorted.ownArrival (s : State) : s.ReportsUnsorted (s.ownArrival (.eject .checkReturn)) := by
  unfold State.ownArrival
  split
  · exact .of_same rfl rfl
  · show s.ReportsUnsorted s.arriveCheckReturn
    unfold State.arriveCheckReturn
    dsimp only
    split
    · split
      · exact .of_same rfl rfl
      · exact .passUnsorted s _
      · exact .of_same rfl rfl
    · exact .of_same rfl rfl

/-! ### The empty check after the other arrivals -/

/-- EC has done in `t`, from `u`, what it has done in `e`, from `s`, to the pocket `p`. -/
structure State.Mirrors (s u : State) (p : Fin 24) (e t : State) : Prop where
  record : t.pocket p = e.pocket p
  others : ∀ q, q ≠ p → t.pocket q = u.pocket q
  live : ∀ q, (t.pocket q).isLive = (e.pocket q).isLive
  blocks : t = { u with pockets := t.pockets, lot := t.lot, faults := t.faults }
  feed : e.feed = s.feed
  faults : t.faults = { u.faults with
    events := u.faults.events ||| e.faults.events, pocketCapture := e.faults.pocketCapture }
  lot : t.lot = { u.lot with
    state := e.lot.state, counters := { u.lot.counters with lost := e.lot.counters.lost } }
  current : e.isCurrentLot = t.isCurrentLot

namespace State.Mirrors

variable {s u e t : State} {p : Fin 24}

theorem setPocket (h : s.Mirrors u p e t) (r : PocketRecord) : s.Mirrors u p (e.setPocket p r) (t.setPocket p r) where
  record := by rw [State.pocket_setPocket, State.pocket_setPocket, if_pos rfl, if_pos rfl]
  others q hq := by rw [State.pocket_setPocket, if_neg hq, h.others q hq]
  live q := by
    rw [State.pocket_setPocket, State.pocket_setPocket]
    split
    · rfl
    · exact h.live q
  blocks := by
    conv_lhs => rw [h.blocks]
    rfl
  feed := h.feed
  faults := h.faults
  lot := h.lot
  current := h.current

theorem raisePocket (h : s.Mirrors u p e t) (c : PocketCapture) : s.Mirrors u p (e.raisePocket c) (t.raisePocket c) where
  record := h.record
  others := h.others
  live := h.live
  blocks := by
    conv_lhs => rw [h.blocks]
    rfl
  feed := h.feed
  faults := by
    show { t.faults with
        events := t.faults.events ||| c.kind.flag.bit
        pocketCapture := takePocketOffer t.faults.pocketCapture c } =
      { u.faults with
        events := u.faults.events ||| (e.faults.events ||| c.kind.flag.bit)
        pocketCapture := takePocketOffer e.faults.pocketCapture c }
    rw [h.faults, BitVec.or_assoc]
  lot := h.lot
  current := h.current

theorem countLost (h : s.Mirrors u p e t) (r : LiveRecord) :
    s.Mirrors u p (e.reportPart r fun c => { c with lost := count32 c.lost })
      (t.reportPart r fun c => { c with lost := count32 c.lost }) := by
  rw [State.reportPart_eq, State.reportPart_eq, h.current]
  split
  · exact {
      record := h.record
      others := h.others
      live := h.live
      blocks := by
        conv_lhs => rw [h.blocks]
      feed := h.feed
      faults := h.faults
      lot := by
        show { t.lot with counters := { t.lot.counters with lost := count32 t.lot.counters.lost } } =
          { u.lot with
            state := e.lot.state
            counters := { u.lot.counters with lost := count32 e.lot.counters.lost } }
        rw [h.lot]
      current := h.current }
  · exact h

theorem drainTest (h : s.Mirrors u p e t) (hfeed : s.lot.state ≠ .open_ → u.feed = s.feed)
    (hstate : e.lot.state = s.lot.state) : s.Mirrors u p e.drainTest t.drainTest := by
  have hlot : t.lot.state = e.lot.state := (congrArg Lot.state h.lot).trans rfl
  have hfeed' : e.lot.state = .draining → t.feed = e.feed := fun hd => by
    have hu : t.feed = u.feed := (congrArg State.feed h.blocks).trans rfl
    rw [hu, h.feed, hfeed (by rw [← hstate, hd]; decide)]
  have hdrained : (t.lot.state = .draining ∧ t.feed.inFlight = none ∧ ∀ q, (t.pocket q).isLive = false) ↔
      (e.lot.state = .draining ∧ e.feed.inFlight = none ∧ ∀ q, (e.pocket q).isLive = false) := by
    rw [hlot]
    refine and_congr_right fun hd => ?_
    rw [hfeed' hd]
    simp only [h.live]
  rw [State.drainTest_eq e, State.drainTest_eq t]
  simp only [hdrained]
  split
  · exact {
      record := h.record
      others := h.others
      live := h.live
      blocks := by
        conv_lhs => rw [h.blocks]
      feed := h.feed
      faults := h.faults
      lot := by
        show { t.lot with state := .noLot } =
          { u.lot with state := .noLot, counters := { u.lot.counters with lost := e.lot.counters.lost } }
        rw [h.lot]
      current := rfl }
  · exact h

theorem strayPart (h : s.Mirrors u p e t) : s.Mirrors u p (e.strayPart p) (t.strayPart p) :=
  (h.raisePocket _).setPocket _

theorem lostPart (h : s.Mirrors u p e t) (r : LiveRecord) : s.Mirrors u p (e.lostPart p r) (t.lostPart p r) :=
  ((h.raisePocket _).setPocket _).countLost r

theorem arriveEmptyCheck (h : s.Mirrors u p s u) (hfeed : s.lot.state ≠ .open_ → u.feed = s.feed)
    (hs : s.pocketAt Config.offsetEmptyCheck = p) (hu : u.pocketAt Config.offsetEmptyCheck = p) (sensed : Bool) :
    s.Mirrors u p (s.arriveEmptyCheck sensed) (u.arriveEmptyCheck sensed) := by
  have hlost (r : LiveRecord) : s.Mirrors u p (s.lostPart p r).drainTest (u.lostPart p r).drainTest :=
    (h.lostPart r).drainTest hfeed (by rw [State.lostPart_eq]; dsimp only; split <;> rfl)
  unfold State.arriveEmptyCheck
  dsimp only
  rw [hs, hu, h.record]
  cases s.pocket p with
  | empty =>
    cases sensed with
    | true => exact h.strayPart.drainTest hfeed rfl
    | false => exact h
  | unknown =>
    cases sensed with
    | true => exact h
    | false => exact (h.setPocket .empty).drainTest hfeed rfl
  | live r =>
    cases sensed with
    | true => exact h
    | false =>
      dsimp only
      split
      next => exact h
      next => exact h
      all_goals exact hlost r

end State.Mirrors

end Sys2Proof.Machine
end

section
/-! Every station acts at its own offset and on its own block (O9). -/

namespace Sys2Proof.Machine

/-- Where no station stands, none acts (R2). -/
theorem State.not_stands {s : State} {k : Nat} (hk : k < 24) (hn : ∀ st : Station, st.offset ≠ k) {q : Fin 24}
    (hq : s.offsetOf q = k) (st : Station) : q ≠ s.stands st := fun he =>
  hn st (s.pocketAt_injective (lt_trans st.offset_lt (by decide)) hk
    (by rw [State.pocketAt_of_offsetOf hk hq, he]; rfl))

theorem Station.offset_ne {k : Nat} (hk : k ∈ [1, 2, 4, 6, 7, 22, 23]) (st : Station) : st.offset ≠ k := by
  have hindex := st.index.isLt
  rw [st.offset_eq]
  simp only [List.mem_cons, List.not_mem_nil, or_false] at hk
  split_ifs <;> omega

/-- The pocket at the station's offset is the one its own arrival acts on. -/
theorem State.ownArrival_stands (s : State) {st : Station} {q : Fin 24} (hq : s.offsetOf q = st.offset) :
    (s.ownArrival st).stands st = q := by
  have hoffset := st.offset_lt
  rw [State.stands_of_setting (State.ActsAt.ownArrival s st).setting]
  exact State.pocketAt_of_offsetOf (by omega) hq

/-- The arrivals of a dwell, station by station and EC after them. -/
theorem State.arrivals_mirror (s : State) (sensed : Bool) :
    ∃ u, s.ActedIn Station.inOrder u ∧
      s.Mirrors u (s.pocketAt 22) (s.arriveEmptyCheck sensed) (s.arrivals sensed) := by
  have hu := State.ActedIn.inOrder s
  rw [State.arrivals_eq]
  generalize Station.inOrder.foldl State.ownArrival s = u at hu ⊢
  refine ⟨u, hu, ?_⟩
  obtain ⟨hfaults, hlot⟩ := (hu.acted _ (Station.mem_inOrder (.eject .checkReturn))).reports rfl
  have hcr := State.ReportsUnsorted.ownArrival s
  have hoff : s.offsetOf (s.pocketAt 22) = 22 := by
    have hp := s.dial.position.isLt
    simp only [State.offsetOf, State.pocketAt]
    omega
  have hown : s.Mirrors u (s.pocketAt 22) s u := {
    record := hu.elsewhere _ (State.not_stands (by decide) (Station.offset_ne (by simp)) hoff)
    others := fun _ _ => rfl
    live := hu.live
    blocks := rfl
    feed := rfl
    faults := by
      have hcapture := congrArg FaultUnit.pocketCapture hcr.faults
      rw [hfaults, hcr.events, ← hcapture.trans rfl]
    lot := by
      rw [hlot, hcr.lot]
    current := funext fun n => (State.isCurrentLot_of_setting hu.setting n).symm }
  exact hown.arriveEmptyCheck hu.feed rfl (State.pocketAt_of_setting hu.setting 22) sensed

/-- Settles O9: each station finds, at its turn, its own pocket and block and the setting as they stood before the
arrivals, and no station after it touches them; EC comes last. -/
theorem stationsActOnTheirOwnPockets : Obligations.StationsActOnTheirOwnPockets := by
  intro s sensed
  obtain ⟨u, hu, ht⟩ := s.arrivals_mirror sensed
  have hdial := Dial.aside_eq_iff.mp (State.arrivals_aside s sensed)
  have hacted (st : Station) := hu.acted st (Station.mem_inOrder st)
  obtain ⟨hcrFaults, hcrLot⟩ := (hacted (.eject .checkReturn)).reports rfl
  have hcr := State.ReportsUnsorted.ownArrival s
  refine ⟨_, _, _, rfl, rfl, rfl, ?_⟩
  generalize s.arrivals sensed = t at ht hdial ⊢
  have hbefore {q : Fin 24} {k : Nat} (hq : s.offsetOf q = k) (hk : k < 24) (hne : k ≠ 22) :
      t.pocket q = u.pocket q := by
    refine ht.others q fun he => hne (s.pocketAt_injective hk (by decide) ?_)
    rw [State.pocketAt_of_offsetOf hk hq, he]
  have hstation (st : Station) (q : Fin 24) (hq : s.offsetOf q = st.offset) :
      t.pocket q = (s.ownArrival st).pocket q := by
    have hoffset := st.offset_lt
    rw [hbefore hq (by omega) (by omega), ← s.ownArrival_stands hq]
    exact (hacted st).record
  refine ⟨fun q hq => ?_, hstation .load, fun h q hq => hstation (.head h) q ?_,
    fun g => hstation (.eject (.gate g)), hstation (.eject .checkReturn), hstation (.eject .purge), fun q hq => ?_,
    ?_, fun h => ?_, fun c => ?_, fun g => ?_, ?_, ?_, fun st => ?_, hdial, ?_, ?_, ?_, ?_, ?_, ?_, ?_, ?_⟩
  · obtain ⟨hlt, hne, hmem⟩ : s.offsetOf q < 24 ∧ s.offsetOf q ≠ 22 ∧ s.offsetOf q ∈ [1, 2, 4, 6, 7, 22, 23] := by
      simp only [List.mem_cons, List.not_mem_nil, or_false] at hq ⊢
      omega
    rw [hbefore rfl hlt hne]
    exact hu.elsewhere q (State.not_stands hlt (Station.offset_ne hmem) rfl)
  · rw [hq]
    cases h <;> rfl
  · rw [← State.pocketAt_of_offsetOf (by decide) hq]
    exact ht.record
  · rw [ht.blocks]
    exact (hacted .load).feed rfl
  · rw [ht.blocks]
    exact (hacted (.head h)).head h rfl
  · rw [ht.blocks]
    exact (hacted (.eject c)).ejector c rfl
  · rw [ht.blocks]
    exact State.bin_of_setting hu.setting g
  · rw [ht.blocks]
    exact congrArg Setting.purgeMisses hu.setting
  · rw [ht.blocks]
    exact congrArg Setting.settings hu.setting
  · rw [ht.blocks]
    exact (hacted st).busy
  · rw [ht.faults, hcrFaults]
    conv_lhs => rw [hcr.faults]
  · rw [ht.lot, hcrLot]
    conv_lhs => rw [hcr.lot]
  · rw [ht.blocks]
    exact congrArg Setting.banks hu.setting
  · rw [ht.blocks]
    exact congrArg Setting.check hu.setting
  · rw [ht.blocks]
    exact congrArg Setting.link hu.setting
  · rw [ht.blocks]
    exact congrArg Setting.forceClass hu.setting
  · rw [ht.blocks]
    exact congrArg Setting.lines hu.setting
  · rw [ht.blocks]
    exact congrArg Setting.pending hu.setting

end Sys2Proof.Machine
end
